-- ==== Sys2Proof/Word.lean ====
section
/-! DEFINITION. The word types of the NB620 and their plainest arithmetic. -/

namespace Sys2Proof

/-- A byte of DRAM or of a link. -/
abbrev Byte := BitVec 8

/-- A raw sample: an unsigned 16-bit sample unit (00 section 3, "Samples"). -/
abbrev Sample := BitVec 16

/-- A 16-bit field: a kind, a tag, a count modulo 65,536. -/
abbrev Half := BitVec 16

/-- A 32-bit value: a shot clock value, an address, a frame id. -/
abbrev Word := BitVec 32

/-- A count that stops at its maximum `top` and stays there (00 section 3, "Counts that saturate"). -/
def satInc (top n : Nat) : Nat := if n < top then n + 1 else n

end Sys2Proof
end

