-- ==== Sys2Proof/Syntax.lean ====
section
/-! DEFINITION. The commands of the NB620: one constructor of `Instr` for each row of spec/opcode_table.json.
The rows name no operands; a constructor carries what its rule says the event, transaction or request carries.
Request fields are carried raw, as chapter 11 lays them out (R205), so that their owners check and clamp them. -/

namespace Sys2Proof

/-- The card's token for a write sector (R149). -/
inductive Token where
  | accepted | crcReject | writeFault
  deriving DecidableEq, Repr

/-- SETUP_SENSOR's parameters, each present or absent (R191, R205). -/
structure SensorFields where
  wa : Option Half := none
  h : Option Half := none
  ob : Option Half := none
  cfa : Option Half := none
  pedestal : Option Half := none
  passes : Option Half := none
  flushTimeout : Option Half := none
  rowTimeout : Option Half := none
  deriving DecidableEq, Repr

/-- SETUP_STORE's parameters (R205). -/
structure StoreFields where
  retention : Option Half := none
  slotLimit : Option Half := none
  deriving DecidableEq, Repr

/-- SETUP_EXPOSURE's eighteen parameters (R205). -/
structure ExposureFields where
  closeQualify : Option Half := none
  openQualify : Option Half := none
  blankTime : Option Half := none
  syncTimeout : Option Half := none
  closingTail : Option Half := none
  falseStart : Option Half := none
  checkBefore : Option Half := none
  pullIn : Option Half := none
  holdDuty : Option Half := none
  holdLimit : Option Half := none
  openResponse : Option Half := none
  openDeglitch : Option Half := none
  autoDark : Option Half := none
  darkThreshold : Option Word := none
  darkTolerance : Option Half := none
  driftLimit : Option Half := none
  blackCeiling : Option Half := none
  viewWait : Option Half := none
  deriving DecidableEq, Repr

/-- OPEN_VIEW's fields (R118, R205). -/
structure OpenViewFields where
  view : Half
  form : Half
  darkUse : Half
  tone : Half
  frame : Word
  dark : Word
  g0 : Half
  g1 : Half
  g2 : Half
  g3 : Half
  clip : Half
  deriving DecidableEq, Repr

/-- CARD_JOB's fields; the job's tag is the request's (R152, R205). -/
structure CardJobFields where
  tag : Half
  kind : Half
  consign : Bool
  frame : Word
  offset : Word
  address : Word
  length : Word
  start : Word
  deriving DecidableEq, Repr

/-- The commands. Rows are named by the rule spec/opcode_table.json gives them. -/
inductive Instr where
  /-- POWER_ON_RESET (R209). -/
  | powerOnReset
  /-- RESET_END (R209) with the first samples of the contact and of the detect line (R39, R145). -/
  | resetEnd (contactClosed cardIn : Bool)
  /-- PROCESSOR_WRITE (R170): address and bytes; `none` is a byte that is not enabled. -/
  | processorWrite (addr : Word) (bytes : List (Option Byte))
  /-- POST_WRITE (R176): the enabled bytes at offsets 0x0 and 0x1. -/
  | postWrite (lo hi : Option Byte)
  /-- CAUSE_CLEAR_WRITE (R184): the enabled bytes at offsets 0x4 to 0x7. -/
  | causeClearWrite (b4 b5 b6 b7 : Option Byte)
  /-- APERTURE_READ (R127): a processor read of `len` bytes. -/
  | apertureRead (addr : Word) (len : Nat)
  /-- APERTURE_READ_COMPLETE (R126). -/
  | apertureReadComplete
  /-- HELD_READ_EXPIRY (R138). -/
  | heldReadExpiry
  /-- ARBITER_GRANT (R174). -/
  | arbiterGrant
  /-- REQUEST_FETCH (R177). -/
  | requestFetch
  /-- REQUEST_COMPLETE (R178). -/
  | requestComplete
  /-- STATUS_PAGE_WRITE (R186). -/
  | statusPageWrite
  /-- MIRROR_WRITE (R22) of entry `k`. -/
  | mirrorWrite (k : Fin 16)
  /-- CARD_QUEUE_MIRROR_WRITE (R165). -/
  | cardQueueMirrorWrite
  /-- SETUP_SENSOR (R192). -/
  | setupSensor (f : SensorFields)
  /-- SETUP_STORE (R194). -/
  | setupStore (f : StoreFields)
  /-- SETUP_EXPOSURE (R196). -/
  | setupExposure (f : ExposureFields)
  /-- SET_MASK (R183). -/
  | setMask (mask : Half)
  /-- RESTART (R187). The request carries no parameters; the operands say which of the two orders of R143
  (views) and of R168 (card engine) the part takes: the spoil handoff first, or the block's own effect first. -/
  | restart (spoilBeforeViews spoilBeforeCard : Bool)
  /-- RELEASE (R63): shot mode, bulb duration and trip delay in milliseconds. -/
  | release (mode : Half) (bulbMs delayMs : Word)
  /-- ARM (R75). -/
  | arm (stay : Bool)
  /-- DISARM (R76). -/
  | disarm
  /-- CANCEL (R80). -/
  | cancel
  /-- CHECK_RELEASE (R43). -/
  | checkRelease
  /-- CLEAR_FAULTS (R55). -/
  | clearFaults
  /-- TAKE_DARK (R113): duration in microseconds. -/
  | takeDark (duration : Word)
  /-- KEEP (R19). -/
  | keep (id : Word)
  /-- UNKEEP (R19). -/
  | unkeep (id : Word)
  /-- SETTLE (R20). -/
  | settle (id : Word)
  /-- DISCARD (R21). -/
  | discard (id : Word)
  /-- OPEN_VIEW (R119). -/
  | openView (f : OpenViewFields)
  /-- CLOSE_VIEW (R122). -/
  | closeView (view : Half)
  /-- LOAD_TONE (R140): table number and staging address. -/
  | loadTone (table : Half) (addr : Word)
  /-- TONE_BANK_WRITE (R141). -/
  | toneBankWrite
  /-- CARD_JOB (R152). -/
  | cardJob (f : CardJobFields)
  /-- CARD_RESUME (R162). -/
  | cardResume
  /-- CARD_FLUSH (R163). -/
  | cardFlush
  /-- UNKNOWN_REQUEST (R179): a kind that is none of the part's. -/
  | unknownRequest (kind : Half)
  /-- SYNC_RAW_EDGE (R28): the sample's level. -/
  | syncRawEdge (closed : Bool)
  /-- RUN_QUALIFIES (R29). -/
  | runQualifies
  /-- BLANKING_END (R33). -/
  | blankingEnd
  /-- CHECK_END (R42): the test current then flowing, in microamperes. -/
  | checkEnd (microamps : Nat)
  /-- PULL_IN_END (R45). -/
  | pullInEnd
  /-- HOLD_CHOP (R46). -/
  | holdChop
  /-- BULB_END (R47). -/
  | bulbEnd
  /-- HOLD_LIMIT (R47). -/
  | holdLimit
  /-- OPEN_LOAD_LATCH (R50). -/
  | openLoadLatch
  /-- SHORT_DETECTED (R52). -/
  | shortDetected
  /-- LOW_SUPPLY_INDICATION (R54). -/
  | lowSupplyIndication
  /-- TRIP_DELAY_END (R64). -/
  | tripDelayEnd
  /-- FLUSH_DONE (R61). -/
  | flushDone
  /-- START_ACK (R60). -/
  | startAck
  /-- END_ACK (R86). -/
  | endAck
  /-- FLUSH_TIMEOUT (R82). -/
  | flushTimeout
  /-- ACK_TIMEOUT (R82). -/
  | ackTimeout
  /-- SYNC_TIMEOUT (R67). -/
  | syncTimeout
  /-- OPEN_WAIT_EXPIRY (R69). -/
  | openWaitExpiry
  /-- TAIL_END (R71). -/
  | tailEnd
  /-- INTEGRATION_CAP (R73). -/
  | integrationCap
  /-- FALSE_START_WINDOW_EXPIRY (R78). -/
  | falseStartWindowExpiry
  /-- DARK_DURATION_END (R81). -/
  | darkDurationEnd
  /-- ROW_PACKET (R89): row number, samples, check value. -/
  | rowPacket (row : Half) (samples : List Sample) (check : Half)
  /-- ROW_STORED (R89). -/
  | rowStored
  /-- FRAME_END_MARKER (R91). -/
  | frameEndMarker
  /-- FRAME_COMPLETE (R100). -/
  | frameComplete
  /-- READOUT_TIMEOUT (R92). -/
  | readoutTimeout
  /-- DETECT_LINE_CHANGE (R145): the levels of the socket's detect and write-protect switches. -/
  | detectLineChange (cardIn writeProtect : Bool)
  /-- DETECT_DEBOUNCE_EXPIRY (R145). -/
  | detectDebounceExpiry
  /-- IDENTIFY_ANSWER (R146): identity block and check value. -/
  | identifyAnswer (block : List Byte) (check : Half)
  /-- CAPACITY_ANSWER (R146): the four bytes of the sector count as received, and the check value. -/
  | capacityAnswer (bytes : List Byte) (check : Half)
  /-- CARD_INIT_TIMEOUT (R146). -/
  | cardInitTimeout
  /-- SECTOR_FETCHED (R156). -/
  | sectorFetched
  /-- CARD_TOKEN (R149). -/
  | cardToken (token : Token)
  /-- CARD_BUSY_END (R149). -/
  | cardBusyEnd
  /-- SECTOR_LIMIT_EXPIRY (R159). -/
  | sectorLimitExpiry
  /-- READ_SECTOR_RECEIVED (R150): the sector's bytes and check value. -/
  | readSectorReceived (bytes : List Byte) (check : Half)
  /-- READ_SECTOR_STORED (R150). -/
  | readSectorStored
  /-- RAMP_BLANK_END (R49). -/
  | rampBlankEnd
  /-- CURRENT_SENSE_CHANGE (R49): the sensed drive current in microamperes. -/
  | currentSenseChange (microamps : Nat)
  /-- SUPPLY_COMPARATOR_CHANGE (R54): the comparator's new level. -/
  | supplyComparatorChange (low : Bool)
  deriving DecidableEq, Repr

end Sys2Proof
end

