-- ==== Sys2Proof/Decode.lean ====
section
/-! DEFINITION. No row of spec/opcode_table.json gives bits: the NB620 is a block that takes commands, and no word
spells one of them. -/

namespace Sys2Proof

/-- The command that an `nbits`-bit word `w` spells by the table's bits: none, since no row gives bits. (The byte
layout of request records, which are data in DRAM, is read by `Machine.decodeRequest`.) -/
def decodeTableWord (nbits w : Nat) : Option Instr :=
  match nbits, w with
  | _, _ => none

end Sys2Proof
end

