-- ==== Sys2Proof/Config.lean ====
section
/-! DEFINITION. What the manual leaves to the part and the model fixes once. -/

namespace Sys2Proof.Config

/-- What a DRAM byte that nothing has written reads as. The manual says only that the content of DRAM is not
cleared (R189, R24). DESIGN CHOICE (log 4), unsafe: 0. -/
def unwrittenByte : Byte := 0

/-- How many microseconds each handoff between two blocks is on its way, in the order in which they are made; 0, and
every one after the end of the list, is taken within the row that makes it. The manual states no time. Free value (log
23). -/
opaque handoffLags : List Nat

end Sys2Proof.Config
end

