-- ==== Sys2Proof/Machine/State.lean ====
section
/-! DEFINITION. The state of the NB620 as plain data, block by block, and its value after power-on reset. -/

namespace Sys2Proof.Machine

/-- A timer: stopped, or the microseconds it still has to run; `some 0` has run out and waits to be taken.
DEDUCED (log 3), safe: the manual names the shot clock value of the expiry, which is the clock plus what is left. -/
abbrev Timer := Option Nat

/-- DRAM: (address, byte) pairs in one canonical form (`Memory.wf`): addresses strictly rising and below 2 GiB, no
byte equal to what an unlisted address reads as. -/
abbrev Memory := List Host.Cell

/-- Four values, one for each colour channel, gain factor or view. -/
structure Four (α : Type) where
  c0 : α
  c1 : α
  c2 : α
  c3 : α
  deriving DecidableEq, Repr

/-- The value with index `i`. -/
def Four.get {α : Type} (f : Four α) (i : Fin 4) : α :=
  match i with
  | 0 => f.c0
  | 1 => f.c1
  | 2 => f.c2
  | 3 => f.c3

/-- `f` with `a` at index `i`. -/
def Four.set {α : Type} (f : Four α) (i : Fin 4) (a : α) : Four α :=
  match i with
  | 0 => { f with c0 := a }
  | 1 => { f with c1 := a }
  | 2 => { f with c2 := a }
  | 3 => { f with c3 := a }

/-! ## Named values -/

/-- Why a step stops with a fault. -/
inductive Fault where
  /-- Raised by PROCESSOR_WRITE and APERTURE_READ for a transaction that runs past 0xFFFF_FFFF, where the
  processor's 32-bit address space ends (00 section 1.3). Safe: the machine stops (log 14). -/
  | outsideAddressSpace
  deriving DecidableEq, Repr

/-- Why a step is refused. -/
inductive Refusal where
  /-- Raised by `exec` for a command without a meaning. Safe. No arm uses it. -/
  | notModelled (mnemonic : String)
  /-- Raised by a command whose operands cannot stand on their port or link (`Instr.wellFormed`). Safe: no such
  transaction exists (log 14). -/
  | notATransaction
  deriving DecidableEq, Repr

/-- Frame record states (R6). -/
inductive FrameState where
  | free | exposing | readout | complete | spoiled
  deriving DecidableEq, Repr

/-- Frame kinds. -/
inductive FrameKind where
  | light | dark
  deriving DecidableEq, Repr

/-- Spoil reasons (R7). -/
inductive SpoilReason where
  | cancelled | releaseFault | noCable | earlySync | falseStart | lightLeak | linkLost
  | readoutTimeout | sensorFault | restart
  deriving DecidableEq, Repr

/-- Frame origins (01 section 1.2). -/
inductive Origin where
  | release | tripped | autoDark | takenDark
  deriving DecidableEq, Repr

/-- Shot modes (R62). -/
inductive ShotMode where
  | syncWindow | timedBulb
  deriving DecidableEq, Repr

/-- Dark state of a LIGHT record (R13). -/
inductive DarkState where
  | none | pending | linked (dark : Word) | missing
  deriving DecidableEq, Repr

/-- Colour filter phases (R95). -/
inductive Cfa where
  | rggb | grbg | gbrg | bggr
  deriving DecidableEq, Repr

/-- Retention modes (R18). -/
inductive Retention where
  | safe | ring
  deriving DecidableEq, Repr

/-- Open-load responses (R50). -/
inductive OpenResponse where
  | abort | continue
  deriving DecidableEq, Repr

/-- Recording expectations (R34). -/
inductive Expect where
  | none | close | open
  deriving DecidableEq, Repr

/-- Reasons of a missed shot (R38). -/
inductive MissedReason where
  | notArmed | early | readoutBusy | darkRun
  deriving DecidableEq, Repr

/-- Driver phases (R40). -/
inductive Phase where
  | off | check | pullIn | hold
  deriving DecidableEq, Repr

/-- Cable states (R51). -/
inductive Cable where
  | unknown | present | absent
  deriving DecidableEq, Repr

/-- Causes of a drive ended report (R41). -/
inductive DriveEnd where
  | bulbEnd | holdLimit | openAbort | short | lowSupply
  deriving DecidableEq, Repr

/-- Sequencer states (R58). -/
inductive SeqState where
  | unset | idle | armed | delay | preparing | waitSync | open | tail | tripped | darkRun | readout | fault
  deriving DecidableEq, Repr

/-- View states (R117). -/
inductive ViewState where
  | closed | open | broken
  deriving DecidableEq, Repr

/-- View forms (R118). -/
inductive Form where
  | correctedRaw | quadRgb8
  deriving DecidableEq, Repr

/-- Card states (R144). -/
inductive CardState where
  | absent | initializing | ready | unusable
  deriving DecidableEq, Repr

/-- Which initialization answer the card owes (R146). -/
inductive InitStage where
  | identify | capacity
  deriving DecidableEq, Repr

/-- Card job kinds (R151). -/
inductive JobKind where
  | writeFrame | writeMem | readMem
  deriving DecidableEq, Repr

/-- Failure reasons of a job (R151). -/
inductive FailReason where
  | writeFault | crcReject | busyTimeout | readError | writeProtected | sourceLost | cardGone | cancelled
  deriving DecidableEq, Repr

/-- Outcomes in the completion list (R164). -/
inductive JobOutcome where
  | done | failed (reason : FailReason) | cancelled
  deriving DecidableEq, Repr

/-- The condition of the sector in progress (R144). -/
inductive SectorCond where
  | fetching | sending | awaitingToken | busy | receiving | waitingRows
  deriving DecidableEq, Repr

/-- The four memory port clients of the rotation (R174). -/
inductive RotClient where
  | processor | develop | card | record
  deriving DecidableEq, Repr

/-- Result codes (09 section 9.5). -/
inductive ResultCode where
  | ok | clamped | busy | busyDark | notReady | storeFull | fault | noCable | lowSupply | syncStuck
  | badParam | noFrame | inUse | kept | queueFull | noCard | writeProtected | notHalted | unknown
  deriving DecidableEq, Repr

/-- Attention causes (R181). -/
inductive Cause where
  | shotDone | shotSpoiled | missedShot | darkDone | releaseFault | sensorFault | cardDone | cardHalted
  | cardChange | viewBroken | storeFull | overwritten | requestDone | postError
  deriving DecidableEq, Repr

/-- Frame flags (R10). -/
inductive Flag where
  | noSync | noSyncOpen | earlyClose | blankedEdge | extraSync | openLoad | lowSupply | releaseFaultLate
  | truncated | badRows | drift | highBlack | darkMissing
  deriving DecidableEq, Repr

/-- What the part sends out on its output signals (11 Table. Signals). -/
inductive Signal where
  /-- FLUSH, START and END_AND_TRANSFER on the sensor link (R60). -/
  | sensorFlush | sensorStart | sensorEnd
  /-- Identify and read capacity on the card link (R146). -/
  | cardIdentify | cardReadCapacity
  /-- The write and read commands with their start sector, a sector with its CRC-16, the end command (R149, R150). -/
  | cardWrite (start : Word) | cardRead (start : Word) | cardSector (bytes : List Byte) (check : Half) | cardEnd
  /-- The bytes of a completed processor read (R126). -/
  | readData (bytes : List Byte)
  deriving DecidableEq, Repr

/-! ## Outside levels and setup -/

/-- The levels of the part's input signals, as last seen. -/
structure Pins where
  syncClosed : Bool
  detectIn : Bool
  wprot : Bool
  supplyLow : Bool
  /-- Sensed release drive current in microamperes. -/
  sense : Nat
  deriving DecidableEq, Repr

/-- Sensor setup (R190, R192). -/
structure SensorSetup where
  wa : Option Nat
  h : Option Nat
  ob : Nat
  cfa : Cfa
  pedestal : Nat
  passes : Nat
  flushTimeout : Nat
  rowTimeout : Nat
  deriving DecidableEq, Repr

/-- Exposure setup (R190), each parameter in the unit of its table. -/
structure Exposure where
  closeQualify : Nat
  openQualify : Nat
  blankTime : Nat
  syncTimeout : Nat
  closingTail : Nat
  falseStart : Nat
  checkBefore : Bool
  pullIn : Nat
  holdDuty : Nat
  holdLimit : Nat
  openResponse : OpenResponse
  openDeglitch : Nat
  autoDark : Bool
  darkThreshold : Nat
  darkTolerance : Nat
  driftLimit : Nat
  blackCeiling : Nat
  viewWait : Nat
  deriving DecidableEq, Repr

/-- The setup records (R190). -/
structure Setup where
  sensor : SensorSetup
  accepted : Bool
  retention : Retention
  slotLimit : Nat
  exposure : Exposure
  deriving DecidableEq, Repr

/-! ## Frame store -/

/-- The slot layout (R1); all 0 while there is none. -/
structure Layout where
  slotCount : Nat
  slotSize : Nat
  rowWidth : Nat
  frameSize : Nat
  deriving DecidableEq, Repr

/-- The measured black of a frame (R96, R97). -/
structure Blacks where
  level : Four Nat
  mean : Nat
  deriving DecidableEq, Repr

/-- A frame record (01 Table. Frame record fields). The two durations are computed (`Frame.shutterOpen`,
`Frame.integration`). -/
structure Frame where
  state : FrameState
  id : Word
  kind : FrameKind
  spoil : Option SpoilReason
  origin : Origin
  shotMode : Option ShotMode
  release : Option Word
  integStart : Option Word
  syncClose : Option Word
  syncOpen : Option Word
  integEnd : Option Word
  bounce : Nat
  rowsStored : Nat
  badRows : Nat
  firstBad : Option Nat
  blacks : Option Blacks
  flags : BitVec 13
  darkState : DarkState
  awaitDark : Bool
  darkUsers : Nat
  viewPins : Nat
  cardPins : Nat
  keep : Bool
  settled : Bool
  age : Nat
  changeCount : Word
  deriving DecidableEq, Repr

/-- A FREE record with the given change count (R6, R24). -/
def Frame.free (count : Word) : Frame where
  state := .free
  id := 0
  kind := .light
  spoil := none
  origin := .release
  shotMode := none
  release := none
  integStart := none
  syncClose := none
  syncOpen := none
  integEnd := none
  bounce := 0
  rowsStored := 0
  badRows := 0
  firstBad := none
  blacks := none
  flags := 0
  darkState := .none
  awaitDark := false
  darkUsers := 0
  viewPins := 0
  cardPins := 0
  keep := false
  settled := false
  age := 0
  changeCount := count

/-- The frame store. `lodged` is the awaited user of a new dark: the dark's id and the light's (R107, R109).
`mirrorDue` lists the mirror entries whose write is scheduled (R22). -/
structure Store where
  frames : Vector Frame 16
  layout : Layout
  nextId : Word
  lodged : Option (Word × Word)
  mirrorDue : List (Fin 16)
  deriving DecidableEq, Repr

/-! ## Sync input -/

/-- A qualification run (R28). -/
structure Run where
  closing : Bool
  edge : Word
  counted : Nat
  qualify : Nat
  deriving DecidableEq, Repr

/-- The shot target with the times handed with it (R34). -/
structure Target where
  id : Word
  closeQualify : Nat
  openQualify : Nat
  blankTime : Nat
  deriving DecidableEq, Repr

/-- The sync input (R28 to R38). `qualified` is true for CLOSED. `rearmed` is set in the microsecond in which a false
start has turned trip listening on again: a close start of that moment is an ordinary one (R78; log 37). -/
structure SyncInput where
  qualified : Bool
  run : Option Run
  blanking : Timer
  target : Option Target
  expect : Expect
  listening : Bool
  rearmed : Bool
  missed : Option (Word × MissedReason)
  missedCount : Nat
  deriving DecidableEq, Repr

/-! ## Release driver -/

/-- Drive parameters (R40), durations in microseconds, duty in sixteenths. -/
structure DriveParams where
  mode : ShotMode
  bulb : Nat
  pullIn : Nat
  duty : Nat
  holdLimit : Nat
  response : OpenResponse
  deglitch : Nat
  deriving DecidableEq, Repr

/-- The release driver (R40). `checkFor` names the shot whose pre-shot check runs, none for CHECK_RELEASE;
`pendingCheck` the shot whose check is pending (R44). `rampTimer` runs during the ramp blank (R49). -/
structure Driver where
  phase : Phase
  checkTimer : Timer
  checkFor : Option Word
  pendingCheck : Option Word
  cable : Cable
  faultShort : Bool
  faultOpen : Bool
  openTimer : Nat
  shortTimer : Nat
  params : Option DriveParams
  driveStart : Word
  openEval : Bool
  pullTimer : Timer
  holdTimer : Timer
  bulbTimer : Timer
  rampTimer : Timer
  chopOn : Bool
  chopTimer : Timer
  supplyLow : Bool
  supplyFilter : Timer
  deriving DecidableEq, Repr

/-! ## Exposure sequencer -/

/-- The shot in flight (R58) with its running timers. `checking` while the pre-shot check's result is awaited;
`returnArmed` is the return state (R72): ARMED or IDLE. -/
structure Shot where
  id : Word
  slot : Fin 16
  kind : FrameKind
  origin : Origin
  mode : Option ShotMode
  bulb : Nat
  returnArmed : Bool
  params : Exposure
  passesLeft : Nat
  checking : Bool
  duration : Nat
  delayTimer : Timer
  syncTimer : Timer
  capTimer : Timer
  openWait : Timer
  tailTimer : Timer
  windowTimer : Timer
  darkTimer : Timer
  deriving DecidableEq, Repr

/-- The exposure sequencer (R58). `flushWait`, `startWait` and `endWait` run while a FLUSH, START or
END_AND_TRANSFER awaits its answer (R60; log 18). -/
structure Sequencer where
  state : SeqState
  stayArmed : Bool
  shot : Option Shot
  closingFlush : Bool
  refusedTrip : Option Word
  falseStarts : Nat
  flushWait : Timer
  startWait : Timer
  endWait : Timer
  deriving DecidableEq, Repr

/-! ## Readout and dark reference -/

/-- The exposure parameters a light frame's dark decision is made with (R103). -/
structure DarkParams where
  autoDark : Bool
  threshold : Nat
  tolerance : Nat
  driftLimit : Nat
  deriving DecidableEq, Repr

/-- The frame in readout (R85) with the geometry, CFA phase and row timeout taken at the handoff (R199). -/
structure ReadoutFrame where
  id : Word
  slot : Fin 16
  kind : FrameKind
  blackCeiling : Nat
  dark : DarkParams
  base : Nat
  rowWidth : Nat
  rows : Nat
  ob : Nat
  cfa : Cfa
  pedestal : Nat
  rowTimeout : Nat
  deriving DecidableEq, Repr

/-- What is reported with a row's rows-stored value (R90): the counts as they stand after that row. -/
structure RowReport where
  badRows : Nat
  firstBad : Option Nat
  deriving DecidableEq, Repr

/-- The readout unit (R85). IDLE when `frame` is absent. `inFlight` holds the rows taken whose writes have not all
reached DRAM; `marker` is set once the frame-end marker has been taken and completion is awaited (R100). -/
structure Readout where
  frame : Option ReadoutFrame
  expected : Nat
  stored : Nat
  badRows : Nat
  firstBad : Option Nat
  inFlight : List RowReport
  sums : Four Nat
  rowTimer : Timer
  marker : Bool
  history : List Nat
  deriving DecidableEq, Repr

/-- A dark job (R102); `light` is present for AUTO jobs only. -/
structure DarkJob where
  light : Option Word
  duration : Nat
  dark : Word
  retry : Nat
  deriving DecidableEq, Repr

/-- The dark reference unit (R102). -/
structure DarkUnit where
  job : Option DarkJob
  deriving DecidableEq, Repr

/-! ## Develop engine -/

/-- The settings of an OPEN or BROKEN view (R116). -/
structure ViewSettings where
  gains : Four Half
  clip : Half
  tone : Bool
  deriving DecidableEq, Repr

/-- A view record (R116). -/
structure View where
  state : ViewState
  frame : Option Word
  dark : Option Word
  form : Form
  settings : Option ViewSettings
  late : Nat
  rows : Nat
  deriving DecidableEq, Repr

/-- A tone table: two banks and the active bank indicator (false: bank 0) (R116). -/
structure ToneTable where
  bank0 : List Nat
  bank1 : List Nat
  active : Bool
  deriving DecidableEq, Repr

/-- The condition of a read in service (R116). A HELD read holds what is left of its wait. -/
inductive ReadCond where
  | computing | held (wait : Timer)
  deriving DecidableEq, Repr

/-- The read in service (R116): its addresses, the views it found OPEN when it was taken (R123), and, for each tone
table, the bank fixed then (R141). -/
structure Service where
  addr : Nat
  len : Nat
  live : Four Bool
  toneBank0 : Bool
  toneBank1 : Bool
  cond : ReadCond
  deriving DecidableEq, Repr

/-- The entries of an accepted LOAD_TONE that wait to be written (R141). -/
structure ToneLoad where
  table : Bool
  entries : List Nat
  clamped : Bool
  deriving DecidableEq, Repr

/-- The develop engine (R116). -/
structure Develop where
  views : Four View
  tone0 : ToneTable
  tone1 : ToneTable
  service : Option Service
  toneLoad : Option ToneLoad
  deriving DecidableEq, Repr

/-! ## Card engine -/

/-- A card job record in the queue (R151); its state is QUEUED or ACTIVE there. -/
structure Job where
  tag : Half
  kind : JobKind
  frame : Word
  offset : Nat
  address : Nat
  length : Nat
  start : Word
  consign : Bool
  active : Bool
  sectorsDone : Nat
  deriving DecidableEq, Repr

/-- How far the next sector's bytes are while the card is busy with the current one (R149). -/
inductive Prefetch where
  | none | fetching | ready (bytes : List Byte)
  deriving DecidableEq, Repr

/-- An open card transfer (R144). -/
structure Transfer where
  write : Bool
  next : Nat
  buffer : List Byte
  cond : SectorCond
  prefetch : Prefetch
  limit : Timer
  deriving DecidableEq, Repr

/-- The reason an active job takes once its sector is finished (R144); `quiet` when that ending comes after
RESTART's effect and neither halts the queue nor raises CARD_HALTED (R167, R168). -/
structure PendingEnd where
  reason : FailReason
  quiet : Bool
  deriving DecidableEq, Repr

/-- A completion list entry (R164). -/
structure Completion where
  tag : Half
  outcome : JobOutcome
  sectorsDone : Nat
  deriving DecidableEq, Repr

/-- The card engine (R144). `wpSample` is true for PROTECTED. -/
structure CardEngine where
  state : CardState
  detectIn : Bool
  debounce : Timer
  initStage : Option InitStage
  initLimit : Timer
  capacity : Option Word
  wpSample : Option Bool
  jobs : List Job
  halted : Bool
  transfer : Option Transfer
  rows : Nat
  pendingEnd : Option PendingEnd
  completions : List Completion
  pageCount : Word
  mirrorDue : Bool
  deriving DecidableEq, Repr

/-! ## Memory path and request unit -/

/-- One burst waiting for the memory port (R173): a write of some bytes or a read of `len` bytes. -/
inductive Burst where
  | write (cells : List Host.Cell)
  | read (addr len : Nat)
  deriving DecidableEq, Repr

/-- A client of the memory port: its bursts in issue order, and the bytes its reads have brought back. -/
structure Client where
  waiting : List Burst
  got : List Byte
  deriving DecidableEq, Repr

/-- A post write decoded and not yet in effect: its enabled bytes, and how many pass-through bursts must still reach
DRAM first (R172). -/
structure PostWaiting where
  lo : Option Byte
  hi : Option Byte
  left : Nat
  deriving DecidableEq, Repr

/-- A cause clear decoded and not yet in effect (R172, R184). -/
structure ClearWaiting where
  b4 : Option Byte
  b5 : Option Byte
  b6 : Option Byte
  b7 : Option Byte
  left : Nat
  deriving DecidableEq, Repr

/-- A processor write as decoded (R169): the bytes that pass, whether any was dropped, the post and the cause clear
it makes. -/
structure DecodedWrite where
  cells : List Host.Cell
  dropped : Bool
  post : Option (Option Byte × Option Byte)
  clear : Option (Four (Option Byte))
  deriving DecidableEq, Repr

/-- A transaction that waits at the processor port behind a read in service (R171). -/
inductive PortTxn where
  | write (w : DecodedWrite)
  | read (addr len : Nat)
  deriving DecidableEq, Repr

/-- The memory path unit (R169 to R174). -/
structure MemPath where
  readout : Client
  processor : Client
  develop : Client
  card : Client
  record : Client
  rotation : RotClient
  posts : List PostWaiting
  clears : List ClearWaiting
  port : List PortTxn
  drops : Nat
  deriving DecidableEq, Repr

/-- The request in hand: what it asks, as a command, and its tag (R177). -/
structure Hand where
  request : Instr
  tag : Half
  deriving DecidableEq, Repr

/-- The request unit (R175 to R189). `answer` is the result code an owner has returned; `waits` and `waitsQueue` are
the mirror writes that must precede the result word (R23). `causes` and `mask` hold one position for each cause. -/
structure RequestUnit where
  post : Half
  consumed : Half
  hand : Option Hand
  answer : Option ResultCode
  waits : List (Fin 16)
  waitsQueue : Bool
  causes : BitVec 14
  mask : BitVec 14
  attn : Bool
  pageCount : Word
  statusDue : Bool
  deriving DecidableEq, Repr

/-! ## Handoffs on their way (log 23) -/

/-- The reports that the release driver hands the sequencer (R41): a pre-shot check's result, the drive's end with the
shot clock value of its drive off, an open load under CONTINUE. -/
inductive DriverReport where
  | checkResult (present : Bool)
  | driveEnded (cause : DriveEnd) (off : Word)
  | openContinuing
  deriving DecidableEq, Repr

/-- What a block has handed to another and the other has not yet taken: a trip edge that awaits its answer, with the
exposure setup in force at the edge (R37, R199, R201) and whether its run has been abandoned meanwhile; a driver report,
with the shot it belongs to (R70); the readout unit's completion report to the frame store, with the black levels and
the flags it found (R100 step 3); a completed light frame that awaits its dark decision (R100 step 5, R103, R115). -/
inductive Message where
  | tripEdge (edge : Word) (params : Exposure) (abandoned : Bool)
  | driver (shot : Option Word) (report : DriverReport)
  | completion (frame : ReadoutFrame) (blacks : Blacks) (flags : List Flag)
  | completed (frame : ReadoutFrame)
  deriving DecidableEq, Repr

/-- A message and the microseconds until it is taken. -/
structure Handoff where
  message : Message
  lag : Nat
  deriving DecidableEq, Repr

/-! ## The state -/

/-- The whole machine. `handoffs` are on their way between blocks, in the order in which they were made; `lags` are free
values of the model, the microseconds that the next ones will be on their way, 0 where the list has ended (log 23). -/
structure State where
  inReset : Bool
  clock : Word
  pins : Pins
  setup : Setup
  store : Store
  sync : SyncInput
  driver : Driver
  seq : Sequencer
  readout : Readout
  dark : DarkUnit
  develop : Develop
  card : CardEngine
  path : MemPath
  req : RequestUnit
  handoffs : List Handoff
  lags : List Nat
  dram : Memory
  sent : List Signal
  pending : List Instr
  deriving DecidableEq, Repr

/-! ## Reset values -/

/-- The outside levels at reset. DESIGN CHOICE (log 12), unsafe: contact open, no card, slide writable, supply good,
no current. -/
def resetPins : Pins := ⟨false, false, false, false, 0⟩

/-- Defaults of the exposure setup (10 Table. Exposure setup parameters, R202). -/
def defaultExposure : Exposure where
  closeQualify := 200
  openQualify := 500
  blankTime := 800
  syncTimeout := 600
  closingTail := 4
  falseStart := 20
  checkBefore := true
  pullIn := 30
  holdDuty := 6
  holdLimit := 250
  openResponse := .abort
  openDeglitch := 2000
  autoDark := true
  darkThreshold := 1000
  darkTolerance := 1
  driftLimit := 48
  blackCeiling := 3072
  viewWait := 40

/-- The setup records after power-on reset (R202). -/
def resetSetup : Setup where
  sensor := ⟨none, none, 64, .rggb, 2048, 2, 20, 50⟩
  accepted := false
  retention := .safe
  slotLimit := 0
  exposure := defaultExposure

/-- The frame store after power-on reset (R24); the sixteen mirror writes that follow are scheduled. -/
def resetStore : Store where
  frames := Vector.replicate 16 (Frame.free 0)
  layout := ⟨0, 0, 0, 0⟩
  nextId := 1
  lodged := none
  mirrorDue := List.finRange 16

/-- The sync input after power-on reset (R39). -/
def resetSync : SyncInput := ⟨false, none, none, none, .none, false, false, none, 0⟩

/-- The release driver after power-on reset (R57). The drive start and the low-supply indication have no stated
reset value: DESIGN CHOICE (log 12), unsafe. -/
def resetDriver : Driver where
  phase := .off
  checkTimer := none
  checkFor := none
  pendingCheck := none
  cable := .unknown
  faultShort := false
  faultOpen := false
  openTimer := 0
  shortTimer := 0
  params := none
  driveStart := 0
  openEval := false
  pullTimer := none
  holdTimer := none
  bulbTimer := none
  rampTimer := none
  chopOn := false
  chopTimer := none
  supplyLow := false
  supplyFilter := none

/-- The sequencer after power-on reset (R83). -/
def resetSequencer : Sequencer := ⟨.unset, false, none, false, none, 0, none, none, none⟩

/-- The readout unit after power-on reset (R101). -/
def resetReadout : Readout := ⟨none, 0, 0, 0, none, [], ⟨0, 0, 0, 0⟩, none, false, []⟩

/-- The default tone table T[i] = 64 i for i in 0..63 and T[64] = 4,095 (07 section 7.4). -/
def defaultTone : List Nat := (List.range 64).map (64 * ·) ++ [4095]

/-- A tone table after power-on reset (R142). -/
def resetTone : ToneTable := ⟨defaultTone, defaultTone, false⟩

/-- A view after power-on reset (R142). -/
def resetView : View := ⟨.closed, none, none, .correctedRaw, none, 0, 0⟩

/-- The develop engine after power-on reset (R142). -/
def resetDevelop : Develop where
  views := ⟨resetView, resetView, resetView, resetView⟩
  tone0 := resetTone
  tone1 := resetTone
  service := none
  toneLoad := none

/-- The card engine after power-on reset (R166); the mirror write that follows is scheduled. -/
def resetCard : CardEngine where
  state := .absent
  detectIn := false
  debounce := none
  initStage := none
  initLimit := none
  capacity := none
  wpSample := none
  jobs := []
  halted := false
  transfer := none
  rows := 0
  pendingEnd := none
  completions := []
  pageCount := 0
  mirrorDue := true

/-- A client of the memory port with nothing waiting. -/
def idleClient : Client := ⟨[], []⟩

/-- The memory path unit after power-on reset (R189). -/
def resetPath : MemPath :=
  ⟨idleClient, idleClient, idleClient, idleClient, idleClient, .processor, [], [], [], 0⟩

/-- The request unit after power-on reset (R189); the status page write that follows is scheduled. -/
def resetRequests : RequestUnit where
  post := 0
  consumed := 0
  hand := none
  answer := none
  waits := []
  waitsQueue := false
  causes := 0
  mask := 0
  attn := false
  pageCount := 0
  statusDue := true

/-- The machine right after power-on reset: every block in its power-on state, the writes of the mirrors and of the
status page scheduled (R24, R166, R189), no command waiting, no DRAM byte listed. The lags are free values (log 23). -/
def State.reset : State where
  inReset := false
  clock := 0
  pins := resetPins
  setup := resetSetup
  store := resetStore
  sync := resetSync
  driver := resetDriver
  seq := resetSequencer
  readout := resetReadout
  dark := ⟨none⟩
  develop := resetDevelop
  card := resetCard
  path := resetPath
  req := resetRequests
  handoffs := []
  lags := Config.handoffLags
  dram := []
  sent := []
  pending := []

/-! ## Updates of one block -/

/-- `s` with its outside levels changed by `f`; the other updates are named in the same way. -/
def State.onPins (s : State) (f : Pins → Pins) : State := { s with pins := f s.pins }
/-- Update of the setup records. -/
def State.onSetup (s : State) (f : Setup → Setup) : State := { s with setup := f s.setup }
/-- Update of the frame store. -/
def State.onStore (s : State) (f : Store → Store) : State := { s with store := f s.store }
/-- Update of the sync input. -/
def State.onSync (s : State) (f : SyncInput → SyncInput) : State := { s with sync := f s.sync }
/-- Update of the release driver. -/
def State.onDriver (s : State) (f : Driver → Driver) : State := { s with driver := f s.driver }
/-- Update of the exposure sequencer. -/
def State.onSeq (s : State) (f : Sequencer → Sequencer) : State := { s with seq := f s.seq }
/-- Update of the readout unit. -/
def State.onReadout (s : State) (f : Readout → Readout) : State := { s with readout := f s.readout }
/-- Update of the dark reference unit. -/
def State.onDark (s : State) (f : DarkUnit → DarkUnit) : State := { s with dark := f s.dark }
/-- Update of the develop engine. -/
def State.onDevelop (s : State) (f : Develop → Develop) : State := { s with develop := f s.develop }
/-- Update of the card engine. -/
def State.onCard (s : State) (f : CardEngine → CardEngine) : State := { s with card := f s.card }
/-- Update of the memory path unit. -/
def State.onPath (s : State) (f : MemPath → MemPath) : State := { s with path := f s.path }
/-- Update of the request unit. -/
def State.onReq (s : State) (f : RequestUnit → RequestUnit) : State := { s with req := f s.req }
/-- Update of the handoffs on their way. -/
def State.onHandoffs (s : State) (f : List Handoff → List Handoff) : State := { s with handoffs := f s.handoffs }
/-- `s` with one more thing sent out in this step. -/
def State.send (s : State) (x : Signal) : State := { s with sent := s.sent ++ [x] }

end Sys2Proof.Machine
end

