-- ==== Sys2Proof/Machine/Flags.lean ====
section
/-! DEFINITION. Position sets: attention causes (R181, R204) and frame flags (R10, R206). -/

namespace Sys2Proof.Machine

/-- A cause's position (11 Table. Cause positions). -/
def Cause.position : Cause → Nat
  | .shotDone => 0
  | .shotSpoiled => 1
  | .missedShot => 2
  | .darkDone => 3
  | .releaseFault => 4
  | .sensorFault => 5
  | .cardDone => 6
  | .cardHalted => 7
  | .cardChange => 8
  | .viewBroken => 9
  | .storeFull => 10
  | .overwritten => 11
  | .requestDone => 12
  | .postError => 13

/-- The set with one cause. -/
def Cause.bit (c : Cause) : BitVec 14 := 1#14 <<< c.position

/-- A raised cause is added to the set (R181). -/
def raise (c : Cause) (s : State) : State := s.onReq fun r => { r with causes := r.causes ||| c.bit }

/-- The attention line for a cause set and mask (R182). -/
def attention (causes mask : BitVec 14) : Bool := causes &&& mask != 0

/-- A flag's position (11 Table. Flag positions). -/
def Flag.position : Flag → Nat
  | .noSync => 0
  | .noSyncOpen => 1
  | .earlyClose => 2
  | .blankedEdge => 3
  | .extraSync => 4
  | .openLoad => 5
  | .lowSupply => 6
  | .releaseFaultLate => 7
  | .truncated => 8
  | .badRows => 9
  | .drift => 10
  | .highBlack => 11
  | .darkMissing => 12

/-- The set with one flag. -/
def Flag.bit (f : Flag) : BitVec 13 := 1#13 <<< f.position

/-- The flag is in the set. -/
def hasFlag (flags : BitVec 13) (f : Flag) : Bool := flags.getLsbD f.position

/-- A record with a flag added; a flag already present changes nothing (R10). -/
def Frame.withFlag (r : Frame) (f : Flag) : Frame := { r with flags := r.flags ||| f.bit }

end Sys2Proof.Machine
end

