-- ==== Sys2Proof/Machine/Limits.lean ====
section
/-! DEFINITION. The manual's fixed numbers: addresses, times, thresholds. Times are in microseconds. -/

namespace Sys2Proof.Machine

/-- Bytes of DRAM: 2 GiB (00 section 1.1). -/
def dramSize : Nat := 0x80000000
/-- Size of the processor's 32-bit address space (00 section 1.3). -/
def addressSpace : Nat := 0x100000000
/-- Base of the request ring; a slot is 64 bytes (R177). -/
def ringBase : Nat := 0x1000
/-- Base of the status page (00 section 1.3). -/
def statusBase : Nat := 0x2000
/-- Base of the frame table mirror (R22). -/
def mirrorBase : Nat := 0x3000
/-- Base of the card queue mirror (R165). -/
def queueBase : Nat := 0x4000
/-- End of the card queue mirror page. -/
def queueEnd : Nat := 0x5000
/-- First byte of the staging region (00 section 1.3). -/
def stagingBase : Nat := 0x100000
/-- End of the staging region: its last byte is 0x00FF_FFFF. -/
def stagingEnd : Nat := 0x1000000
/-- Base of the frame store region (R1). -/
def storeBase : Nat := 0x1000000
/-- Bytes of the frame store region: 2,032 MiB (R1). -/
def storeSize : Nat := 2032 * 1048576
/-- 1 MiB. -/
def mebi : Nat := 1048576
/-- Base of the view apertures (R123). -/
def apertureBase : Nat := 0x80000000
/-- Size of one aperture: 512 MiB (R123). -/
def apertureSize : Nat := 0x20000000

/-- Length of a passive check: 2 ms (R42). -/
def checkTime : Nat := 2000
/-- Check threshold 0.5 mA, in microamperes (R42). -/
def checkThreshold : Nat := 500
/-- Open threshold 50 mA, in microamperes (R49). -/
def openThreshold : Nat := 50000
/-- Short threshold 3 A, in microamperes (R52). -/
def shortThreshold : Nat := 3000000
/-- Ramp blank: 1 ms (R49). -/
def rampBlank : Nat := 1000
/-- Short detection time: 10 microseconds (R52). -/
def shortTime : Nat := 10
/-- Largest value of the open-load timer (R40). -/
def openTimerTop : Nat := 10000
/-- Supply filter: 100 microseconds (R54). -/
def supplyTime : Nat := 100
/-- Chop period: 64 microseconds (R46). -/
def chopPeriod : Nat := 64
/-- Acknowledge limit: 1 ms (R60). -/
def ackLimit : Nat := 1000
/-- Integration cap (R73). -/
def integrationCapTime : Nat := 3600000000
/-- Card detect debounce: 25 ms (R145). -/
def debounceTime : Nat := 25000
/-- Initialization limit: 1 s (R146). -/
def initTime : Nat := 1000000
/-- Sector limit: 500 ms (R149, R150). -/
def sectorTime : Nat := 500000
/-- Jobs the card queue holds (R154). -/
def queueTop : Nat := 16
/-- Entries the completion list keeps (R164). -/
def completionTop : Nat := 8
/-- Entries the black history keeps (R98). -/
def historyTop : Nat := 6
/-- Retries of a leaking dark (R110). -/
def darkRetries : Nat := 2

end Sys2Proof.Machine
end

