-- ==== Sys2Proof/Machine/Ops.lean ====
section
/-! DEFINITION. Named operations shared by the meanings: timers, DRAM, byte order, the CRC-16, bursts and the memory
port arbiter (09 section 9.3). -/

namespace Sys2Proof.Machine

/-! ## Timers -/

/-- One microsecond of a timer: a running one has one less to run, down to 0. -/
def timerTick (t : Timer) : Timer := t.map (· - 1)

/-- The timer has run out and waits to be taken. -/
def timerDue (t : Timer) : Bool := t == some 0

/-- Milliseconds on the shot clock (00 section 3, "Time"). -/
def ms (n : Nat) : Nat := n * 1000

/-! ## DRAM -/

/-- The byte at address `a`. -/
def Memory.read : Memory → Nat → Byte
  | [], _ => Config.unwrittenByte
  | (k, v) :: rest, a => if k = a then v else if a < k then Config.unwrittenByte else Memory.read rest a

/-- Insertion of a byte that keeps the canonical form. -/
def Memory.insert : Memory → Nat → Byte → Memory
  | [], a, b => if b = Config.unwrittenByte then [] else [(a, b)]
  | (k, v) :: rest, a, b =>
    if a < k then (if b = Config.unwrittenByte then (k, v) :: rest else (a, b) :: (k, v) :: rest)
    else if a = k then (if b = Config.unwrittenByte then rest else (a, b) :: rest)
    else (k, v) :: Memory.insert rest a b

/-- A byte written at `a`. Beyond 2 GiB there is no DRAM and nothing is written (log 30). -/
def Memory.write (m : Memory) (a : Nat) (b : Byte) : Memory :=
  if a < dramSize then Memory.insert m a b else m

/-- Several bytes written in order. -/
def Memory.writeCells (m : Memory) (cells : List Host.Cell) : Memory :=
  cells.foldl (fun m c => Memory.write m c.1 c.2) m

/-- `n` bytes from address `a`. -/
def Memory.readBytes (m : Memory) (a n : Nat) : List Byte :=
  (List.range n).map fun i => Memory.read m (a + i)

/-- The canonical form: every listed address is at or above `lo`, strictly rising and below 2 GiB, and no listed byte
is the unwritten one. -/
def Memory.wfFrom : Nat → Memory → Bool
  | _, [] => true
  | lo, (k, v) :: rest =>
    decide (lo ≤ k) && decide (k < dramSize) && decide (v ≠ Config.unwrittenByte) && Memory.wfFrom (k + 1) rest

/-- The canonical form of DRAM. -/
def Memory.wf (m : Memory) : Bool := Memory.wfFrom 0 m

/-! ## Byte order -/

/-- `n` bytes of a value, least significant first (R204). -/
def leBytes : Nat → Nat → List Byte
  | 0, _ => []
  | n + 1, v => BitVec.ofNat 8 v :: leBytes n (v / 256)

/-- The value of little-endian bytes. -/
def leValue : List Byte → Nat
  | [] => 0
  | b :: rest => b.toNat + 256 * leValue rest

/-- The cells of consecutive bytes from address `a`. -/
def cellsAt : Nat → List Byte → List Host.Cell
  | _, [] => []
  | a, b :: rest => (a, b) :: cellsAt (a + 1) rest

/-! ## CRC-16 (R88) -/

/-- One bit into the check register. -/
def crcBit (reg : Half) (bit : Bool) : Half :=
  if reg.msb != bit then (reg <<< 1) ^^^ 0x1021 else reg <<< 1

/-- One byte, most significant bit first. -/
def crcByte (reg : Half) (b : Byte) : Half :=
  [7, 6, 5, 4, 3, 2, 1, 0].foldl (fun r i => crcBit r (b.getLsbD i)) reg

/-- The check value over bytes: start 0xFFFF, polynomial 0x1021, no final inversion. -/
def crc16 (bytes : List Byte) : Half := bytes.foldl crcByte 0xFFFF

/-! ## Bursts (R173) -/

/-- Cells grouped by the aligned 64-byte block of DRAM they lie in, in order. -/
def blockGroups : List Host.Cell → List (List Host.Cell)
  | [] => []
  | c :: rest =>
    match blockGroups rest with
    | (d :: g) :: gs => if c.1 / 64 = d.1 / 64 then (c :: d :: g) :: gs else [c] :: (d :: g) :: gs
    | gs => [c] :: gs

/-- The write bursts of some cells: one for each block they touch. R173 states it of a transaction of the processor port;
that the samples of a row and the bytes of a sector share their bursts so too is the model's choice (DESIGN CHOICE,
log 39), and so it is for mirrors and pages (DESIGN CHOICE, log 59). -/
def writeBursts (cells : List Host.Cell) : List Burst := (blockGroups cells).map .write

/-- The read bursts of the bytes at some addresses, one for each block (R173; for a sector log 39); the addresses of a
group are consecutive. -/
def readBursts (addrs : List Nat) : List Burst :=
  (blockGroups (addrs.map fun a => (a, 0))).map fun g => .read ((g.head?.map (·.1)).getD 0) g.length

/-! ## The memory port arbiter (R173, R174) -/

/-- The client of a rotation place. -/
def MemPath.client (p : MemPath) : RotClient → Client
  | .processor => p.processor
  | .develop => p.develop
  | .card => p.card
  | .record => p.record

/-- `p` with the client of a rotation place replaced. -/
def MemPath.setClient (p : MemPath) (c : RotClient) (x : Client) : MemPath :=
  match c with
  | .processor => { p with processor := x }
  | .develop => { p with develop := x }
  | .card => { p with card := x }
  | .record => { p with record := x }

/-- The place after `c` in the rotation: processor pass-through, develop fetches, card engine, record traffic. -/
def RotClient.succ : RotClient → RotClient
  | .processor => .develop
  | .develop => .card
  | .card => .record
  | .record => .processor

/-- The four rotating clients from `c` on. -/
def rotationFrom (c : RotClient) : List RotClient := [c, c.succ, c.succ.succ, c.succ.succ.succ]

/-- The first rotating client with a burst waiting (R174). -/
def MemPath.nextClient (p : MemPath) : Option RotClient :=
  (rotationFrom p.rotation).find? fun c => !(p.client c).waiting.isEmpty

/-- The bytes a burst brings back. -/
def burstGot (m : Memory) : Burst → List Byte
  | .write _ => []
  | .read a n => Memory.readBytes m a n

/-- DRAM after a burst. -/
def burstDram (m : Memory) : Burst → Memory
  | .write cells => Memory.writeCells m cells
  | .read _ _ => m

/-- A client after its first burst has been served. -/
def Client.served (c : Client) (got : List Byte) : Client :=
  { waiting := c.waiting.tail, got := c.got ++ got }

/-- Pass-through has moved on by one burst: the posts and cause clears wait for one less (R172). -/
def MemPath.landed (p : MemPath) : MemPath :=
  { p with posts := p.posts.map fun e => { e with left := e.left - 1 }
           clears := p.clears.map fun e => { e with left := e.left - 1 } }

/-- The arbiter grants the next burst (R174): readout first, without moving the rotation; otherwise the first waiting
client in the rotation, which then begins after it. Nothing happens while no client waits. -/
def grant (s : State) : State :=
  match s.path.readout.waiting with
  | b :: _ =>
    { s with path := { s.path with readout := s.path.readout.served (burstGot s.dram b) }
             dram := burstDram s.dram b }
  | [] =>
    match s.path.nextClient with
    | none => s
    | some c =>
      match (s.path.client c).waiting with
      | [] => s
      | b :: _ =>
        let p := s.path.setClient c ((s.path.client c).served (burstGot s.dram b))
        let p := { p with rotation := c.succ }
        { s with path := if c = .processor then p.landed else p
                 dram := burstDram s.dram b }

/-- Grants in turn until `stop` holds of the memory path, at most `fuel` of them. -/
def grantUntil (stop : MemPath → Bool) : Nat → State → State
  | 0, s => s
  | n + 1, s => if stop s.path then s else grantUntil stop n (grant s)

/-- Bursts waiting at all five clients. -/
def MemPath.total (p : MemPath) : Nat :=
  p.readout.waiting.length + p.processor.waiting.length + p.develop.waiting.length
    + p.card.waiting.length + p.record.waiting.length

/-- Grants in the arbiter's order until client `c` has nothing waiting. A row that ends a movement of data carries it
through in this way (log 7). -/
def drain (c : RotClient) (s : State) : State :=
  grantUntil (fun p => (p.client c).waiting.isEmpty) s.path.total s

/-- Grants until the readout client has nothing waiting (R173). -/
def drainReadout (s : State) : State :=
  grantUntil (fun p => p.readout.waiting.isEmpty) s.path.total s

/-- Client `c` issues bursts after those it has waiting. -/
def issue (c : RotClient) (bs : List Burst) (s : State) : State :=
  s.onPath fun p => p.setClient c { p.client c with waiting := (p.client c).waiting ++ bs }

/-- The readout client issues bursts. -/
def issueReadout (bs : List Burst) (s : State) : State :=
  s.onPath fun p => { p with readout := { p.readout with waiting := p.readout.waiting ++ bs } }

/-- Record traffic writes some bytes: their bursts are issued behind earlier record traffic and carried through
(R173; log 8). R173 bounds a burst, but no rule cuts a mirror's or page's body into bursts: that each write takes one
for each aligned 64-byte block, in ascending order, and that the queue length of R207 is a write of its own behind the
entries, is the model's choice (DESIGN CHOICE, log 59). -/
def recordWrite (a : Nat) (bytes : List Byte) (s : State) : State :=
  drain .record (issue .record (writeBursts (cellsAt a bytes)) s)

/-- The bytes client `c`'s reads have brought back, at its end `n` of them; the client keeps the others. -/
def takeGot (c : RotClient) (n : Nat) (s : State) : State × List Byte :=
  let got := (s.path.client c).got
  let keep := got.length - n
  (s.onPath fun p => p.setClient c { p.client c with got := got.take keep }, got.drop keep)

/-- Record traffic reads `n` bytes at `a` (R177). -/
def recordRead (a n : Nat) (s : State) : State × List Byte :=
  takeGot .record n (drain .record (issue .record (readBursts ((List.range n).map (a + ·))) s))

end Sys2Proof.Machine
end

