-- ==== Sys2Proof/Machine/FrameStore.lean ====
section
/-! DEFINITION. The frame store (chapter 1): slot layout, frame records, holds, allocation and retention. -/

namespace Sys2Proof.Machine

/-! ## Layout (R1, R2) -/

/-- The slot layout of a geometry and a slot limit (R1). -/
def layoutOf (wa h ob limit : Nat) : Layout :=
  let width := ob + wa
  let data := width * h * 2
  let size := (data + (mebi - 1)) / mebi * mebi
  let fit := min 16 (storeSize / size)
  { slotCount := if limit = 0 then fit else min fit limit, slotSize := size, rowWidth := width, frameSize := data }

/-- Base address of slot `k` (R2). -/
def Layout.base (l : Layout) (k : Nat) : Nat := storeBase + k * l.slotSize

/-- Mirror writes of some entries are scheduled, whatever a comparison of the records would find, and the request in hand
waits for them (R22, R23). -/
def awaitMirrors (ks : List (Fin 16)) (s : State) : State :=
  (s.onStore fun t => { t with mirrorDue := t.mirrorDue ++ ks }).onReq fun r => { r with waits := r.waits ++ ks }

/-- The store computes the layout and schedules all sixteen mirror entries, which the request in hand waits for
(R1, R22, R193, R195). -/
def computeLayout (s : State) : State :=
  let w := s.setup.sensor
  awaitMirrors (List.finRange 16)
    (s.onStore fun t => { t with layout := layoutOf (w.wa.getD 0) (w.h.getD 0) w.ob s.setup.slotLimit })

/-! ## Records -/

/-- Frame record `k`. -/
def State.frame (s : State) (k : Fin 16) : Frame := s.store.frames[k]

/-- The sixteen record numbers. -/
def slots : List (Fin 16) := List.finRange 16

/-- `s` with record `k` replaced. -/
def State.setFrame (s : State) (k : Fin 16) (f : Frame) : State :=
  s.onStore fun t => { t with frames := t.frames.set k f }

/-- Every record changed by `f`. -/
def mapFrames (f : Frame → Frame) (v : Vector Frame 16) : Vector Frame 16 :=
  ⟨(v.toList.map f).toArray, by simp⟩

/-- The later minus the earlier timestamp, modulo 2^32, when both are present (R8). -/
def duration (start stop : Option Word) : Option Word :=
  match start, stop with
  | some a, some b => some (b - a)
  | _, _ => none

/-- The shutter-open time (R8). -/
def Frame.shutterOpen (f : Frame) : Option Word := duration f.syncClose f.syncOpen

/-- The integration time (R8). -/
def Frame.integration (f : Frame) : Option Word := duration f.integStart f.integEnd

/-- The record a frame id names: the non-FREE record that holds it. Id 0 names none (R4). -/
def State.find (s : State) (id : Word) : Option (Fin 16) :=
  if id = 0 then none else slots.find? fun k => (s.frame k).state != .free && (s.frame k).id == id

/-- A report: the non-FREE record with the id is changed, or the report is dropped (R9). -/
def report (id : Word) (f : Frame → Frame) (s : State) : State :=
  match s.find id with
  | some k => s.setFrame k (f (s.frame k))
  | none => s

/-- A state report finds the record in one of the states it requires, or is dropped (R6, R9). -/
def Frame.inFlight (f : Frame) : Bool := f.state == .exposing || f.state == .readout

/-! ## Holds (R11 to R14) -/

/-- The blocked condition (R14). -/
def Frame.blocked (f : Frame) : Bool :=
  decide (0 < f.viewPins) || decide (0 < f.cardPins) || f.keep || decide (0 < f.darkUsers)
    || f.darkState == .pending || f.awaitDark || f.inFlight

/-- Slot `k` is protected while record `k` is not FREE (R3). -/
def State.protectedSlot (s : State) (k : Fin 16) : Bool := (s.frame k).state != .free

/-- The slot that holds an address, if any (R2). -/
def State.slotAt (s : State) (a : Nat) : Option (Fin 16) :=
  slots.find? fun k =>
    decide (k.val < s.store.layout.slotCount ∧ s.store.layout.base k.val ≤ a
      ∧ a < s.store.layout.base k.val + s.store.layout.slotSize)

/-! ## Becoming FREE (R5, R13, R15, R21) -/

/-- A dark loses a user (R13). -/
def Frame.loseUser (f : Frame) : Frame := { f with darkUsers := f.darkUsers - 1 }

/-- The link of a record that becomes FREE is given up (R13). -/
def dropLink (d : DarkState) (s : State) : State :=
  match d with
  | .linked d => report d Frame.loseUser s
  | _ => s

/-- A rank above that of a record that becomes FREE is lowered by one (R5). -/
def Frame.closeRank (freed : Nat) (f : Frame) : Frame :=
  if f.state != .free && decide (freed < f.age) then { f with age := f.age - 1 } else f

/-- The age ranks close up (R5). -/
def closeRanks (freed : Nat) (s : State) : State :=
  s.onStore fun t => { t with frames := mapFrames (Frame.closeRank freed) t.frames }

/-- Record `k` becomes FREE: the dark it links loses a user, higher age ranks close up, its fields become absent and its
change count stays (R5, R13). -/
def freeRecord (k : Fin 16) (s : State) : State :=
  let f := s.frame k
  (closeRanks f.age (dropLink f.darkState s)).setFrame k (Frame.free f.changeCount)

/-! ## Allocation (R4, R5, R15 to R17) -/

/-- The candidate group of a record under a retention mode, if it is a candidate (R15). -/
def Frame.group (ring : Bool) (f : Frame) : Option Nat :=
  match f.state with
  | .free => some 1
  | .spoiled => if f.blocked then none else some 2
  | .complete =>
    if f.blocked then none
    else if f.kind = .dark then some 3
    else if f.settled then some 4
    else if ring then some 5 else none
  | _ => none

/-- The group of record `k`: only records 0..S-1 are considered (R15). -/
def State.groupOf (s : State) (k : Fin 16) : Option Nat :=
  if k.val < s.store.layout.slotCount then (s.frame k).group (s.setup.retention == .ring) else none

/-- The first record of a list with the least rank. -/
def leastBy (rank : Fin 16 → Nat) : List (Fin 16) → Option (Fin 16)
  | [] => none
  | k :: rest =>
    match leastBy rank rest with
    | none => some k
    | some j => if rank j < rank k then some j else some k

/-- The first candidate of a group: lowest index for group 1, oldest for the others (R15). -/
def State.candidateIn (s : State) (g : Nat) : Option (Fin 16) :=
  leastBy (fun k => if g = 1 then k.val else (s.frame k).age) (slots.filter fun k => s.groupOf k == some g)

/-- The candidate an allocation takes, with its group (R15). -/
def State.candidate (s : State) : Option (Nat × Fin 16) :=
  [1, 2, 3, 4, 5].findSome? fun g => (s.candidateIn g).map fun k => (g, k)

/-- The allocatable count (R17). -/
def State.allocatable (s : State) : Nat := (slots.filter fun k => (s.groupOf k).isSome).length

/-- The ids held by non-FREE records. -/
def State.heldIds (s : State) : List Word :=
  (slots.filter fun k => (s.frame k).state != .free).map fun k => (s.frame k).id

/-- The counter advanced by one; 0xFFFF_FFFF goes to 1 (R4). -/
def nextIdAfter (c : Word) : Word := if c = 0xFFFFFFFF then 1 else c + 1

/-- The counter advanced past ids that records hold (R4); at most sixteen are held. -/
def passHeld (held : List Word) : Nat → Word → Word
  | 0, c => c
  | n + 1, c => if held.contains c then passHeld held n (nextIdAfter c) else c

/-- The new record of an allocation (R16). -/
def newFrame (id : Word) (kind : FrameKind) (origin : Origin) (mode : Option ShotMode) (age : Nat) (count : Word) : Frame :=
  { Frame.free count with state := .exposing, id := id, kind := kind, origin := origin, shotMode := mode, age := age }

/-- An allocation (R15 to R17): the slot and the frame id, or none with STORE_FULL raised. A group 5 reclaim raises
OVERWRITTEN. The id is examined against the table before the reclaim, and the advanced counter against the table after
it: DEDUCED (log 16). -/
def allocate (kind : FrameKind) (origin : Origin) (mode : Option ShotMode) (s : State) : State × Option (Fin 16 × Word) :=
  match s.candidate with
  | none => (raise .storeFull s, none)
  | some (g, k) =>
    let id := passHeld s.heldIds 17 s.store.nextId
    let s := if g = 1 then s else freeRecord k s
    let s := if g = 5 then raise .overwritten s else s
    let age := s.heldIds.length
    let s := s.setFrame k (newFrame id kind origin mode age (s.frame k).changeCount)
    let next := passHeld s.heldIds 17 (nextIdAfter id)
    (s.onStore fun t => { t with nextId := next }, some (k, id))

end Sys2Proof.Machine
end

