-- ==== Sys2Proof/Machine/DevelopOps.lean ====
section
/-! DEFINITION. The develop engine's shared operations (chapter 7): channels, per-sample arithmetic, tone map,
aperture mapping, the read in service, and the handoffs of rows and spoils. -/

namespace Sys2Proof.Machine

/-! ## Colour channels (R95) -/

/-- The channel of sample (r, j): 0 red, 1 green on red rows, 2 green on blue rows, 3 blue. -/
def channelOf (cfa : Cfa) (r j : Nat) : Fin 4 :=
  match cfa, r % 2 == 0, j % 2 == 0 with
  | .rggb, true, true => 0
  | .rggb, true, false => 1
  | .rggb, false, true => 2
  | .rggb, false, false => 3
  | .grbg, true, true => 1
  | .grbg, true, false => 0
  | .grbg, false, true => 3
  | .grbg, false, false => 2
  | .gbrg, true, true => 2
  | .gbrg, true, false => 3
  | .gbrg, false, true => 0
  | .gbrg, false, false => 1
  | .bggr, true, true => 3
  | .bggr, true, false => 2
  | .bggr, false, true => 1
  | .bggr, false, false => 0

/-! ## Per-sample arithmetic (R128 to R135) -/

/-- The dark excess e of a dark sample with black level `black` (R129). -/
def darkExcess (dark black clip : Nat) : Int := if dark < clip then (dark : Int) - black else 0

/-- The developed value v3 of a sample (R130, R131). -/
def developSample (sample black : Nat) (excess : Int) (gain clip : Nat) : Nat :=
  if clip ≤ sample then 65535
  else min ((((sample : Int) - black - excess).toNat * gain + 2048) / 4096) 65535

/-- The tone level y of a value (R133). The division is a floor. -/
def toneLevel (tone : List Nat) (v : Nat) : Nat :=
  let i := v / 1024
  let f := v % 1024
  let t0 : Int := (tone[i]?).getD 0
  let t1 : Int := (tone[i + 1]?).getD 0
  (t0 + ((t1 - t0) * f + 512) / 1024).toNat

/-- The colour byte of a tone level (R134). -/
def colourByte (y : Nat) : Nat := min ((y + 8) / 16) 255

/-- The mark byte M (R135). -/
def markByte (clip : Nat) (samples darks : List Nat) : Nat :=
  if samples.any fun v => decide (clip ≤ v) then 1 else if darks.any fun v => decide (clip ≤ v) then 2 else 0

/-! ## Views -/

/-- The four view indices. -/
def viewIndices : List (Fin 4) := [0, 1, 2, 3]

/-- View record `v`. -/
def State.view (s : State) (v : Fin 4) : View := s.develop.views.get v

/-- `s` with view record `v` replaced. -/
def State.setView (s : State) (v : Fin 4) (x : View) : State :=
  s.onDevelop fun d => { d with views := d.views.set v x }

/-- The view's pins on its frame and its dark are released (R11, R117). -/
def unpinView (x : View) (s : State) : State :=
  let unpin (id : Option Word) (s : State) : State :=
    match id with
    | some i => report i (fun f => { f with viewPins := f.viewPins - 1 }) s
    | none => s
  unpin x.dark (unpin x.frame s)

/-- A view as it is once closed (R122, R143): form and late count are kept. The rules do not name rows available: that it
keeps its value is the model's choice (DESIGN CHOICE, log 52). -/
def View.shut (x : View) : View := { x with state := .closed, frame := none, dark := none, settings := none }

/-! ## Aperture mapping (R123 to R125) -/

/-- Active width in force. -/
def State.width (s : State) : Nat := s.setup.sensor.wa.getD 0

/-- Height in force. -/
def State.height (s : State) : Nat := s.setup.sensor.h.getD 0

/-- The view whose aperture holds an address (R123). -/
def viewOf (a : Nat) : Fin 4 := ⟨(a - apertureBase) / apertureSize % 4, Nat.mod_lt _ (by decide)⟩

/-- The aperture offset of an address (R123). -/
def offsetOf (a : Nat) : Nat := (a - apertureBase) % apertureSize

/-- The image size of a form (R123). -/
def State.imageSize (s : State) : Form → Nat
  | .correctedRaw => s.width * s.height * 2
  | .quadRgb8 => s.width * s.height

/-- For each view, whether it is OPEN. -/
def State.openViews (s : State) : Four Bool :=
  ⟨(s.view 0).state == .open, (s.view 1).state == .open, (s.view 2).state == .open, (s.view 3).state == .open⟩

/-- The byte at an aperture address is part of a developed pixel: its view was OPEN when the read was taken, as `live`
says, and still is (R123). -/
def State.isPixel (s : State) (live : Four Bool) (a : Nat) : Bool :=
  let x := s.view (viewOf a)
  live.get (viewOf a) && x.state == .open && decide (offsetOf a < s.imageSize x.form)

/-- Bytes of a pixel. -/
def Form.pixelBytes : Form → Nat
  | .correctedRaw => 2
  | .quadRgb8 => 4

/-- The raw positions (r, j) of the pixel at an aperture offset (R124, R125), in the order of the quad. -/
def State.positions (s : State) (form : Form) (o : Nat) : List (Nat × Nat) :=
  let ob := s.setup.sensor.ob
  match form with
  | .correctedRaw => [(o / 2 / s.width, o / 2 % s.width + ob)]
  | .quadRgb8 =>
    let qx := o / 4 % (s.width / 2)
    let qy := o / 4 / (s.width / 2)
    [(2 * qy, 2 * qx + ob), (2 * qy, 2 * qx + ob + 1), (2 * qy + 1, 2 * qx + ob), (2 * qy + 1, 2 * qx + ob + 1)]

/-- The pixel at an aperture address is available: every frame row it covers lies below rows available (R127). -/
def State.pixelReady (s : State) (a : Nat) : Bool :=
  let x := s.view (viewOf a)
  (s.positions x.form (offsetOf a)).all fun p => decide (p.1 < x.rows)

/-- Address of sample (r, j) of slot `k` (R2). -/
def State.sampleAddr (s : State) (k : Fin 16) (p : Nat × Nat) : Nat :=
  s.store.layout.base k.val + (p.1 * s.store.layout.rowWidth + p.2) * 2

/-- The sample at (r, j) of slot `k`. -/
def State.sample (s : State) (k : Fin 16) (p : Nat × Nat) : Nat := leValue (Memory.readBytes s.dram (s.sampleAddr k p) 2)

/-- The black level of channel `c` of record `k`: the pedestal while it has none (R128). -/
def State.black (s : State) (k : Fin 16) (c : Fin 4) : Nat :=
  ((s.frame k).blacks.map fun b => b.level.get c).getD s.setup.sensor.pedestal

/-- The developed value of the sample at (r, j) of frame `k` with dark `d` (R128 to R131). -/
def State.develops (s : State) (x : ViewSettings) (k : Fin 16) (d : Option (Fin 16)) (p : Nat × Nat) : Nat :=
  let c := channelOf s.setup.sensor.cfa p.1 p.2
  let excess := (d.map fun d => darkExcess (s.sample d p) (s.black d c) x.clip.toNat).getD 0
  developSample (s.sample k p) (s.black k c) excess (x.gains.get c).toNat x.clip.toNat

/-- The developed value of the sample of channel `c` among some positions. -/
def State.channelValue (s : State) (x : ViewSettings) (k : Fin 16) (d : Option (Fin 16)) (ps : List (Nat × Nat))
    (c : Fin 4) : Nat :=
  ((ps.find? fun p => channelOf s.setup.sensor.cfa p.1 p.2 == c).map (s.develops x k d)).getD 0

/-- The bytes of a pixel, lowest address first (R124, R125, R132). -/
def State.pixelBytes (s : State) (form : Form) (x : ViewSettings) (tone : List Nat) (k : Fin 16) (d : Option (Fin 16))
    (ps : List (Nat × Nat)) : List Nat :=
  match form with
  | .correctedRaw =>
    let v := ((ps.head?).map (s.develops x k d)).getD 0
    [v % 256, v / 256]
  | .quadRgb8 =>
    let v := s.channelValue x k d ps
    let colour (v : Nat) : Nat := colourByte (toneLevel tone v)
    [colour (v 0), colour ((v 1 + v 2 + 1) / 2), colour (v 3),
      markByte x.clip.toNat (ps.map (s.sample k)) ((d.map fun d => ps.map (s.sample d)).getD [])]

/-! ## Tone tables (R116, R141) -/

/-- The entries of a bank. -/
def ToneTable.bank (t : ToneTable) (b : Bool) : List Nat := if b then t.bank1 else t.bank0

/-- The idle bank of a table replaced and made active (R141). -/
def ToneTable.load (t : ToneTable) (entries : List Nat) : ToneTable :=
  if t.active then { t with bank0 := entries, active := false } else { t with bank1 := entries, active := true }

/-- The table the read in service uses for a tone select (R141). -/
def State.toneFor (s : State) (sv : Service) (select : Bool) : List Nat :=
  if select then s.develop.tone1.bank sv.toneBank1 else s.develop.tone0.bank sv.toneBank0

/-! ## The read in service (R126, R127, R136) -/

/-- The addresses of a read. -/
def readAddrs (addr len : Nat) : List Nat := (List.range len).map (addr + ·)

/-- The developed byte at an aperture address; a byte of no pixel and of an unavailable pixel is 0 (R123, R138). -/
def State.apertureByte (s : State) (sv : Service) (a : Nat) : Byte :=
  let x := s.view (viewOf a)
  let o := offsetOf a
  if s.isPixel sv.live a && s.pixelReady a then
    match x.settings, x.frame.bind s.find with
    | some g, some k =>
      let bytes := s.pixelBytes x.form g (s.toneFor sv g.tone) k (x.dark.bind s.find) (s.positions x.form o)
      BitVec.ofNat 8 ((bytes[o % x.form.pixelBytes]?).getD 0)
    | _, _ => 0
  else 0

/-- The sample fetches of the pixel at an aperture address: frame samples, then dark samples (R127), each one burst of
its two bytes (DESIGN CHOICE, log 39). -/
def State.pixelFetches (s : State) (a : Nat) : List Burst :=
  let x := s.view (viewOf a)
  let ps := s.positions x.form (offsetOf a)
  let from_ (id : Option Word) : List Burst :=
    ((id.bind s.find).map fun k => ps.map fun p => Burst.read (s.sampleAddr k p) 2).getD []
  from_ x.frame ++ from_ x.dark

/-- The develop fetches of a read: each touched available pixel once (R126, R127). -/
def State.readFetches (s : State) (sv : Service) : List Burst :=
  (readAddrs sv.addr sv.len).flatMap fun a =>
    if decide (apertureBase ≤ a) && s.isPixel sv.live a && s.pixelReady a
        && (a == sv.addr || offsetOf a % (s.view (viewOf a)).form.pixelBytes == 0) then s.pixelFetches a
    else []

/-- Every pixel a read touches is available. -/
def State.readReady (s : State) (sv : Service) : Bool :=
  (readAddrs sv.addr sv.len).all fun a => decide (a < apertureBase) || !s.isPixel sv.live a || s.pixelReady a

/-- The engine takes a read (R127, R136): the views it finds OPEN and its tone banks are fixed (R123, R141), its
pass-through bytes are asked of DRAM, and it is COMPUTING with its fetches issued, or HELD for the view wait limit. That
a HELD read issues no develop fetch, not even for its available pixels, is the model's choice (DESIGN CHOICE, log 44).
-/
def takeRead (addr len : Nat) (s : State) : State :=
  let sv : Service := ⟨addr, len, s.openViews, s.develop.tone0.active, s.develop.tone1.active, .computing⟩
  let s := issue .processor (readBursts ((readAddrs addr len).filter (· < apertureBase))) s
  if s.readReady sv then
    (issue .develop (s.readFetches sv) s).onDevelop fun d => { d with service := some sv }
  else
    s.onDevelop fun d => { d with service := some { sv with cond := .held (some (ms s.setup.exposure.viewWait)) } }

/-- The read in service completes: pass-through bytes come from DRAM in their order, aperture bytes
from `byteOf`. R172 has the earlier pass-through writes reach DRAM before a pass-through byte is read; that those still
waiting reach it before a read without such a byte completes, with zeros too, is the model's choice (DESIGN CHOICE, log
58). -/
def finishRead (byteOf : State → Service → Nat → Byte) (s : State) : State :=
  match s.develop.service with
  | none => s
  | some sv =>
    let s := drain .processor s
    let aperture := ((readAddrs sv.addr sv.len).filter fun a => decide (apertureBase ≤ a)).map (byteOf s sv)
    let bytes := s.path.processor.got ++ aperture
    let s := s.onPath fun p =>
      { p with processor := { p.processor with got := [] }, develop := { p.develop with got := [] } }
    (s.onDevelop fun d => { d with service := none }).send (.readData bytes)

/-- The read completes with its developed bytes once its fetches have returned (R126). -/
def completeRead (s : State) : State := finishRead State.apertureByte (drain .develop s)

/-- The read completes at once with every aperture byte 0 (R122, R139, R143). The rules do not say what becomes of its
fetch bursts still waiting at the arbiter: that they are dropped, never to be granted, is the model's choice (DESIGN
CHOICE, log 45). -/
def zeroRead (s : State) : State :=
  finishRead (fun _ _ _ => 0)
    (if s.develop.service.isSome then s.onPath fun p => { p with develop := { p.develop with waiting := [] } } else s)

/-- The read covers a byte of the apertures, so that the develop engine serves it (R123); one that covers none is a
pass-through read (R169). -/
def Service.reachesAperture (sv : Service) : Bool := (readAddrs sv.addr sv.len).any fun a => decide (apertureBase ≤ a)

/-- The read in service belongs to view `v`: it found the view OPEN and covers a byte of its aperture. -/
def State.serves (s : State) (v : Fin 4) : Bool :=
  s.develop.service.any fun sv =>
    sv.live.get v && (readAddrs sv.addr sv.len).any fun a => decide (apertureBase ≤ a) && viewOf a == v

/-- The read in service is HELD. -/
def State.readHeld (s : State) : Bool :=
  s.develop.service.any fun sv => match sv.cond with
    | .held _ => true
    | .computing => false

/-! ## Handoffs (R127, R137, R139) -/

/-- A rows-stored value raises rows available of the OPEN views on the frame, and a held read whose pixels are now all
available completes (R127, R137). -/
def developRows (id : Word) (rows : Nat) (s : State) : State :=
  let s := viewIndices.foldl (fun s v =>
    let x := s.view v
    if x.state = .open ∧ x.frame = some id ∧ x.rows < rows then s.setView v { x with rows := rows } else s) s
  match s.develop.service with
  | some sv =>
    if s.readHeld && s.readReady sv then completeRead (issue .develop (s.readFetches sv) s)
    else s
  | none => s

/-- One view breaks (R139). -/
def breakView (v : Fin 4) (s : State) : State :=
  let x := s.view v
  let s := if s.serves v then zeroRead s else s
  raise .viewBroken (unpinView x (s.setView v { x with state := .broken }))

/-- The spoil handoff to the develop engine: each OPEN view on the frame breaks (R139). -/
def breakViews (id : Word) (s : State) : State :=
  viewIndices.foldl (fun s v =>
    if (s.view v).state = .open ∧ (s.view v).frame = some id then breakView v s else s) s

/-- One view closes (R122, R143): its read in service completes with zeros, its pins are released. -/
def closeOneView (v : Fin 4) (s : State) : State :=
  let x := s.view v
  match x.state with
  | .open =>
    let s := if s.serves v then zeroRead s else s
    unpinView x (s.setView v x.shut)
  | .broken => s.setView v x.shut
  | .closed => s

/-! ## The processor port behind a read (R171) -/

/-- A decoded write takes effect on the port (R170, R172): its passing bytes join pass-through, a drop is counted, its
post and cause clear wait for the bytes up to and with their own to reach DRAM. -/
def takeWrite (w : DecodedWrite) (s : State) : State :=
  let s := issue .processor (writeBursts w.cells) s
  let left := s.path.processor.waiting.length
  s.onPath fun p =>
    { p with drops := if w.dropped then satInc 65535 p.drops else p.drops
             posts := match w.post with
               | some (lo, hi) => p.posts ++ [⟨lo, hi, left⟩]
               | none => p.posts
             clears := match w.clear with
               | some c => p.clears ++ [⟨c.c0, c.c1, c.c2, c.c3, left⟩]
               | none => p.clears }

/-- Waiting transactions are taken in order, up to and with the first read. -/
def takeTransactions : List PortTxn → State → State
  | [], s => s.onPath fun p => { p with port := [] }
  | .write w :: rest, s => takeTransactions rest (takeWrite w s)
  | .read addr len :: rest, s => takeRead addr len (s.onPath fun p => { p with port := rest })

/-- Once no read is in service, the transactions behind it are taken (R171). -/
def pump (s : State) : State :=
  match s.develop.service with
  | some _ => s
  | none => takeTransactions s.path.port s

end Sys2Proof.Machine
end

