-- ==== Sys2Proof/Machine/Pages.lean ====
section
/-! DEFINITION. The records the part writes: mirror entries (R206), the card queue mirror page (R207), the result
word (R204) and the status page (R208), with the summary byte (R180) and every code of chapter 11. -/

namespace Sys2Proof.Machine

/-! ## Codes -/

/-- Result codes (11 Table. Result codes). -/
def ResultCode.number : ResultCode → Nat
  | .ok => 0
  | .clamped => 1
  | .busy => 2
  | .busyDark => 3
  | .notReady => 4
  | .storeFull => 5
  | .fault => 6
  | .noCable => 7
  | .lowSupply => 8
  | .syncStuck => 9
  | .badParam => 10
  | .noFrame => 11
  | .inUse => 12
  | .kept => 13
  | .queueFull => 14
  | .noCard => 15
  | .writeProtected => 16
  | .notHalted => 17
  | .unknown => 18

/-- Frame state codes. -/
def FrameState.number : FrameState → Nat
  | .free => 0
  | .exposing => 1
  | .readout => 2
  | .complete => 3
  | .spoiled => 4

/-- Kind codes. -/
def FrameKind.number : FrameKind → Nat
  | .light => 1
  | .dark => 2

/-- Spoil reason codes. -/
def SpoilReason.number : SpoilReason → Nat
  | .cancelled => 1
  | .releaseFault => 2
  | .noCable => 3
  | .earlySync => 4
  | .falseStart => 5
  | .lightLeak => 6
  | .linkLost => 7
  | .readoutTimeout => 8
  | .sensorFault => 9
  | .restart => 10

/-- Origin codes. -/
def Origin.number : Origin → Nat
  | .release => 1
  | .tripped => 2
  | .autoDark => 3
  | .takenDark => 4

/-- Shot mode codes. -/
def ShotMode.number : ShotMode → Nat
  | .syncWindow => 0
  | .timedBulb => 1

/-- Dark state codes. -/
def DarkState.number : DarkState → Nat
  | .none => 0
  | .pending => 1
  | .linked _ => 2
  | .missing => 3

/-- The dark link of a dark state. -/
def DarkState.link : DarkState → Option Word
  | .linked d => .some d
  | _ => .none

/-- Job kind codes. -/
def JobKind.number : JobKind → Nat
  | .writeFrame => 1
  | .writeMem => 2
  | .readMem => 3

/-- Failure reason codes. -/
def FailReason.number : FailReason → Nat
  | .writeFault => 1
  | .crcReject => 2
  | .busyTimeout => 3
  | .readError => 4
  | .writeProtected => 5
  | .sourceLost => 6
  | .cardGone => 7
  | .cancelled => 8

/-- Job outcome codes of the completion list. -/
def JobOutcome.number : JobOutcome → Nat
  | .done => 3
  | .failed _ => 4
  | .cancelled => 5

/-- The failure reason of an outcome, 0 when there is none. -/
def JobOutcome.reason : JobOutcome → Nat
  | .failed r => r.number
  | _ => 0

/-- Sequencer state codes. -/
def SeqState.number : SeqState → Nat
  | .unset => 0
  | .idle => 1
  | .armed => 2
  | .delay => 3
  | .preparing => 4
  | .waitSync => 5
  | .open => 6
  | .tail => 7
  | .tripped => 8
  | .darkRun => 9
  | .readout => 10
  | .fault => 11

/-- Driver phase codes. -/
def Phase.number : Phase → Nat
  | .off => 0
  | .check => 1
  | .pullIn => 2
  | .hold => 3

/-- Cable state codes. -/
def Cable.number : Cable → Nat
  | .unknown => 0
  | .present => 1
  | .absent => 2

/-- Card state codes. -/
def CardState.number : CardState → Nat
  | .absent => 0
  | .initializing => 1
  | .ready => 2
  | .unusable => 3

/-- Missed-shot reason codes. -/
def MissedReason.number : MissedReason → Nat
  | .notArmed => 1
  | .early => 2
  | .readoutBusy => 3
  | .darkRun => 4

/-- View state codes. -/
def ViewState.number : ViewState → Nat
  | .closed => 0
  | .open => 1
  | .broken => 2

/-- View form codes. -/
def Form.number : Form → Nat
  | .correctedRaw => 0
  | .quadRgb8 => 1

/-- Retention mode codes. -/
def Retention.number : Retention → Nat
  | .safe => 0
  | .ring => 1

/-- A bit as a number. -/
def bitNat (b : Bool) : Nat := if b then 1 else 0

/-- A position set: the first listed member is bit 0. -/
def bitSet : List Bool → Nat
  | [] => 0
  | b :: rest => bitNat b + 2 * bitSet rest

/-- The bytes of an optional word, 0 when absent. -/
def optWord (w : Option Word) : List Byte := leBytes 4 ((w.map BitVec.toNat).getD 0)

/-! ## Frame table mirror (R22, R206) -/

/-- The presence bits of a frame entry. -/
def Frame.presence (f : Frame) : Nat :=
  bitSet [f.shotMode.isSome, f.spoil.isSome, f.release.isSome, f.integStart.isSome, f.syncClose.isSome,
    f.syncOpen.isSome, f.integEnd.isSome, f.shutterOpen.isSome, f.integration.isSome, f.firstBad.isSome,
    f.blacks.isSome, f.kind == .light, f.kind == .dark, f.darkState.link.isSome]

/-- The base address a mirror entry shows for slot `k`: 0 when k ≥ S (R22). -/
def Store.shownBase (t : Store) (k : Nat) : Nat := if k < t.layout.slotCount then t.layout.base k else 0

/-- Offsets 0x18 to 0x50 of a non-FREE record's entry. -/
def Frame.entryTail (f : Frame) : List Byte :=
  optWord f.release ++ optWord f.integStart ++ optWord f.syncClose ++ optWord f.syncOpen ++ optWord f.integEnd
    ++ optWord f.shutterOpen ++ optWord f.integration
    ++ leBytes 4 f.flags.toNat ++ leBytes 2 f.rowsStored ++ leBytes 2 f.badRows ++ leBytes 2 (f.firstBad.getD 0)
    ++ leBytes 1 f.bounce ++ leBytes 1 (bitSet [f.keep, f.settled, f.awaitDark])
    ++ leBytes 2 ((f.blacks.map (·.level.c0)).getD 0) ++ leBytes 2 ((f.blacks.map (·.level.c1)).getD 0)
    ++ leBytes 2 ((f.blacks.map (·.level.c2)).getD 0) ++ leBytes 2 ((f.blacks.map (·.level.c3)).getD 0)
    ++ leBytes 2 ((f.blacks.map (·.mean)).getD 0)
    ++ leBytes 1 f.viewPins ++ leBytes 1 f.cardPins ++ optWord f.darkState.link
    ++ leBytes 1 (if f.kind = .dark then f.darkUsers else 0)

/-- Offsets 0x04 to 0x7B of the entry of slot `k` (R206). The dark state of a DARK record is absent and reads 0. -/
def Frame.entryBody (f : Frame) (k base : Nat) : List Byte :=
  if f.state = .free then
    List.replicate 10 0 ++ leBytes 1 k ++ [0] ++ leBytes 4 base ++ List.replicate 104 0
  else
    leBytes 4 f.id.toNat ++ leBytes 1 f.state.number ++ leBytes 1 f.kind.number
      ++ leBytes 1 ((f.spoil.map SpoilReason.number).getD 0) ++ leBytes 1 f.origin.number
      ++ leBytes 1 ((f.shotMode.map ShotMode.number).getD 0)
      ++ leBytes 1 (if f.kind = .light then f.darkState.number else 0)
      ++ leBytes 1 k ++ leBytes 1 f.age ++ leBytes 4 base ++ leBytes 4 f.presence
      ++ f.entryTail ++ List.replicate 43 0

/-- The mirror write of entry `k` (R22): the change count advances, then the leading count, the body and the trailing
count are written, each reaching DRAM before the next. -/
def writeMirror (k : Fin 16) (s : State) : State :=
  let s := s.setFrame k { s.frame k with changeCount := (s.frame k).changeCount + 1 }
  let s := s.onStore fun t => { t with mirrorDue := t.mirrorDue.filter (· != k) }
  let at_ := mirrorBase + k.val * 128
  let count := leBytes 4 (s.frame k).changeCount.toNat
  let s := recordWrite at_ count s
  let s := recordWrite (at_ + 0x04) ((s.frame k).entryBody k.val (s.store.shownBase k.val)) s
  recordWrite (at_ + 0x7C) count s

/-! ## Card queue mirror (R165, R207) -/

/-- A job's entry of 64 bytes. -/
def Job.entry (j : Job) : List Byte :=
  let frame := j.kind = .writeFrame
  leBytes 2 j.tag.toNat ++ leBytes 1 j.kind.number ++ leBytes 1 (if j.active then 2 else 1)
    ++ leBytes 4 (if frame then j.frame.toNat else 0) ++ leBytes 4 (if frame then j.offset else 0)
    ++ leBytes 4 (if frame then 0 else j.address) ++ leBytes 4 j.length ++ leBytes 4 j.start.toNat
    ++ leBytes 4 j.sectorsDone ++ leBytes 1 (bitNat (j.consign && frame)) ++ [0] ++ List.replicate 34 0

/-- The sixteen entries. -/
def queueEntries (jobs : List Job) : List Byte :=
  (List.range 16).flatMap fun k => ((jobs[k]?).map Job.entry).getD (List.replicate 64 0)

/-- The card queue mirror write (R165). -/
def writeQueueMirror (s : State) : State :=
  let s := s.onCard fun c => { c with pageCount := c.pageCount + 1, mirrorDue := false }
  let count := leBytes 4 s.card.pageCount.toNat
  let s := recordWrite (queueBase + 0x400) count s
  let s := recordWrite queueBase (queueEntries s.card.jobs) s
  let s := recordWrite (queueBase + 0x404) (leBytes 4 s.card.jobs.length) s
  recordWrite (queueBase + 0x408) count s

/-! ## Summary byte and status page (R180, R185, R186, R208) -/

/-- The dark pending indication: an AUTO job is present (R102). -/
def State.darkPending (s : State) : Bool := s.dark.job.any fun j => j.light.isSome

/-- The store-full indication (R17). -/
def State.storeFull (s : State) : Bool :=
  decide (0 < s.store.layout.slotCount) && decide (s.allocatable = 0)

/-- The sequencer busy indication (R58). -/
def SeqState.busy : SeqState → Bool
  | .unset => false
  | .idle => false
  | .armed => false
  | _ => true

/-- The summary byte, bit 0 first (R180). -/
def State.summary (s : State) : Byte :=
  BitVec.ofNat 8 (bitSet [s.driver.faultShort || s.driver.faultOpen, s.seq.state == .fault, s.card.halted, s.storeFull,
    s.darkPending, s.seq.state.busy, s.card.state == .absent, attention s.req.causes s.req.mask])

/-- A view's summary in the status page (R116). -/
structure ViewSummary where
  state : ViewState
  form : Form
  frame : Option Word
  dark : Option Word
  late : Nat
  deriving DecidableEq, Repr

/-- The summary of a view record. -/
def View.summary (v : View) : ViewSummary := ⟨v.state, v.form, v.frame, v.dark, v.late⟩

/-- The items of R185 other than the shot clock sample. -/
structure StatusView where
  post : Half
  consumed : Half
  causes : BitVec 14
  mask : BitVec 14
  summary : Byte
  seqState : SeqState
  falseStarts : Nat
  darkPending : Bool
  phase : Phase
  faultShort : Bool
  faultOpen : Bool
  cable : Cable
  qualified : Bool
  missed : Option (Word × MissedReason)
  missedCount : Nat
  cardState : CardState
  capacity : Option Word
  wpSample : Option Bool
  halted : Bool
  queueLength : Nat
  completions : List Completion
  slotCount : Nat
  allocatable : Nat
  retention : Retention
  nextId : Word
  history : List Nat
  views : Four ViewSummary
  drops : Nat
  deriving DecidableEq, Repr

/-- The items as they stand. -/
def State.statusView (s : State) : StatusView where
  post := s.req.post
  consumed := s.req.consumed
  causes := s.req.causes
  mask := s.req.mask
  summary := s.summary
  seqState := s.seq.state
  falseStarts := s.seq.falseStarts
  darkPending := s.darkPending
  phase := s.driver.phase
  faultShort := s.driver.faultShort
  faultOpen := s.driver.faultOpen
  cable := s.driver.cable
  qualified := s.sync.qualified
  missed := s.sync.missed
  missedCount := s.sync.missedCount
  cardState := s.card.state
  capacity := s.card.capacity
  wpSample := s.card.wpSample
  halted := s.card.halted
  queueLength := s.card.jobs.length
  completions := s.card.completions
  slotCount := s.store.layout.slotCount
  allocatable := s.allocatable
  retention := s.setup.retention
  nextId := s.store.nextId
  history := s.readout.history
  views := ⟨s.develop.views.c0.summary, s.develop.views.c1.summary, s.develop.views.c2.summary,
    s.develop.views.c3.summary⟩
  drops := s.path.drops

/-- A view summary's 16 bytes. -/
def ViewSummary.bytes (v : ViewSummary) : List Byte :=
  leBytes 1 v.state.number ++ leBytes 1 v.form.number ++ leBytes 1 (bitSet [v.frame.isSome, v.dark.isSome]) ++ [0]
    ++ optWord v.frame ++ optWord v.dark ++ leBytes 2 v.late ++ [0, 0]

/-- A completion list entry's 8 bytes. -/
def Completion.bytes (c : Completion) : List Byte :=
  leBytes 2 c.tag.toNat ++ leBytes 1 c.outcome.number ++ leBytes 1 c.outcome.reason ++ leBytes 4 c.sectorsDone

/-- Offsets 0x004 to 0x0C3 of the status page (R208). -/
def StatusView.bytes (v : StatusView) (clock : Word) : List Byte :=
  leBytes 2 v.post.toNat ++ leBytes 2 v.consumed.toNat ++ leBytes 2 v.causes.toNat ++ leBytes 2 v.mask.toNat
    ++ [v.summary] ++ leBytes 1 v.seqState.number ++ leBytes 1 (bitNat v.darkPending) ++ leBytes 1 v.phase.number
    ++ leBytes 1 (bitSet [v.faultShort, v.faultOpen]) ++ leBytes 1 v.cable.number ++ leBytes 1 (bitNat v.qualified)
    ++ leBytes 1 v.cardState.number ++ leBytes 1 (bitNat (v.wpSample.getD false)) ++ leBytes 1 (bitNat v.halted)
    ++ leBytes 1 v.queueLength ++ leBytes 1 v.retention.number ++ optWord v.capacity
    ++ leBytes 1 v.slotCount ++ leBytes 1 v.allocatable ++ leBytes 1 v.history.length
    ++ leBytes 1 ((v.missed.map fun m => m.2.number).getD 0) ++ leBytes 4 v.nextId.toNat
    ++ optWord (v.missed.map (·.1)) ++ leBytes 2 v.missedCount ++ leBytes 2 v.falseStarts ++ leBytes 2 v.drops
    ++ leBytes 2 (bitSet [v.capacity.isSome, v.wpSample.isSome, v.missed.isSome]) ++ leBytes 4 clock.toNat
    ++ (List.range historyTop).flatMap (fun i => leBytes 2 ((v.history[i]?).getD 0))
    ++ v.views.c0.bytes ++ v.views.c1.bytes ++ v.views.c2.bytes ++ v.views.c3.bytes
    ++ leBytes 1 v.completions.length ++ [0, 0, 0]
    ++ (List.range completionTop).flatMap
        fun i => ((v.completions[i]?).map Completion.bytes).getD (List.replicate 8 0)

/-- The status page write (R186). -/
def writeStatusPage (s : State) : State :=
  let s := s.onReq fun r => { r with pageCount := r.pageCount + 1, statusDue := false }
  let count := leBytes 4 s.req.pageCount.toNat
  let s := recordWrite statusBase count s
  let s := recordWrite (statusBase + 0x004) (s.statusView.bytes s.clock) s
  recordWrite (statusBase + 0xFFC) count s

/-! ## Result word (R178, R204) -/

/-- The eight bytes of a result word. -/
def resultWord (code : ResultCode) (summary : Byte) (tag count : Half) : List Byte :=
  leBytes 1 code.number ++ [summary] ++ leBytes 2 tag.toNat ++ leBytes 2 count.toNat ++ [0, 0]

/-- The ring slot of a count (R177). -/
def ringSlot (count : Half) : Nat := ringBase + count.toNat % 16 * 64

end Sys2Proof.Machine
end

