-- ==== Sys2Proof/Machine/Commit.lean ====
section
/-! DEFINITION. What every step does around its own effect: mirror and status writes are scheduled for what changed
(R22, R165, R186), the attention line follows (R182), waiting transactions are taken (R171). And how requests are decided
and answered (R23, R178, R179). -/

namespace Sys2Proof.Machine

/-- The answer of a step. -/
abbrev Answer := Host.Outcome State Fault Refusal

/-- A record without its change count, which counts writes and not changes (R22). -/
def Frame.content (f : Frame) : Frame := { f with changeCount := 0 }

/-- Record `k` differs between two states. -/
def recordChanged (before after : State) (k : Fin 16) : Bool :=
  decide ((before.frame k).content ≠ (after.frame k).content)

/-- The writes that a change schedules, and the attention line (R22, R165, R182, R186). -/
def settle (before after : State) : State :=
  let due := slots.filter fun k => after.store.mirrorDue.contains k || recordChanged before after k
  let queue := after.card.mirrorDue || decide (before.card.jobs ≠ after.card.jobs)
  let status := after.req.statusDue || decide (before.statusView ≠ after.statusView)
  let s := after.onStore fun t => { t with mirrorDue := due }
  let s := s.onCard fun c => { c with mirrorDue := queue }
  s.onReq fun r => { r with statusDue := status, attn := attention r.causes r.mask }

/-- What the part sends out is what it sends in this step (log 29). -/
def State.quiet (s : State) : State := { s with sent := [] }

/-- A step with effect `f`. While power-on reset is applied nothing else has an effect (R209, log 31). -/
def run (f : State → State) (s : State) : Answer :=
  .next (if s.inReset then s.quiet else settle s (pump (f s.quiet)))

/-- A step in which an outside line changes its level (R209): while power-on reset is applied the line still changes, as
`level` says, and nothing else takes note of it (log 31). -/
def runLine (level : Pins → Pins) (f : State → State) (s : State) : Answer :=
  if s.inReset then .next (s.quiet.onPins level) else run f s

/-- A step with effect `f` that takes place only when it is due; otherwise it changes nothing (log 2). -/
def runWhen (due : State → Bool) (f : State → State) (s : State) : Answer :=
  run (fun s => if due s then f s else s) s

/-! ## Requests -/

/-- Two requests are one: RESTART's operands are no fields of the record (log 9). -/
def sameRequest (a b : Instr) : Bool :=
  match a, b with
  | .restart _ _, .restart _ _ => true
  | a, b => a == b

/-- The request is the one its owner has to decide now: the request in hand, not yet answered, with no tone table still
to be written. With no request in hand a request row is decided as it stands (log 5). -/
def State.asks (s : State) (i : Instr) : Bool :=
  s.develop.toneLoad.isNone && match s.req.hand with
    | some h => sameRequest h.request i && s.req.answer.isNone
    | none => true

/-- A decision begins: no mirror write is awaited for it yet. -/
def beginDecision (s : State) : State := s.onReq fun q => { q with waits := [], waitsQueue := false }

/-- A decision has been made: its result waits for the mirror writes of what it changed (R23, R153, R178, R193). -/
def endDecision (before : State) (r : State × Option ResultCode) : State :=
  r.1.onReq fun q =>
    { q with answer := r.2
             waits := slots.filter fun k => q.waits.contains k || recordChanged before r.1 k
             waitsQueue := q.waitsQueue || decide (before.card.jobs ≠ r.1.card.jobs) }

/-- The owner's decision `d` is taken. -/
def decideWith (d : State → State × Option ResultCode) (s : State) : State :=
  endDecision (beginDecision s) (d (beginDecision s))

/-- A request row. -/
def request (i : Instr) (d : State → State × Option ResultCode) (s : State) : Answer :=
  runWhen (·.asks i) (decideWith d) s

/-- A refused request changes nothing in its owner (R179). -/
def refuse (code : ResultCode) (s : State) : State × Option ResultCode := (s, some code)

/-- An accepted request. -/
def accept (s : State) : State × Option ResultCode := (s, some .ok)

end Sys2Proof.Machine
end

