-- ==== Sys2Proof/Machine/DarkOps.lean ====
section
/-! DEFINITION. The dark reference unit's shared operations (chapter 6): the decision for a completed light frame, the
reuse search, new darks and the outcomes of a dark shot. Each answers the sequencer with an order or with none. -/

namespace Sys2Proof.Machine

/-- An order of a dark shot (R81): the dark frame's id and slot, and its duration in microseconds. -/
structure DarkOrder where
  id : Word
  slot : Fin 16
  duration : Nat
  deriving DecidableEq, Repr

/-- The distance of two numbers. -/
def gap (a b : Nat) : Nat := (a - b) + (b - a)

/-- A frame's integration time in microseconds. -/
def Frame.integrated (f : Frame) : Nat := (f.integration.map BitVec.toNat).getD 0

/-- The frame needs a dark (R104). -/
def needsDark (p : DarkParams) (f : Frame) : Bool :=
  p.autoDark && ((decide (p.threshold ≠ 0) && decide (p.threshold * 1000 ≤ f.integrated)) || hasFlag f.flags .highBlack)

/-- The channels' black levels lie within the drift limit of one another (R105). -/
def blacksMatch (limit : Nat) (dark light : Frame) : Bool :=
  match dark.blacks, light.blacks with
  | some d, some l => [0, 1, 2, 3].all fun c : Fin 4 => decide (gap (d.level.get c) (l.level.get c) ≤ limit)
  | _, _ => false

/-- A stored dark matches a light frame (R105). -/
def darkMatches (p : DarkParams) (dark light : Frame) : Bool :=
  dark.state == .complete && dark.kind == .dark && dark.integration.isSome
    && decide (gap dark.integrated light.integrated * 8 ≤ p.tolerance * light.integrated)
    && blacksMatch p.driftLimit dark light

/-- The better of the matches: smallest difference, then highest age rank (R106). -/
def bestDark (difference age : Fin 16 → Nat) : List (Fin 16) → Option (Fin 16)
  | [] => none
  | k :: rest =>
    match bestDark difference age rest with
    | none => some k
    | some j =>
      if difference j < difference k ∨ (difference j = difference k ∧ age k < age j) then some j else some k

/-- The reuse search for the light frame in slot `k` (R105, R106). -/
def State.reuse (s : State) (p : DarkParams) (k : Fin 16) : Option (Fin 16) :=
  bestDark (fun j => gap (s.frame j).integrated (s.frame k).integrated) (fun j => (s.frame j).age)
    (slots.filter fun j => darkMatches p (s.frame j) (s.frame k))

/-- The decision is applied to the light record: its dark state, no longer awaiting (R13). -/
def settleDark (id : Word) (d : DarkState) (s : State) : State :=
  report id (fun f => { f with darkState := d, awaitDark := false }) s

/-- The light record takes dark state MISSING and DARK_MISSING, as one change (R107, R110, R111). -/
def darkMissing (id : Word) (s : State) : State :=
  report id (fun f => { f with darkState := .missing, awaitDark := false }.withFlag .darkMissing) s

/-- The job ends and the dark pending indication clears. -/
def endDarkJob (s : State) : State := s.onDark fun _ => ⟨none⟩

/-- A slot for an auto dark of a light frame: recorded in the job and lodged with the store (R107, R109, R110). -/
def orderDark (light : Word) (duration retry : Nat) (s : State) : State × Option DarkOrder :=
  match allocate .dark .autoDark none s with
  | (s, some (k, id)) =>
    ((s.onDark fun _ => ⟨some ⟨some light, duration, id, retry⟩⟩).onStore fun t => { t with lodged := some (id, light) },
      some ⟨id, k, duration⟩)
  | (s, none) => (endDarkJob (darkMissing light s), none)

/-- The dark decision of a light frame that became COMPLETE (R103 to R107). `canRun` is false when no light shot is left
in the sequencer to run a dark; a new dark then becomes MISSING (R115). -/
def decideDark (id : Word) (p : DarkParams) (canRun : Bool) (s : State) : State × Option DarkOrder :=
  match s.find id with
  | none => (s, none)
  | some k =>
    let f := s.frame k
    if !needsDark p f then (settleDark id .none s, none)
    else
      match (if hasFlag f.flags .drift then none else s.reuse p k) with
      | some j =>
        let d := (s.frame j).id
        (report d (fun r => { r with darkUsers := r.darkUsers + 1 }) (settleDark id (.linked d) s), none)
      | none =>
        if canRun then orderDark id f.integrated 0 (settleDark id .pending s) else (darkMissing id s, none)

/-- The outcome "leak" (R110): an AUTO job retries twice, otherwise it ends. -/
def darkLeak (s : State) : State × Option DarkOrder :=
  match s.dark.job with
  | none => (s, none)
  | some j =>
    match j.light with
    | none => (endDarkJob s, none)
    | some light =>
      if j.retry < darkRetries then orderDark light j.duration (j.retry + 1) s
      else (endDarkJob (darkMissing light s), none)

/-- Any other failure of the dark (R111). -/
def darkFailure (s : State) : State :=
  match s.dark.job with
  | none => s
  | some j =>
    match j.light with
    | none => endDarkJob s
    | some light => endDarkJob (darkMissing light s)

end Sys2Proof.Machine
end

