-- ==== Sys2Proof/Machine/DriverOps.lean ====
section
/-! DEFINITION. Shared operations of the sync input (chapter 2) and of the release driver (chapter 3). -/

namespace Sys2Proof.Machine

/-! ## Sync input (R31, R34, R38) -/

/-- A release drive phase change starts the blanking timer with the target's blank time, or the exposure setup's
(R31). A blank time of 0 starts none. -/
def phaseChange (s : State) : State :=
  let time := (s.sync.target.map (·.blankTime)).getD s.setup.exposure.blankTime
  if time = 0 then s else s.onSync fun y => { y with blanking := some time }

/-- The sequencer sets the shot target with the shot's times (R34). -/
def setTarget (id : Word) (p : Exposure) (s : State) : State :=
  s.onSync fun y => { y with target := some ⟨id, p.closeQualify, p.openQualify, p.blankTime⟩ }

/-- The sequencer clears the shot target, which sets the recording expectation to NONE (R34). -/
def clearTarget (s : State) : State := s.onSync fun y => { y with target := none, expect := .none }

/-- A bounce is reported for the target's frame, when a target is set (R30, R34). -/
def countBounce (s : State) : State :=
  match s.sync.target with
  | some t => report t.id (fun f => { f with bounce := satInc 255 f.bounce }) s
  | none => s

/-- A missed shot is recorded and MISSED_SHOT raised (R38). -/
def missedShot (edge : Word) (reason : MissedReason) (s : State) : State :=
  raise .missedShot (s.onSync fun y =>
    { y with missed := some (edge, reason), missedCount := satInc 65535 y.missedCount })

/-! ## Release driver (R40 to R52) -/

/-- The drive is on: PULL_IN or HOLD. -/
def Phase.driving : Phase → Bool
  | .pullIn => true
  | .hold => true
  | _ => false

/-- Drive permission: WAIT_SYNC or OPEN of a shot whose origin is RELEASE (R48, R59). -/
def State.permission (s : State) : Bool :=
  (s.seq.state == .waitSync || s.seq.state == .open) && s.seq.shot.any fun h => h.origin == .release

/-- Drive current flows: PULL_IN or an on-part of HOLD, under the output lock (R46, R48). -/
def State.driveFlows (s : State) : Bool :=
  s.permission && !s.driver.faultShort && (s.driver.phase == .pullIn || (s.driver.phase == .hold && s.driver.chopOn))

/-- The drive goes off for any cause (R47): parameters and open evaluation cleared, a phase change. Nothing happens when
no drive is on. -/
def driveOff (s : State) : State :=
  if s.driver.phase.driving then
    phaseChange (s.onDriver fun d =>
      { d with phase := .off, params := none, openEval := false, pullTimer := none, holdTimer := none, bulbTimer := none,
               rampTimer := none, chopOn := false, chopTimer := none })
  else s

/-- The drive-on command (R45): a check in progress ends without a result (R44), the drive starts in PULL_IN with open
evaluation on, and the sensed current is followed from 0 (log 11). A pending pre-shot check of a cancelled shot, which
R44 says a drive-on cannot meet, is left standing (DESIGN CHOICE, log 38). -/
def driveOn (p : DriveParams) (s : State) : State :=
  phaseChange ((s.onPins fun w => { w with sense := 0 }).onDriver fun d =>
    { d with phase := .pullIn, checkTimer := none, checkFor := none, openTimer := 0, shortTimer := 0, params := some p,
             driveStart := s.clock, openEval := true, pullTimer := some p.pullIn, holdTimer := none,
             bulbTimer := if p.mode = .timedBulb then some p.bulb else none, rampTimer := some rampBlank,
             chopOn := false, chopTimer := none })

/-- A passive check begins (R42). -/
def startCheck (shot : Option Word) (s : State) : State :=
  s.onDriver fun d => { d with phase := .check, checkTimer := some checkTime, checkFor := shot }

/-- The sequencer's check command (R44): in OFF it begins, in CHECK it becomes pending. -/
def checkCommand (shot : Word) (s : State) : State :=
  match s.driver.phase with
  | .off => startCheck (some shot) s
  | .check => s.onDriver fun d => { d with pendingCheck := some shot }
  | _ => s

/-- The cable state is set (R51). -/
def setCable (c : Cable) (s : State) : State := s.onDriver fun d => { d with cable := c }

/-- The on-part of a chop period (R46): duty × 4 microseconds. -/
def onPart (duty : Nat) : Nat := duty * 4

/-- The off-part: the rest of the 64 microseconds. -/
def offPart (duty : Nat) : Nat := chopPeriod - duty * 4

/-- The hold duty of the drive in progress. -/
def Driver.duty (d : Driver) : Nat := (d.params.map (·.duty)).getD 0

end Sys2Proof.Machine
end

