-- ==== Sys2Proof/Machine/CardOps.lean ====
section
/-! DEFINITION. The card engine's shared operations (chapter 8): sectors, activation, the endings of a job, and the
handoffs of rows and spoils. -/

namespace Sys2Proof.Machine

/-! ## The card queue mirror (R165) -/

/-- A write of the card queue mirror is scheduled, whatever a comparison of the queue would find (R161, R163, R167). -/
def scheduleQueue (s : State) : State := s.onCard fun c => { c with mirrorDue := true }

/-- The write is scheduled and the request in hand waits for it (R153, R163, R187). -/
def awaitQueue (s : State) : State := (scheduleQueue s).onReq fun r => { r with waitsQueue := true }

/-! ## Jobs and sectors -/

/-- The job's sector count (R151). -/
def Job.sectors (j : Job) : Nat := j.length / 512

/-- A write job (R151). -/
def Job.writes (j : Job) : Bool := j.kind != .readMem

/-- The ACTIVE job: the head once it runs. -/
def CardEngine.activeJob (c : CardEngine) : Option Job :=
  match c.jobs with
  | j :: _ => if j.active then some j else none
  | [] => none

/-- The head job changed. -/
def CardEngine.onHead (c : CardEngine) (f : Job → Job) : CardEngine :=
  match c.jobs with
  | j :: rest => { c with jobs := f j :: rest }
  | [] => c

/-- Update of the transfer. -/
def CardEngine.onTransfer (c : CardEngine) (f : Transfer → Transfer) : CardEngine :=
  { c with transfer := c.transfer.map f }

/-- The DRAM addresses of the bytes of write sector `i` that are fetched (R156). -/
def State.sectorAddrs (s : State) (j : Job) (i : Nat) : List Nat :=
  match j.kind with
  | .writeFrame =>
    let base := ((s.find j.frame).map fun k => s.store.layout.base k.val).getD 0
    (((List.range 512).map fun b => j.offset + 512 * i + b).filter (· < s.store.layout.frameSize)).map (base + ·)
  | _ => (List.range 512).map fun b => j.address + 512 * i + b

/-- Write sector `i` may be sent: its bytes below the frame data size lie within rows available (R157). -/
def State.sendable (s : State) (j : Job) (i : Nat) : Bool :=
  match j.kind with
  | .writeFrame =>
    decide (min (j.offset + 512 * (i + 1)) s.store.layout.frameSize ≤ s.card.rows * s.store.layout.rowWidth * 2)
  | _ => true

/-- The sector's bytes from what was fetched; the rest are 0 (R156). -/
def sectorBytes (fetched : List Byte) : List Byte := fetched ++ List.replicate (512 - fetched.length) 0

/-- The fetch of sector `i` is issued (R156). -/
def fetchSector (j : Job) (i : Nat) (s : State) : State := issue .card (readBursts (s.sectorAddrs j i)) s

/-- The next sector is fetched, or waits for its rows (R149 step 1, R157). -/
def startSector (j : Job) (s : State) : State :=
  let i := (s.card.transfer.map (·.next)).getD 0
  if s.sendable j i then
    fetchSector j i (s.onCard fun c => c.onTransfer fun t => { t with cond := .fetching, prefetch := .none, limit := none })
  else s.onCard fun c => c.onTransfer fun t => { t with cond := .waitingRows, prefetch := .none, limit := none }

/-- The sector buffer is sent with its CRC-16, the sector limit starts, and the token is awaited (R149 steps 2, 3).
Sending takes no time of its own (log 19). -/
def sendSector (bytes : List Byte) (s : State) : State :=
  (s.onCard fun c => c.onTransfer fun t =>
    { t with buffer := bytes, cond := .awaitingToken, prefetch := .none, limit := some sectorTime }).send
      (.cardSector bytes (crc16 bytes))

/-- While the card is busy with a sector, the next one's fetch begins once it may be sent (R149, R157). Once a pending
end is recorded no further sector is sent, and the model begins no fetch of one (DESIGN CHOICE, log 40). -/
def prefetchSector (s : State) : State :=
  match s.card.activeJob, s.card.transfer with
  | some j, some t =>
    if t.write && t.cond == .busy && t.prefetch == .none && s.card.pendingEnd.isNone
        && decide (t.next + 1 < j.sectors) && s.sendable j (t.next + 1) then
      fetchSector j (t.next + 1) (s.onCard fun c => c.onTransfer fun t => { t with prefetch := .fetching })
    else s
  | _, _ => s

/-! ## Endings (R158, R159, R161, R164) -/

/-- An entry joins the completion list, newest first; it keeps 8 (R164). -/
def addCompletion (e : Completion) (s : State) : State :=
  s.onCard fun c => { c with completions := (e :: c.completions).take completionTop }

/-- The card pin of a WRITE_FRAME job is released; `mark` sets the settled mark in the same change (R11, R158). -/
def releasePin (j : Job) (mark : Bool) (s : State) : State :=
  if j.kind = .writeFrame then
    report j.frame (fun f => { f with cardPins := f.cardPins - 1, settled := f.settled || mark }) s
  else s

/-- A burst that reads. -/
def Burst.isRead : Burst → Bool
  | .read _ _ => true
  | .write _ => false

/-- The transfer is dropped (R158, R159, R161). The rules do not say what becomes of the bursts that it has waiting at
the arbiter (R173, R174). The model's choices: its fetches are withdrawn ungranted, with what they brought back (DESIGN
CHOICE, log 53), and its writes to the staging region still reach DRAM, though their sector be not counted (DESIGN
CHOICE, log 46). -/
def dropTransfer (s : State) : State :=
  (s.onCard fun c => { c with transfer := none, pendingEnd := none }).onPath fun p =>
    { p with card := { waiting := p.card.waiting.filter fun b => !b.isRead, got := [] } }

/-- The open transfer is closed with the end command (R149, R150). -/
def closeTransfer (s : State) : State :=
  dropTransfer (if s.card.transfer.isSome then s.send .cardEnd else s)

/-- The head job leaves the queue with an outcome, its pin is released and it enters the completion list. That rows
available keep their value (R144), through jobs that write no frame too, until the next WRITE_FRAME sets them (R155), is
the model's choice (DESIGN CHOICE, log 56). -/
def endHead (outcome : JobOutcome) (mark : Bool) (s : State) : State :=
  match s.card.jobs with
  | [] => s
  | j :: rest =>
    addCompletion ⟨j.tag, outcome, j.sectorsDone⟩
      (releasePin j mark (s.onCard fun c => { c with jobs := rest }))

/-- The active job fails (R159). A quiet failure neither halts the queue nor raises CARD_HALTED (R167, R168). -/
def failActive (reason : FailReason) (quiet : Bool) (s : State) : State :=
  let s := endHead (.failed reason) false (closeTransfer s)
  if quiet then s else raise .cardHalted (s.onCard fun c => { c with halted := true })

/-! ## Activation (R155) -/

/-- A write transfer opens (R149). That its sector buffer holds no bytes until the first sector fills it, where R144
gives it 512, is the model's choice (DESIGN CHOICE, log 57). -/
def openWrite (j : Job) (s : State) : State :=
  startSector j ((s.onCard fun c =>
    { c with transfer := some ⟨true, 0, [], .fetching, .none, none⟩ }).send (.cardWrite j.start))

/-- A read transfer opens, its first sector's limit running from the read command (R150), its sector buffer without
bytes until then (DESIGN CHOICE, log 57). -/
def openRead (j : Job) (s : State) : State :=
  (s.onCard fun c =>
    { c with transfer := some ⟨false, 0, [], .receiving, .none, some sectorTime⟩ }).send (.cardRead j.start)

/-- The write-protect switch is sampled (R148). -/
def sampleWriteProtect (s : State) : State := s.onCard fun c => { c with wpSample := some s.pins.wprot }

/-- The head job becomes ACTIVE when the queue is RUNNING, the card READY and no job ACTIVE (R155); it opens its
transfer or fails at once. -/
def activate (s : State) : State :=
  match s.card.jobs with
  | [] => s
  | j :: _ =>
    if s.card.halted || s.card.state != .ready || j.active then s
    else
      let s := s.onCard fun c => c.onHead fun j => { j with active := true }
      match j.kind with
      | .readMem => openRead j s
      | .writeMem =>
        let s := sampleWriteProtect s
        if s.pins.wprot then failActive .writeProtected false s else openWrite j s
      | .writeFrame =>
        let s := sampleWriteProtect s
        if s.pins.wprot then failActive .writeProtected false s
        else
          match (s.find j.frame).map s.frame with
          | none => failActive .sourceLost false s
          | some f =>
            if f.state = .spoiled then failActive .sourceLost false s
            else
              let rows := if f.state = .complete then s.setup.sensor.h.getD 0 else f.rowsStored
              openWrite j (s.onCard fun c => { c with rows := rows })

/-- The active job succeeds: end command, DONE, pin released with the settled mark of CONSIGN, CARD_DONE, and the next
head starts (R158). -/
def succeed (s : State) : State :=
  match s.card.activeJob with
  | none => s
  | some j => activate (raise .cardDone (endHead .done j.consign (closeTransfer s)))

/-- The active job takes its pending end (R160, R167); after a quiet one the next head may start (R155). -/
def takePending (p : PendingEnd) (s : State) : State := activate (failActive p.reason p.quiet s)

/-- The active job fails by a cause of its own, unless a pending end takes its place (R159, R160). -/
def failSector (reason : FailReason) (s : State) : State :=
  match s.card.pendingEnd with
  | some p => takePending p s
  | none => failActive reason false s

/-! ## Handoffs (R157, R160) -/

/-- A sector is in progress: SENDING, AWAITING_TOKEN, BUSY or RECEIVING (R160, R167). -/
def Transfer.inProgress (t : Transfer) : Bool := t.cond != .fetching && t.cond != .waitingRows

/-- A rows-stored value raises rows available of the active job's frame and releases what waited for it (R157). -/
def cardRows (id : Word) (rows : Nat) (s : State) : State :=
  match s.card.activeJob with
  | none => s
  | some j =>
    if j.kind = .writeFrame ∧ j.frame = id ∧ s.card.rows < rows then
      let s := s.onCard fun c => { c with rows := rows }
      match s.card.transfer with
      | some t => if t.cond = .waitingRows then startSector j s else prefetchSector s
      | none => s
    else s

/-- The spoil handoff to the card engine (R160). -/
def cardSpoiled (id : Word) (s : State) : State :=
  match s.card.activeJob with
  | none => s
  | some j =>
    if j.kind = .writeFrame ∧ j.frame = id then
      if s.card.transfer.any Transfer.inProgress then
        s.onCard fun c => { c with pendingEnd := some (c.pendingEnd.getD ⟨.sourceLost, false⟩) }
      else failActive .sourceLost false s
    else s

end Sys2Proof.Machine
end

