-- ==== Sys2Proof/Machine/SpoilOps.lean ====
section
/-! DEFINITION. Spoiling the frame in flight (R7). -/

namespace Sys2Proof.Machine

/-- The record's part of a spoil (R6, R7): a record in EXPOSING or READOUT becomes SPOILED with the reason and keeps
every field, an awaited-user link lodged with it is dropped (R109), and SHOT_SPOILED is raised. -/
def spoilRecord (k : Fin 16) (reason : SpoilReason) (s : State) : State :=
  let f := s.frame k
  let s := s.setFrame k { f with state := .spoiled, spoil := some reason }
  let s := s.onStore fun t => { t with lodged := t.lodged.filter fun l => l.1 != f.id }
  raise .shotSpoiled s

/-- The record a spoil of frame `id` finds in the state it requires, if any (R6). -/
def State.inFlightRecord (s : State) (id : Word) : Option (Fin 16) :=
  (s.find id).filter fun k => (s.frame k).inFlight

/-- A spoil report (R7): the record is spoiled and its id handed to the develop engine and the card engine; a report
that finds no record in flight is dropped. -/
def spoilFrame (id : Word) (reason : SpoilReason) (s : State) : State :=
  match s.inFlightRecord id with
  | some k => cardSpoiled id (breakViews id (spoilRecord k reason s))
  | none => s

end Sys2Proof.Machine
end

