-- ==== Sys2Proof/Machine/SequencerOps.lean ====
section
/-! DEFINITION. The exposure sequencer's shared operations (chapter 4): sensor commands, the start and the end of
integration, leaving a shot, dark shots, and the taking of the events that other blocks hand over. -/

namespace Sys2Proof.Machine

/-! ## State and sensor commands (R58 to R61) -/

/-- The sequencer enters a state: trip listening follows ARMED, the refused trip edge is cleared on leaving it (R59,
R77), and a drive in progress goes off with its permission (R48). -/
def seqEnter (st : SeqState) (s : State) : State :=
  let s := (s.onSeq fun q => { q with state := st, refusedTrip := if st = .armed then q.refusedTrip else none }).onSync
    fun y => { y with listening := st == .armed, rearmed := y.rearmed && st == .armed }
  if s.permission then s else driveOff s

/-- FLUSH is issued; its flush timeout runs from the command (R60). -/
def issueFlush (s : State) : State :=
  (s.onSeq fun q => { q with flushWait := some (ms s.setup.sensor.flushTimeout) }).send .sensorFlush

/-- START is issued: a FLUSH in progress is abandoned (R60). -/
def issueStart (s : State) : State :=
  (s.onSeq fun q => { q with flushWait := none, closingFlush := false, startWait := some ackLimit }).send .sensorStart

/-- END_AND_TRANSFER is issued (R60). A START still awaiting its ack no longer awaits it: at most one command awaits an
answer (log 18). -/
def issueEnd (s : State) : State :=
  (s.onSeq fun q => { q with startWait := none, endWait := some ackLimit }).send .sensorEnd

/-- The closing flush (R61). A FLUSH that already awaits its flush-done is finished as it (log 17). -/
def closingFlush (s : State) : State :=
  let s := s.onSeq fun q => { q with closingFlush := true }
  if s.seq.flushWait.isSome then s else issueFlush s

/-- The sequencer enters ARMED: the flush loop runs, a closing flush in progress being its first pass (R61, R72). -/
def enterArmed (s : State) : State :=
  let s := (seqEnter .armed s).onSeq fun q => { q with closingFlush := false }
  if s.seq.flushWait.isSome then s else issueFlush s

/-- The flush loop stops; a pass in progress is finished as a closing flush (R63, R76). -/
def stopLoop (s : State) : State := s.onSeq fun q => { q with closingFlush := q.flushWait.isSome }

/-- Update of the shot in flight. -/
def onShot (f : Shot → Shot) (s : State) : State := s.onSeq fun q => { q with shot := q.shot.map f }

/-- The timers of a shot stopped. -/
def Shot.stopped (h : Shot) : Shot :=
  { h with delayTimer := none, syncTimer := none, capTimer := none, openWait := none, tailTimer := none,
           windowTimer := none, darkTimer := none }

/-- A new shot in flight (R58). -/
def newShot (id : Word) (slot : Fin 16) (kind : FrameKind) (origin : Origin) (mode : Option ShotMode) (bulb : Nat)
    (returnArmed : Bool) (params : Exposure) (duration : Nat) : Shot where
  id := id
  slot := slot
  kind := kind
  origin := origin
  mode := mode
  bulb := bulb
  returnArmed := returnArmed
  params := params
  passesLeft := 0
  checking := false
  duration := duration
  delayTimer := none
  syncTimer := none
  capTimer := none
  openWait := none
  tailTimer := none
  windowTimer := none
  darkTimer := none

/-- The shot in flight is made and its target set (R63, R77, R81). -/
def makeShot (h : Shot) (s : State) : State := setTarget h.id h.params (s.onSeq fun q => { q with shot := some h })

/-- The sequencer leaves the shot and enters its return state (R72). -/
def enterReturn (h : Shot) (s : State) : State :=
  let s := s.onSeq fun q => { q with shot := none }
  if h.returnArmed then enterArmed s else seqEnter .idle s

/-- A flag is added to a frame (R10). -/
def addFlag (id : Word) (f : Flag) (s : State) : State := report id (·.withFlag f) s

/-! ## End of integration (R72) -/

/-- Integration of the shot in flight ends into READOUT (R72). -/
def endIntegration (h : Shot) (s : State) : State :=
  let s := issueEnd (driveOff s)
  let s := report h.id (fun f =>
    if f.state = .exposing then { f with state := .readout, integEnd := some s.clock } else f) s
  seqEnter .readout (onShot Shot.stopped (clearTarget s))

/-! ## Start of integration (R65, R66, R81) -/

/-- The drive parameters of a shot (R66). -/
def Shot.driveParams (h : Shot) : DriveParams where
  mode := h.mode.getD .syncWindow
  bulb := h.bulb
  pullIn := ms h.params.pullIn
  duty := h.params.holdDuty
  holdLimit := ms h.params.holdLimit
  response := h.params.openResponse
  deglitch := h.params.openDeglitch

/-- Integration of a released shot starts (R66). -/
def startReleased (h : Shot) (s : State) : State :=
  let s := driveOn h.driveParams (seqEnter .waitSync (issueStart s))
  let s := s.onSync fun y => { y with expect := .close }
  let s := report h.id (fun f => { f with release := some s.clock, integStart := some s.clock }) s
  onShot (fun h => { h with syncTimer := some (ms h.params.syncTimeout), capTimer := some integrationCapTime }) s

/-- Integration of a dark shot starts; a duration of 0 ends it at once (R81, R107). -/
def startDark (h : Shot) (s : State) : State :=
  let s := issueStart s
  let s := report h.id (fun f => { f with integStart := some s.clock }) s
  let s := seqEnter .darkRun (onShot (fun h => { h with darkTimer := some h.duration }) s)
  if h.duration = 0 then endIntegration h s else s

/-- Integration starts, by the kind of the shot. -/
def startIntegration (h : Shot) (s : State) : State :=
  if h.kind = .dark then startDark h s else startReleased h s

/-- The shot's flush passes begin, or at their number 0 integration starts; a closing flush in progress is waited for
(R65, R81). -/
def beginPasses (s : State) : State :=
  match s.seq.shot with
  | none => s
  | some h =>
    if s.seq.closingFlush then s
    else if h.passesLeft = 0 then startIntegration h s
    else issueFlush s

/-- PREPARING is entered: the flush passes are read from the sensor setup (R199), a released shot has its cable checked
if its parameters ask so (R65), and otherwise the passes begin. -/
def enterPreparing (s : State) : State :=
  match s.seq.shot with
  | none => s
  | some h =>
    let check := h.kind == .light && h.params.checkBefore
    let s := seqEnter .preparing (onShot (fun h =>
      { h with passesLeft := s.setup.sensor.passes, checking := check, delayTimer := none }) s)
    if check then checkCommand h.id s else beginPasses s

/-! ## Spoils by the sequencer (R74) -/

/-- The state entered after a spoil by the sequencer. -/
inductive AfterSpoil where
  | idle | armed | returning
  deriving DecidableEq, Repr

/-- What R74 does up to leaving the shot: the spoil is reported, the drive goes off, the target is cleared, an
integrating frame gets its integration end and the closing flush is issued, the shot's timers stop. -/
def spoilShot (h : Shot) (reason : SpoilReason) (s : State) : State :=
  let exposing := (s.find h.id).any fun k => (s.frame k).state == .exposing
  let s := clearTarget (driveOff (spoilFrame h.id reason s))
  let s := if exposing then
      closingFlush (report h.id (fun f => if f.integStart.isSome then { f with integEnd := some s.clock } else f) s)
    else s
  s.onSeq fun q => { q with shot := none, startWait := none }

/-- The sequencer spoils the shot in flight and enters the next state (R74). -/
def leaveSpoiled (h : Shot) (reason : SpoilReason) (after : AfterSpoil) (s : State) : State :=
  let s := spoilShot h reason s
  match after with
  | .idle => seqEnter .idle s
  | .armed => enterArmed s
  | .returning => enterReturn h s

/-! ## Dark shots (R81) -/

/-- A dark shot is run: the shot is made with the exposure parameters in force and PREPARING entered (R81). -/
def runDark (origin : Origin) (returnArmed : Bool) (o : DarkOrder) (s : State) : State :=
  enterPreparing
    (makeShot (newShot o.id o.slot .dark origin none 0 returnArmed s.setup.exposure o.duration) s)

/-- The sequencer takes the dark unit's answer: a new order, or the return state (R72, R81). -/
def takeOrder (h : Shot) (order : Option DarkOrder) (s : State) : State :=
  match order with
  | some o => runDark .autoDark h.returnArmed o s
  | none => enterReturn h s

/-- The sequencer takes the end of the frame in readout as spoiled (R72, R81, R111). -/
def frameSpoiled (id : Word) (s : State) : State :=
  match s.seq.shot with
  | none => s
  | some h =>
    if h.id ≠ id then s else enterReturn h (if h.kind = .dark then darkFailure s else s)

/-! ## Sensor fault (R82) -/

/-- A sensor fault: the frame in flight is spoiled SENSOR_FAULT with no flush, the cause raised, FAULT entered. -/
def sensorFault (s : State) : State :=
  let s := match s.seq.shot with
    | none => s
    | some h =>
      let exposing := (s.find h.id).any fun k => (s.frame k).state == .exposing
      let s := clearTarget (driveOff (spoilFrame h.id .sensorFault s))
      let s := if exposing then
          report h.id (fun f => if f.integStart.isSome then { f with integEnd := some s.clock } else f) s
        else s
      let s := s.onSeq fun q => { q with shot := none }
      if h.kind = .dark then darkFailure s else s
  let s := raise .sensorFault s
  seqEnter .fault (s.onSeq fun q =>
    { q with closingFlush := false, flushWait := none, startWait := none, endWait := none })

/-! ## Sync events (R67 to R69, R71, R77 to R79) -/

/-- TAIL is entered: the closing tail runs from the open's qualification, a tail of 0 ends integration (R71). -/
def enterTail (h : Shot) (s : State) : State :=
  let s := seqEnter .tail (onShot (fun h =>
    { h with openWait := none, syncTimer := none, tailTimer := some (ms h.params.closingTail) }) s)
  if h.params.closingTail = 0 then endIntegration h s else s

/-- OPEN is entered from WAIT_SYNC (R67): in SYNC_WINDOW the drive goes off; in TIMED_BULB with the drive already off
the open-wait starts (R69). -/
def enterOpen (h : Shot) (s : State) : State :=
  let s := seqEnter .open (onShot (fun h => { h with syncTimer := none }) s)
  if h.mode = some .timedBulb then
    if s.driver.phase.driving then s else onShot (fun h => { h with openWait := some (ms h.params.syncTimeout) }) s
  else driveOff s

/-- A qualified close taken by the sequencer (R79). -/
def qualifiedClose (edge : Word) (s : State) : State :=
  match s.seq.state, s.seq.shot with
  | .unset, _ => missedShot edge .notArmed s
  | .idle, _ => missedShot edge .notArmed s
  | .fault, _ => missedShot edge .notArmed s
  | .armed, _ =>
    if s.seq.refusedTrip = some edge then s.onSeq fun q => { q with refusedTrip := none }
    else missedShot edge .notArmed s
  | .readout, _ => missedShot edge .readoutBusy s
  | .delay, some h => missedShot edge .early (leaveSpoiled h .earlySync .idle s)
  | .preparing, some h =>
    if h.kind = .dark then missedShot edge .notArmed s
    else missedShot edge .early (leaveSpoiled h .earlySync .idle s)
  | .waitSync, some h => enterOpen h s
  | .tripped, some _ => seqEnter .open (onShot (fun h => { h with windowTimer := none }) s)
  | .tail, some h => addFlag h.id .extraSync s
  | .darkRun, some h =>
    let r := darkLeak (spoilShot h .lightLeak (missedShot edge .darkRun s))
    takeOrder h r.2 r.1
  | .open, _ => s
  | _, none => s

/-- A qualified open taken by the sequencer (R68, R69): in OPEN it leads to TAIL; with the drive still on it is an early
close. -/
def qualifiedOpen (s : State) : State :=
  match s.seq.state, s.seq.shot with
  | .open, some h => enterTail h (if s.driver.phase.driving then addFlag h.id .earlyClose (driveOff s) else s)
  | _, _ => s

/-- A close start that is no trip edge: in TRIPPED it stops the false-start window (R78). -/
def ordinaryStart (s : State) : State :=
  if s.seq.state = .tripped then onShot (fun h => { h with windowTimer := none }) s else s

/-- A trip edge (R77): in ARMED it starts an armed trip or becomes a missed shot EARLY; elsewhere it is answered with no
shot, and is a close start like any other (R78; log 23). `params` is the exposure setup in force at the edge, which the
shot takes (R37, R199, R201). The sync input's part of the answer (R37) is made with it. -/
def tripEdge (edge : Word) (params : Exposure) (s : State) : State :=
  if s.seq.state ≠ .armed then ordinaryStart s
  else
    match allocate .light .tripped none s with
    | (s, none) => (missedShot edge .early s).onSeq fun q => { q with refusedTrip := some edge }
    | (s, some (k, id)) =>
      let ret := s.seq.stayArmed
      let cap := integrationCapTime - (s.clock - edge).toNat
      let h := { newShot id k .light .tripped none 0 ret params 0 with capTimer := some cap }
      let s := report id (fun f => { f with integStart := some edge }) (issueStart s)
      let s := seqEnter .tripped (makeShot h s)
      s.onSync fun y => { y with expect := .close }

/-- A close-abandoned event (R77, R78). -/
def closeAbandoned (edge : Word) (s : State) : State :=
  match s.seq.state with
  | .tripped =>
    onShot (fun h => { h with windowTimer := some (h.windowTimer.getD (ms h.params.falseStart)) }) s
  | .armed => if s.seq.refusedTrip = some edge then s.onSeq fun q => { q with refusedTrip := none } else s
  | _ => s

/-! ## Driver reports (R65, R69, R70) -/

/-- A pre-shot check's result (R65); it is ignored outside PREPARING of the shot that asked for it. -/
def takeCheck (shot : Word) (present : Bool) (s : State) : State :=
  match s.seq.state, s.seq.shot with
  | .preparing, some h =>
    if h.id = shot ∧ h.checking then
      if present then beginPasses (onShot (fun h => { h with checking := false }) s)
      else leaveSpoiled h .noCable .returning s
    else s
  | _, _ => s

/-- The flag of a drive ended report (R70). -/
def DriveEnd.flag : DriveEnd → Option Flag
  | .openAbort => some .openLoad
  | .short => some .releaseFaultLate
  | .lowSupply => some .lowSupply
  | .bulbEnd => none
  | .holdLimit => none

/-- The flag, if any, is added. -/
def addFlag? (id : Word) (f : Option Flag) (s : State) : State :=
  match f with
  | some f => addFlag id f s
  | none => s

/-- A drive ended report taken by the sequencer (R70); `off` is the shot clock value of the drive off, from which the
open-wait of a TIMED_BULB shot runs (R69). When the drive went off before the close qualified and its report is taken in
OPEN, R69 has the open-wait run from the entry to OPEN and the table of R70 from the drive off: that the report, as it is
taken, starts it anew from the drive off is the model's choice (DESIGN CHOICE, log 51). -/
def takeDriveEnd (cause : DriveEnd) (off : Word) (s : State) : State :=
  match s.seq.state, s.seq.shot with
  | .waitSync, some h =>
    match cause with
    | .openAbort => leaveSpoiled h .releaseFault .returning s
    | .short => leaveSpoiled h .releaseFault .returning s
    | .lowSupply => addFlag h.id .lowSupply s
    | .bulbEnd => s
    | .holdLimit => s
  | .open, some h =>
    let s := addFlag? h.id cause.flag s
    if h.mode = some .timedBulb then
      onShot (fun h => { h with openWait := some (ms h.params.syncTimeout - (s.clock - off).toNat) }) s
    else s
  | .tail, some h => addFlag? h.id cause.flag s
  | .readout, some h => addFlag? h.id cause.flag s
  | _, _ => s

/-- An open-load continuing report (R70). -/
def takeOpenContinuing (s : State) : State :=
  match s.seq.state, s.seq.shot with
  | .waitSync, some h => addFlag h.id .openLoad s
  | .open, some h => addFlag h.id .openLoad s
  | .tail, some h => addFlag h.id .openLoad s
  | .readout, some h => addFlag h.id .openLoad s
  | _, _ => s

end Sys2Proof.Machine
end

