-- ==== Sys2Proof/Machine/ReadoutOps.lean ====
section
/-! DEFINITION. The readout unit's shared operations (chapter 5): rows and their reports, black levels, the drift and
ceiling tests, completion and spoils. -/

namespace Sys2Proof.Machine

/-! ## Rows (R88 to R90) -/

/-- A row's bytes in stored order: low byte, then high byte of each sample (R88). -/
def rowBytes (samples : List Sample) : List Byte := samples.flatMap fun v => leBytes 2 v.toNat

/-- The optical black samples of row `r` added to the sums of their channels (R89 step 2); `j` is the column. -/
def addBlack (cfa : Cfa) (r : Nat) : Nat → List Sample → Four Nat → Four Nat
  | _, [], sums => sums
  | j, v :: rest, sums =>
    let c := channelOf cfa r j
    addBlack cfa r (j + 1) rest (sums.set c (sums.get c + v.toNat))

/-- A row in flight is stored (R89 step 6): rows stored is reported to the record with the bad rows up to it (R90), then
handed to the develop engine and to the card engine. That the develop engine takes it first, a held read completing with
its bursts before the card engine begins its fetch, is the model's choice (DESIGN CHOICE, log 43). -/
def storeRow (s : State) : State :=
  match s.readout.frame, s.readout.inFlight with
  | some f, r :: rest =>
    let stored := s.readout.stored + 1
    let s := s.onReadout fun u => { u with stored := stored, inFlight := rest }
    let s := report f.id (fun x => { x with rowsStored := stored, badRows := r.badRows, firstBad := r.firstBad }) s
    cardRows f.id stored (developRows f.id stored s)
  | _, _ => s

/-- `n` rows stored in turn. -/
def storeRows : Nat → State → State
  | 0, s => s
  | n + 1, s => storeRows n (storeRow s)

/-- The writes of every row taken are finished and the rows reported (R93 step 2). -/
def finishRows (s : State) : State := storeRows s.readout.inFlight.length (drainReadout s)

/-- The frame in readout is cleared and IDLE entered. R93 and R101 drop the black sums of a frame spoiled and of RESTART;
R100 names for a completed frame neither them nor the counts, and no rule says what expected row, rows stored, bad-row
count and first bad row hold while no frame is in readout. That the sums become 0 and the counts keep their values is
the model's choice (DESIGN CHOICE, log 55). -/
def leaveReadout (s : State) : State :=
  s.onReadout fun u => { u with frame := none, inFlight := [], sums := ⟨0, 0, 0, 0⟩, rowTimer := none, marker := false }

/-- The readout unit spoils the frame in readout (R93). -/
def spoilReadout (reason : SpoilReason) (s : State) : State :=
  match s.readout.frame with
  | none => s
  | some f =>
    let s := finishRows (s.onReadout fun u => { u with rowTimer := none })
    leaveReadout (frameSpoiled f.id (spoilFrame f.id reason s))

/-! ## Black level and black history (R96 to R99) -/

/-- The black level of a channel: the rounded mean of its optical black samples, or the pedestal (R96). The halves of
an odd count are exact. -/
def blackLevel (f : ReadoutFrame) (sum : Nat) : Nat :=
  let n := f.ob / 2 * (f.rows / 2)
  if f.ob = 0 then f.pedestal else (2 * sum + n) / (2 * n)

/-- The black levels and the frame mean black (R96, R97). -/
def measure (f : ReadoutFrame) (sums : Four Nat) : Blacks :=
  let b : Four Nat := ⟨blackLevel f sums.c0, blackLevel f sums.c1, blackLevel f sums.c2, blackLevel f sums.c3⟩
  ⟨b, (b.c0 + b.c1 + b.c2 + b.c3 + 2) / 4⟩

/-- The history mean (R99). -/
def historyMean (h : List Nat) : Nat := (h.sum + h.length / 2) / h.length

/-- The drift test (R99): without entries no test is made. -/
def drifts (limit mean : Nat) (h : List Nat) : Bool := !h.isEmpty && decide (limit < gap mean (historyMean h))

/-- The history with a new entry: at most 6, the oldest leaving first (R98). -/
def pushHistory (h : List Nat) (m : Nat) : List Nat := (if historyTop ≤ h.length then h.tail else h) ++ [m]

/-- The readout flags of a completed frame (R100 step 3). -/
def completionFlags (f : ReadoutFrame) (badRows mean : Nat) (h : List Nat) : List Flag :=
  (if 0 < badRows then [.badRows] else [])
    ++ (if f.kind = .light ∧ drifts f.dark.driftLimit mean h = true then [.drift] else [])
    ++ (if f.kind = .light ∧ f.blackCeiling < mean then [.highBlack] else [])

/-! ## Completion (R100, R109) -/

/-- The record's completion as one change of the frame table (R100 step 3, R109): COMPLETE with its black levels and
flags; a LIGHT record awaits its dark decision (R13), a DARK record takes its awaited user. -/
def completeRecord (k : Fin 16) (blacks : Blacks) (flags : List Flag) (s : State) : State :=
  let f := s.frame k
  let f' := flags.foldl Frame.withFlag { f with state := .complete, blacks := some blacks }
  match f.kind with
  | .light => s.setFrame k { f' with awaitDark := true }
  | .dark =>
    match s.store.lodged with
    | some (d, light) =>
      if d = f.id then
        let s := s.setFrame k { f' with darkUsers := 1 }
        settleDark light (.linked d) (s.onStore fun t => { t with lodged := none })
      else s.setFrame k f'
    | none => s.setFrame k f'

/-- The shot in flight, when it is the one of frame `id`. -/
def State.shotOf (s : State) (id : Word) : Option Shot := s.seq.shot.filter fun h => h.id == id

/-- The dark decision of a completed LIGHT frame is made, and the sequencer takes it with the frame's end (R72, R100
steps 5, 6). No decision goes to a sequencer that has left the shot (R115). -/
def lightCompleted (f : ReadoutFrame) (s : State) : State :=
  let r := decideDark f.id f.dark (s.shotOf f.id).isSome s
  match s.shotOf f.id with
  | some h => takeOrder h r.2 r.1
  | none => r.1

/-- The sequencer takes the end of a completed DARK frame with the dark unit's answer, which is none (R109, R114). -/
def darkCompleted (f : ReadoutFrame) (s : State) : State :=
  match s.shotOf f.id with
  | some h => enterReturn h (endDarkJob s)
  | none => s

end Sys2Proof.Machine
end

