-- ==== Sys2Proof/Machine/Handoffs.lean ====
section
/-! DEFINITION. Handoffs between blocks that are on their way: a trip edge and its answer (R37), the driver's reports (R41),
the report of a completed frame (R100) and a light frame's way to its dark decision (R103, R115). `State.lags` says how many
microseconds each is on its way; 0 is taken within the row (free values, log 23). -/

namespace Sys2Proof.Machine

/-- A trip edge is taken and answered (R37, R77). A run abandoned while the answer was awaited is accounted for now: its
bounce is counted against the frame that the answer names, and the close-abandoned event follows. -/
def answerTrip (edge : Word) (params : Exposure) (abandoned : Bool) (s : State) : State :=
  let t := tripEdge edge params s
  if abandoned then
    closeAbandoned edge (if s.seq.state == .armed && t.seq.state == .tripped then countBounce t else t)
  else t

/-- A driver report is taken (R65, R70); the end of a drive, or an open load, of a shot no longer in flight is ignored. -/
def takeReport (shot : Option Word) (report : DriverReport) (s : State) : State :=
  match report with
  | .checkResult present =>
    match shot with
    | some id => takeCheck id present s
    | none => s
  | .driveEnded cause off => if shot = s.seq.shot.map (·.id) then takeDriveEnd cause off s else s
  | .openContinuing => if shot = s.seq.shot.map (·.id) then takeOpenContinuing s else s

/-! ## On the way -/

/-- Two handoffs go the same way, from one block to one other. -/
def Message.sameWay (a b : Message) : Bool :=
  match a, b with
  | .tripEdge _ _ _, .tripEdge _ _ _ => true
  | .driver _ _, .driver _ _ => true
  | .completion _ _ _, .completion _ _ _ => true
  | .completed _, .completed _ => true
  | _, _ => false

/-- How long a new handoff is on its way: it does not overtake an earlier one that goes the same way (log 23). -/
def State.lagOf (s : State) (m : Message) : Nat :=
  (s.handoffs.filter fun h => h.message.sameWay m).foldl (fun n h => max n h.lag) (s.lags.headD 0)

/-- A message is handed to a block that takes it by `take`: at once, or it is on its way. -/
def handTo (take : State → State) (m : Message) (s : State) : State :=
  let lag := s.lagOf m
  let s := { s with lags := s.lags.tail }
  if lag = 0 then take s else s.onHandoffs fun hs => hs ++ [⟨m, lag⟩]

/-- The end of a completed frame is handed on (R100 steps 5, 6). A light frame may be on its way to its dark decision;
for a dark one the sequencer takes the end at once, its outcome being in the record already (R109). -/
def handCompleted (kind : FrameKind) (f : ReadoutFrame) (s : State) : State :=
  match kind with
  | .light => handTo (lightCompleted f) (.completed f) s
  | .dark => darkCompleted f s

/-- A completion report reaches the frame store (R100 steps 3 to 6): the record completes, its cause is raised and its
end handed on. A report that finds no record in READOUT, RESTART having spoiled it, is dropped (R6, R9). -/
def takeCompletion (f : ReadoutFrame) (blacks : Blacks) (flags : List Flag) (s : State) : State :=
  match (s.find f.id).filter fun k => (s.frame k).state == .readout with
  | none => s
  | some k =>
    let kind := (s.frame k).kind
    handCompleted kind f (raise (if kind = .light then .shotDone else .darkDone) (completeRecord k blacks flags s))

/-- A handoff is taken by the block it goes to. -/
def takeMessage (m : Message) (s : State) : State :=
  match m with
  | .tripEdge edge params abandoned => answerTrip edge params abandoned s
  | .driver shot report => takeReport shot report s
  | .completion frame blacks flags => takeCompletion frame blacks flags s
  | .completed frame => lightCompleted frame s

/-- A block hands a message on: it is taken at once, or it is on its way. -/
def handOn (m : Message) (s : State) : State := handTo (takeMessage m) m s

/-- A microsecond of the handoffs on their way: those that have arrived are taken in order. What each of them changes
schedules its writes, though another change it back (R22, R186). -/
def takeArrived (s : State) : State :=
  let arrived := s.handoffs.filter fun h => decide (h.lag ≤ 1)
  let rest := (s.handoffs.filter fun h => decide (1 < h.lag)).map fun h => { h with lag := h.lag - 1 }
  arrived.foldl (fun s h => settle s (takeMessage h.message s)) (s.onHandoffs fun _ => rest)

/-! ## Trip edges that await their answer (R37) -/

/-- The message is the trip edge of a run still in progress. -/
def Message.awaits (edge : Word) (m : Message) : Bool :=
  match m with
  | .tripEdge e _ abandoned => e == edge && !abandoned
  | .driver _ _ => false
  | .completion _ _ _ => false
  | .completed _ => false

/-- The trip edge of the run with this edge awaits its answer, which holds the run's qualification. -/
def State.tripAwaited (s : State) (edge : Word) : Bool := s.handoffs.any fun h => h.message.awaits edge

/-- The message as it stands once the run of this edge has been abandoned. -/
def Message.abandon (edge : Word) (m : Message) : Message :=
  match m with
  | .tripEdge e params abandoned => .tripEdge e params (abandoned || e == edge)
  | m => m

/-- The run of a trip edge that awaits its answer has been abandoned. -/
def markAbandoned (edge : Word) (s : State) : State :=
  s.onHandoffs fun hs => hs.map fun h => { h with message := h.message.abandon edge }

/-- Every trip edge that awaits its answer is answered with no shot (R39, R84). -/
def dropTrips (s : State) : State :=
  s.onHandoffs fun hs => hs.filter fun h => match h.message with
    | .tripEdge _ _ _ => false
    | .driver _ _ => true
    | .completion _ _ _ => true
    | .completed _ => true

/-- A close start (R36, R77, R78): with trip listening on it is a trip edge, handed on with the exposure setup in force
at it (R37, R201), but not in the moment in which a false start has turned listening on again (log 37). -/
def closeStart (edge : Word) (s : State) : State :=
  if s.sync.listening && !s.sync.rearmed then handOn (.tripEdge edge s.setup.exposure false) s
  else ordinaryStart s

end Sys2Proof.Machine
end

