-- ==== Sys2Proof/Machine/Clock.lean ====
section
/-! DEFINITION. One microsecond of the shot clock (R26): what step does on an empty queue in place of idling
(DESIGN CHOICE, log 1). Timers run; a timer that has run out stays due until its row is taken (log 2). -/

namespace Sys2Proof.Machine

/-- The timers of the shot in flight. -/
def tickShot (h : Shot) : Shot :=
  { h with delayTimer := timerTick h.delayTimer, syncTimer := timerTick h.syncTimer, capTimer := timerTick h.capTimer
           openWait := timerTick h.openWait, tailTimer := timerTick h.tailTimer, windowTimer := timerTick h.windowTimer
           darkTimer := timerTick h.darkTimer }

/-- The sequencer's timers. -/
def tickSeq (s : State) : State :=
  s.onSeq fun q =>
    { q with shot := q.shot.map tickShot, flushWait := timerTick q.flushWait, startWait := timerTick q.startWait
             endWait := timerTick q.endWait }

/-- The counted time of a run grows outside blanking while the raw level stays at the run's (R29, R32); the blanking
timer runs. -/
def tickSync (s : State) : State :=
  s.onSync fun y =>
    { y with run := y.run.map fun r =>
               if y.blanking.isNone && s.pins.syncClosed == r.closing then { r with counted := r.counted + 1 } else r
             blanking := timerTick y.blanking
             rearmed := false }

/-- A microsecond with drive current (R49, R52): the cable state, the short timer, and the open-load timer of an
evaluated microsecond. Under CONTINUE an OPEN latched in PULL_IN turns evaluation off; that 50 mA in the rest of PULL_IN
then set the cable PRESENT, where R49 names evaluated and ramp-blank microseconds, R50 "a later on-part" and "a later
drive current", is the model's choice (DESIGN CHOICE, log 54). -/
def senseDrive (current : Nat) (d : Driver) : Driver :=
  { d with cable := if openThreshold ≤ current then .present else d.cable
           shortTimer := if shortThreshold < current then satInc shortTime d.shortTimer else 0
           openTimer := if d.openEval && d.rampTimer.isNone then
               (if current < openThreshold then satInc openTimerTop d.openTimer else 0)
             else d.openTimer }

/-- The driver's microsecond: currents are sensed while drive current flows, then its timers run. -/
def tickDriver (s : State) : State :=
  s.onDriver fun d =>
    let d := if s.driveFlows then senseDrive s.pins.sense d else d
    { d with checkTimer := timerTick d.checkTimer, pullTimer := timerTick d.pullTimer, holdTimer := timerTick d.holdTimer
             bulbTimer := timerTick d.bulbTimer, rampTimer := timerTick d.rampTimer, chopTimer := timerTick d.chopTimer
             supplyFilter := timerTick d.supplyFilter }

/-- The wait of a held read (R136). -/
def tickService (s : State) : State :=
  s.onDevelop fun d =>
    { d with service := d.service.map fun sv => match sv.cond with
      | .held w => { sv with cond := .held (timerTick w) }
      | .computing => sv }

/-- The card engine's timers. -/
def tickCard (s : State) : State :=
  s.onCard fun c =>
    { c with debounce := timerTick c.debounce, initLimit := timerTick c.initLimit
             transfer := c.transfer.map fun t => { t with limit := timerTick t.limit } }

/-- One microsecond of every block. -/
def microsecond (s : State) : State :=
  let s := { s with clock := s.clock + 1 }
  let s := tickCard (tickService (tickDriver (tickSync (tickSeq s))))
  s.onReadout fun u => { u with rowTimer := timerTick u.rowTimer }

/-- A step on an empty queue: a microsecond passes, and the handoffs that have arrived are taken (log 23). During
power-on reset the clock stands (R209). -/
def tick (s : State) : State :=
  if s.inReset then s.quiet else settle s (pump (takeArrived (microsecond s.quiet)))

end Sys2Proof.Machine
end

