-- ==== Sys2Proof/WellFormed.lean ====
section
/-! DEFINITION. Which commands can stand on the part's ports and links at all. A command that is not well-formed
is refused by name (log 14); every other operand value is the rules' business. -/

namespace Sys2Proof

/-- The request kinds of R205's table. -/
def knownKinds : List Half :=
  [0x0001, 0x0002, 0x0003, 0x0008, 0x0009, 0x0010, 0x0011, 0x0012, 0x0013, 0x0020, 0x0021,
   0x0030, 0x0040, 0x0041, 0x0042, 0x0043, 0x0050, 0x0051, 0x0052, 0x0060, 0x0061, 0x0062]

/-- A processor transaction has 1 to 64 bytes (09 section 9.1). -/
def portLength (n : Nat) : Bool := decide (1 ≤ n ∧ n ≤ 64)

/-- The form of each command: a port transaction of 1 to 64 bytes; a post or clear that enables a byte; a kind
that is no kind of the part (R179); a 16-byte identity block, a four-byte sector count (R146) and a 512-byte
sector (R150). -/
def Instr.wellFormed : Instr → Bool
  | .processorWrite _ bytes => portLength bytes.length
  | .apertureRead _ len => portLength len
  | .postWrite lo hi => lo.isSome || hi.isSome
  | .causeClearWrite b4 b5 b6 b7 => b4.isSome || b5.isSome || b6.isSome || b7.isSome
  | .unknownRequest kind => !knownKinds.contains kind
  | .identifyAnswer block _ => block.length == 16
  | .capacityAnswer bytes _ => bytes.length == 4
  | .readSectorReceived bytes _ => bytes.length == 512
  | _ => true

end Sys2Proof
end

