-- ==== Sys2Proof/Machine/Operands.lean ====
section
/-! DEFINITION. Operands of requests: the fields of a request record (R204, R205), named values and clamps (R191). -/

namespace Sys2Proof.Machine

/-! ## Fields of a record -/

/-- The number held by `n` bytes at an offset of a record (R204). -/
def fieldAt (record : List Byte) (offset n : Nat) : Nat := leValue ((record.drop offset).take n)

/-- A two-byte field. -/
def half (record : List Byte) (offset : Nat) : Half := BitVec.ofNat 16 (fieldAt record offset 2)

/-- A four-byte field. -/
def word (record : List Byte) (offset : Nat) : Word := BitVec.ofNat 32 (fieldAt record offset 4)

/-- A setup request's two-byte parameter: present when its bit of the presence mask at 0x08 is set. -/
def param (record : List Byte) (bit offset : Nat) : Option Half :=
  if (fieldAt record 0x08 4).testBit bit then some (half record offset) else none

/-- SETUP_SENSOR's parameters. -/
def sensorFields (r : List Byte) : SensorFields where
  wa := param r 0 0x0C
  h := param r 1 0x0E
  ob := param r 2 0x10
  cfa := param r 3 0x12
  pedestal := param r 4 0x14
  passes := param r 5 0x16
  flushTimeout := param r 6 0x18
  rowTimeout := param r 7 0x1A

/-- SETUP_STORE's parameters. -/
def storeFields (r : List Byte) : StoreFields where
  retention := param r 0 0x0C
  slotLimit := param r 1 0x0E

/-- SETUP_EXPOSURE's parameters; the dark threshold has four bytes. -/
def exposureFields (r : List Byte) : ExposureFields where
  closeQualify := param r 0 0x10
  openQualify := param r 1 0x12
  blankTime := param r 2 0x14
  syncTimeout := param r 3 0x16
  closingTail := param r 4 0x18
  falseStart := param r 5 0x1A
  checkBefore := param r 6 0x1C
  pullIn := param r 7 0x1E
  holdDuty := param r 8 0x20
  holdLimit := param r 9 0x22
  openResponse := param r 10 0x24
  openDeglitch := param r 11 0x26
  autoDark := param r 12 0x28
  darkThreshold := if (fieldAt r 0x08 4).testBit 13 then some (word r 0x0C) else none
  darkTolerance := param r 14 0x2A
  driftLimit := param r 15 0x2C
  blackCeiling := param r 16 0x2E
  viewWait := param r 17 0x30

/-- OPEN_VIEW's fields. -/
def openViewFields (r : List Byte) : OpenViewFields where
  view := half r 0x08
  form := half r 0x0A
  darkUse := half r 0x0C
  tone := half r 0x0E
  frame := word r 0x10
  dark := word r 0x14
  g0 := half r 0x18
  g1 := half r 0x1A
  g2 := half r 0x1C
  g3 := half r 0x1E
  clip := half r 0x20

/-- CARD_JOB's fields. -/
def cardJobFields (r : List Byte) : CardJobFields where
  tag := half r 0x02
  kind := half r 0x08
  consign := (half r 0x0A).getLsbD 0
  frame := word r 0x0C
  offset := word r 0x10
  address := word r 0x14
  length := word r 0x18
  start := word r 0x1C

/-- The request of a 64-byte record, as a command (R205). -/
def decodeRequest (r : List Byte) : Instr :=
  match fieldAt r 0x00 2 with
  | 0x0001 => .setupSensor (sensorFields r)
  | 0x0002 => .setupStore (storeFields r)
  | 0x0003 => .setupExposure (exposureFields r)
  | 0x0008 => .setMask (half r 0x08)
  | 0x0009 => .restart false false
  | 0x0010 => .release (half r 0x08) (word r 0x0C) (word r 0x10)
  | 0x0011 => .arm ((half r 0x08).getLsbD 0)
  | 0x0012 => .disarm
  | 0x0013 => .cancel
  | 0x0020 => .checkRelease
  | 0x0021 => .clearFaults
  | 0x0030 => .takeDark (word r 0x08)
  | 0x0040 => .keep (word r 0x08)
  | 0x0041 => .unkeep (word r 0x08)
  | 0x0042 => .settle (word r 0x08)
  | 0x0043 => .discard (word r 0x08)
  | 0x0050 => .openView (openViewFields r)
  | 0x0051 => .closeView (half r 0x08)
  | 0x0052 => .loadTone (half r 0x08) (word r 0x0C)
  | 0x0060 => .cardJob (cardJobFields r)
  | 0x0061 => .cardResume
  | 0x0062 => .cardFlush
  | _ => .unknownRequest (half r 0x00)

/-- The tag of a record (R204). -/
def requestTag (r : List Byte) : Half := half r 0x02

/-! ## Clamps (R191) -/

/-- A value taken to the nearer end of its range. -/
def clampTo (lo hi v : Nat) : Nat := if v < lo then lo else if hi < v then hi else v

/-- A field read as a number. -/
def fieldNat {w : Nat} (f : Option (BitVec w)) : Option Nat := f.map BitVec.toNat

/-- The value a clamping field leaves in force: an absent field keeps the old value. -/
def takeClamped (lo hi old : Nat) (f : Option Half) : Nat := ((fieldNat f).map (clampTo lo hi)).getD old

/-- A present field lies outside its range. -/
def wasClamped (lo hi : Nat) (f : Option Half) : Bool := (fieldNat f).any fun v => decide (v < lo ∨ hi < v)

/-- The dark threshold's clamp: 0 is taken as given, other values go to 100..3,600,000 (R198). -/
def clampThreshold (v : Nat) : Nat := if v = 0 then 0 else clampTo 100 3600000 v

/-- The dark threshold was clamped. -/
def thresholdClamped (f : Option Word) : Bool := (fieldNat f).any fun v => clampThreshold v != v

/-- OK, or CLAMPED when a value was clamped. -/
def okCode (clamped : Bool) : ResultCode := if clamped then .clamped else .ok

/-! ## Named values (R205) -/

/-- A switch: 0 off, 1 on. -/
def switchOf (v : Half) : Option Bool := if v = 0 then some false else if v = 1 then some true else none

/-- CFA phase codes. -/
def cfaOf (v : Half) : Option Cfa :=
  if v = 0 then some .rggb else if v = 1 then some .grbg else if v = 2 then some .gbrg
  else if v = 3 then some .bggr else none

/-- Retention mode codes. -/
def retentionOf (v : Half) : Option Retention := if v = 0 then some .safe else if v = 1 then some .ring else none

/-- Open-load response codes. -/
def responseOf (v : Half) : Option OpenResponse :=
  if v = 0 then some .abort else if v = 1 then some .continue else none

/-- Shot mode codes. -/
def shotModeOf (v : Half) : Option ShotMode :=
  if v = 0 then some .syncWindow else if v = 1 then some .timedBulb else none

/-- View form codes. -/
def formOf (v : Half) : Option Form :=
  if v = 0 then some .correctedRaw else if v = 1 then some .quadRgb8 else none

/-- Job kind codes. -/
def jobKindOf (v : Half) : Option JobKind :=
  if v = 1 then some .writeFrame else if v = 2 then some .writeMem else if v = 3 then some .readMem else none

/-- A refusing field is absent or holds one of its values. -/
def namesValue {α : Type} (code : Half → Option α) (f : Option Half) : Bool := f.all fun v => (code v).isSome

/-- The value a refusing field leaves in force. -/
def takeNamed {α : Type} (code : Half → Option α) (old : α) (f : Option Half) : α := (f.bind code).getD old

/-- A geometry field is absent or even and in its range. -/
def geometryOk (lo hi : Nat) (f : Option Half) : Bool :=
  (fieldNat f).all fun v => decide (lo ≤ v ∧ v ≤ hi ∧ v % 2 = 0)

end Sys2Proof.Machine
end

