-- ==== Sys2Proof/Machine/CardPort.lean ====
section
/-! DEFINITION. The requests and events of the card engine (chapter 8). -/

namespace Sys2Proof.Machine

/-! ## Requests (R152, R153, R162, R163) -/

/-- Step 3 of R152: lengths, alignment, the staging region and the capacity; sums are exact. -/
def jobInRange (f : CardJobFields) (capacity : Nat) : Bool :=
  match jobKindOf f.kind with
  | none => false
  | some kind =>
    let length := f.length.toNat
    decide (length ≠ 0 ∧ length % 512 = 0 ∧ f.start.toNat + length / 512 ≤ capacity)
      && match kind with
        | .writeFrame => decide (f.offset.toNat % 512 = 0)
        | _ => decide (f.address.toNat % 512 = 0 ∧ stagingBase ≤ f.address.toNat
            ∧ f.address.toNat + length ≤ stagingEnd)

/-- The frame data size rounded up to whole sectors (R152 step 7). -/
def roundSector (n : Nat) : Nat := (n + 511) / 512 * 512

/-- The record an accepted CARD_JOB makes (R153). -/
def newJob (f : CardJobFields) (kind : JobKind) : Job where
  tag := f.tag
  kind := kind
  frame := f.frame
  offset := f.offset.toNat
  address := f.address.toNat
  length := f.length.toNat
  start := f.start
  consign := f.consign
  active := false
  sectorsDone := 0

/-- Steps 5 to 7 of R152 for a WRITE_FRAME job. -/
def State.frameJobCheck (s : State) (f : CardJobFields) : Option ResultCode :=
  match s.find f.frame with
  | none => some .noFrame
  | some k =>
    if (s.frame k).state ≠ .readout ∧ (s.frame k).state ≠ .complete then some .notReady
    else if roundSector s.store.layout.frameSize < f.offset.toNat + f.length.toNat then some .badParam
    else none

/-- The CARD_JOB checks in order (R152). -/
def State.cardJobCheck (s : State) (f : CardJobFields) : Option ResultCode :=
  if s.card.state ≠ .ready then some .noCard
  else if queueTop ≤ s.card.jobs.length then some .queueFull
  else if !jobInRange f ((s.card.capacity.map BitVec.toNat).getD 0) then some .badParam
  else if jobKindOf f.kind ≠ some .readMem ∧ s.card.wpSample = some true then some .writeProtected
  else if jobKindOf f.kind = some .writeFrame then s.frameJobCheck f
  else none

/-- One card pin more on the record an id names, and the write of its mirror entry, which the answer waits for (R11,
R153). -/
def pinCard (id : Word) (s : State) : State :=
  match s.find id with
  | some k => awaitMirrors [k] (s.setFrame k { s.frame k with cardPins := (s.frame k).cardPins + 1 })
  | none => s

/-- The decision of CARD_JOB: the job joins the tail, its frame is pinned, and it starts if nothing runs (R153). The
mirror writes are scheduled here, because a job that fails at once leaves queue and pins as they were (R155, R159). -/
def decideCardJob (f : CardJobFields) (s : State) : State × Option ResultCode :=
  match s.cardJobCheck f, jobKindOf f.kind with
  | some code, _ => refuse code s
  | none, none => refuse .badParam s
  | none, some kind =>
    let s := s.onCard fun c => { c with jobs := c.jobs ++ [newJob f kind] }
    let s := if kind = .writeFrame then pinCard f.frame s else s
    accept (activate (awaitQueue s))

/-- CARD_JOB (R152, R153). -/
def execCardJob (f : CardJobFields) (s : State) : Answer := request (.cardJob f) (decideCardJob f) s

/-- The decision of CARD_RESUME (R162). -/
def decideCardResume (s : State) : State × Option ResultCode :=
  if s.card.halted then accept (activate (s.onCard fun c => { c with halted := false })) else refuse .notHalted s

/-- CARD_RESUME (R162). -/
def execCardResume (s : State) : Answer := request .cardResume decideCardResume s

/-- Jobs that have left the queue end in submission order (R161, R163, R167). -/
def endJobs (outcome : JobOutcome) (jobs : List Job) (s : State) : State :=
  jobs.foldl (fun s j => addCompletion ⟨j.tag, outcome, j.sectorsDone⟩ (releasePin j false s)) s

/-- Every QUEUED job is cancelled; the ACTIVE job stays; the queue is RUNNING (R163, R167). -/
def cancelQueued (s : State) : State :=
  let queued := s.card.jobs.filter fun j => !j.active
  endJobs .cancelled queued (s.onCard fun c => { c with jobs := c.jobs.filter (·.active), halted := false })

/-- The decision of CARD_FLUSH (R163). On an empty queue no mirror is written, since nothing but the queue state changes
(log 41). -/
def decideCardFlush (s : State) : State × Option ResultCode :=
  accept (cancelQueued (if s.card.jobs.isEmpty then s else awaitQueue s))

/-- CARD_FLUSH (R163). -/
def execCardFlush (s : State) : Answer := request .cardFlush decideCardFlush s

/-! ## Socket (R145, R147, R161) -/

/-- The detect line shows a level (R145): one that differs from the detect state starts the debounce timer or keeps it
running, one that agrees clears it. The write-protect switch is carried with it (log 10). -/
def detectLine (cardIn writeProtect : Bool) (s : State) : State :=
  (s.onPins fun p => { p with detectIn := cardIn, wprot := writeProtect }).onCard fun c =>
    { c with debounce := if cardIn = c.detectIn then none else some (c.debounce.getD debounceTime) }

/-- DETECT_LINE_CHANGE (R145). -/
def execDetectLineChange (cardIn writeProtect : Bool) (s : State) : Answer :=
  runLine (fun p => { p with detectIn := cardIn, wprot := writeProtect }) (detectLine cardIn writeProtect) s

/-- An insertion (R146): in ABSENT initialization starts with Identify. -/
def insertion (s : State) : State :=
  if s.card.state = .absent then
    (s.onCard fun c => { c with state := .initializing, initStage := some .identify, initLimit := some initTime }).send
      .cardIdentify
  else s

/-- A removal (R147, R161): the card is ABSENT, every job fails CARD_GONE, the queue is empty and RUNNING, and its mirror
is written. -/
def removal (s : State) : State :=
  if s.card.state = .absent then s
  else
    let jobs := s.card.jobs
    let s := dropTransfer (s.onCard fun c =>
      { c with state := .absent, initStage := none, initLimit := none, capacity := none, wpSample := none
               jobs := [], halted := false })
    raise .cardChange (endJobs (.failed .cardGone) jobs (scheduleQueue s))

/-- The debounce timer has run out: the detect state takes the raw level (R145). -/
def debounced (s : State) : State :=
  let s := s.onCard fun c => { c with detectIn := s.pins.detectIn, debounce := none }
  if s.card.detectIn then insertion s else removal s

/-- DETECT_DEBOUNCE_EXPIRY (R145). -/
def execDetectDebounceExpiry (s : State) : Answer := runWhen (fun s => timerDue s.card.debounce) debounced s

/-! ## Initialization (R146) -/

/-- The card becomes UNUSABLE (R146). -/
def cardUnusable (s : State) : State :=
  raise .cardChange (s.onCard fun c => { c with state := .unusable, initStage := none, initLimit := none })

/-- The identity block is checked and not kept; Read capacity follows (R146). -/
def identify (block : List Byte) (check : Half) (s : State) : State :=
  if crc16 block = check then (s.onCard fun c => { c with initStage := some .capacity }).send .cardReadCapacity
  else cardUnusable s

/-- IDENTIFY_ANSWER (R146); ignored when none is owed. -/
def execIdentifyAnswer (block : List Byte) (check : Half) (s : State) : Answer :=
  if !(Instr.identifyAnswer block check).wellFormed then .refused .notATransaction
  else runWhen (fun s => s.card.state == .initializing && s.card.initStage == some .identify) (identify block check) s

/-- The capacity answer makes the card READY or UNUSABLE (R146). The bytes are little-endian (log 20). -/
def takeCapacity (bytes : List Byte) (check : Half) (s : State) : State :=
  if crc16 bytes = check ∧ leValue bytes ≠ 0 then
    let s := sampleWriteProtect (s.onCard fun c => { c with capacity := some (BitVec.ofNat 32 (leValue bytes)) })
    let s := s.onCard fun c => { c with initLimit := none, initStage := none, state := .ready }
    activate (raise .cardChange s)
  else cardUnusable s

/-- CAPACITY_ANSWER (R146); ignored when none is owed. -/
def execCapacityAnswer (bytes : List Byte) (check : Half) (s : State) : Answer :=
  if !(Instr.capacityAnswer bytes check).wellFormed then .refused .notATransaction
  else
    runWhen (fun s => s.card.state == .initializing && s.card.initStage == some .capacity) (takeCapacity bytes check) s

/-- CARD_INIT_TIMEOUT (R146). -/
def execCardInitTimeout (s : State) : Answer :=
  runWhen (fun s => s.card.state == .initializing && timerDue s.card.initLimit) cardUnusable s

/-! ## Write sectors (R149, R156) -/

/-- The transfer of the active job is a write in some condition. -/
def State.writing (s : State) (cond : Transfer → Bool) : Bool :=
  s.card.activeJob.isSome && s.card.transfer.any fun t => t.write && cond t

/-- What the card client's reads have brought back is taken. -/
def takeFetched (s : State) : State × List Byte :=
  let s := drain .card s
  (s.onPath fun p => { p with card := { p.card with got := [] } }, sectorBytes s.path.card.got)

/-- The fetch of a sector completes: it is sent, or it waits until the card has ended its busy (R149, R156). -/
def sectorFetched (s : State) : State :=
  let r := takeFetched s
  if s.writing fun t => t.cond == .fetching then sendSector r.2 r.1
  else r.1.onCard fun c => c.onTransfer fun t => { t with prefetch := .ready r.2 }

/-- SECTOR_FETCHED (R156). -/
def execSectorFetched (s : State) : Answer :=
  runWhen (fun s => s.writing fun t => t.cond == .fetching || (t.cond == .busy && t.prefetch == .fetching))
    sectorFetched s

/-- The card's token (R149). -/
def takeToken (token : Token) (s : State) : State :=
  match token with
  | .accepted => prefetchSector (s.onCard fun c => c.onTransfer fun t => { t with cond := .busy })
  | .crcReject => failSector .crcReject s
  | .writeFault => failSector .writeFault s

/-- CARD_TOKEN (R149). -/
def execCardToken (token : Token) (s : State) : Answer :=
  runWhen (fun s => s.writing fun t => t.cond == .awaitingToken) (takeToken token) s

/-- One more sector of the active job is done. -/
def sectorDone (s : State) : State := s.onCard fun c => c.onHead fun j => { j with sectorsDone := j.sectorsDone + 1 }

/-- After a sector is done and no pending end takes the job, the next sector follows or the job succeeds (R149, R158). -/
def nextSector (s : State) : State :=
  match s.card.activeJob, s.card.transfer with
  | some j, some t =>
    if j.sectors ≤ t.next then succeed s
    else
      match t.prefetch with
      | .ready bytes => sendSector bytes s
      | .fetching => s.onCard fun c => c.onTransfer fun t => { t with cond := .fetching, prefetch := .none, limit := none }
      | .none => startSector j s
  | _, _ => s

/-- The card ends its busy (R149): the sector is done. -/
def busyEnd (s : State) : State :=
  let s := (sectorDone s).onCard fun c => c.onTransfer fun t => { t with next := t.next + 1 }
  match s.card.pendingEnd with
  | some p => takePending p s
  | none => nextSector s

/-- CARD_BUSY_END (R149). -/
def execCardBusyEnd (s : State) : Answer := runWhen (fun s => s.writing fun t => t.cond == .busy) busyEnd s

/-! ## Read sectors (R150) -/

/-- The transfer of the active job is a read. -/
def State.reading (s : State) : Bool := s.card.activeJob.isSome && s.card.transfer.any fun t => !t.write

/-- A read sector has been received and its writes are not all in DRAM. -/
def State.storing (s : State) : Bool :=
  s.reading && match s.card.activeJob, s.card.transfer with
    | some j, some t => decide (j.sectorsDone < t.next)
    | _, _ => false

/-- The staging writes of a read sector reach DRAM: it is done, and the job goes on, ends or succeeds (R150, R158). With
a pending end the job ends here: the sector in progress at RESTART is the one being stored, not the one that the card
may be sending already, and no further one is taken (DESIGN CHOICE, log 47). -/
def readStored (s : State) : State :=
  let s := sectorDone (drain .card s)
  match s.card.pendingEnd with
  | some p => takePending p s
  | none =>
    match s.card.activeJob with
    | some j => if j.sectors ≤ j.sectorsDone then succeed s else s
    | none => s

/-- READ_SECTOR_STORED (R150). -/
def execReadSectorStored (s : State) : Answer := runWhen State.storing readStored s

/-- The transfer awaits a sector of the job: one that follows the last is none of it, and is ignored (R150). -/
def State.expectsSector (s : State) : Bool :=
  match s.card.activeJob, s.card.transfer with
  | some j, some t => !t.write && decide (t.next < j.sectors)
  | _, _ => false

/-- A sector and its check value arrive (R150): a match is written to the job's memory address, the next sector's limit
running from now; a mismatch fails the job. -/
def receiveSector (bytes : List Byte) (check : Half) (s : State) : State :=
  match s.card.activeJob, s.card.transfer with
  | some j, some t =>
    if crc16 bytes = check then
      let s := issue .card (writeBursts (cellsAt (j.address + 512 * t.next) bytes)) s
      s.onCard fun c => c.onTransfer fun t =>
        { t with buffer := bytes, next := t.next + 1
                 limit := if t.next + 1 < j.sectors then some sectorTime else none }
    else failSector .readError s
  | _, _ => s

/-- An event of a read sector that follows one still being stored takes the storing first (log 25); a job that the
storing ends takes no further sector. -/
def afterStoring (f : State → State) (s : State) : State :=
  if s.storing then (if s.card.pendingEnd.isSome then readStored s else f (readStored s)) else f s

/-- READ_SECTOR_RECEIVED (R150). -/
def execReadSectorReceived (bytes : List Byte) (check : Half) (s : State) : Answer :=
  if !(Instr.readSectorReceived bytes check).wellFormed then .refused .notATransaction
  else runWhen State.expectsSector (afterStoring (receiveSector bytes check)) s

/-! ## Sector limit (R149, R150, R159) -/

/-- A sector limit expires (R159). -/
def sectorLimit (s : State) : State :=
  if s.reading then (if s.expectsSector then afterStoring (failSector .readError) s else s) else failSector .busyTimeout s

/-- SECTOR_LIMIT_EXPIRY (R149, R150, R159). -/
def execSectorLimitExpiry (s : State) : Answer :=
  runWhen (fun s => s.card.activeJob.isSome && s.card.transfer.any fun t => timerDue t.limit) sectorLimit s

end Sys2Proof.Machine
end

