-- ==== Sys2Proof/Machine/DarkReference.lean ====
section
/-! DEFINITION. The TAKE_DARK request (06 section 6.6). -/

namespace Sys2Proof.Machine

/-- The decision of TAKE_DARK (R112, R113). -/
def decideTakeDark (duration : Word) (s : State) : State × Option ResultCode :=
  if s.seq.state = .unset then refuse .notReady s
  else if s.seq.state = .fault then refuse .fault s
  else if s.dark.job.isSome || s.seq.state != .idle then refuse .busy s
  else
    match allocate .dark .takenDark none s with
    | (s, none) => (s, some .storeFull)
    | (s, some (k, id)) =>
      let time := clampTo 1000 3600000000 duration.toNat
      let s := s.onDark fun _ => ⟨some ⟨none, time, id, 0⟩⟩
      (runDark .takenDark false ⟨id, k, time⟩ s, some (okCode (time != duration.toNat)))

/-- TAKE_DARK (R112, R113). -/
def execTakeDark (duration : Word) (s : State) : Answer := request (.takeDark duration) (decideTakeDark duration) s

end Sys2Proof.Machine
end

