-- ==== Sys2Proof/Machine/MemoryPath.lean ====
section
/-! DEFINITION. The commands of the processor port and the memory port (09 sections 9.1 to 9.4): writes, posts, cause
clears, and the arbiter's grants. -/

namespace Sys2Proof.Machine

/-! ## Address decode (R169, R170) -/

/-- The enabled bytes of a write from address `a`. -/
def enabledCells : Nat → List (Option Byte) → List Host.Cell
  | _, [] => []
  | a, some b :: rest => (a, b) :: enabledCells (a + 1) rest
  | a, none :: rest => enabledCells (a + 1) rest

/-- A byte written at address `a` passes to DRAM: not in the status page, the mirrors, an aperture or a protected slot
(R169). -/
def State.passes (s : State) (a : Nat) : Bool :=
  decide (a < apertureBase) && !(decide (statusBase ≤ a) && decide (a < queueEnd))
    && (s.slotAt a).all fun k => !s.protectedSlot k

/-- The byte some cells hold for an address. -/
def byteAt (cells : List Host.Cell) (a : Nat) : Option Byte := (cells.find? fun c => c.1 == a).map (·.2)

/-- A processor write as decoded on its arrival (R3, R169, R170). -/
def decodeWrite (addr : Nat) (bytes : List (Option Byte)) (s : State) : DecodedWrite :=
  let cells := enabledCells addr bytes
  let at_ := byteAt cells
  { cells := cells.filter fun c => s.passes c.1
    dropped := cells.any fun c => !s.passes c.1
    post := if (at_ 0).isSome || (at_ 1).isSome then some (at_ 0, at_ 1) else none
    clear := if (at_ 4).isSome || (at_ 5).isSome || (at_ 6).isSome || (at_ 7).isSome
      then some ⟨at_ 4, at_ 5, at_ 6, at_ 7⟩ else none }

/-- A transaction waits at the port: a read is in service or earlier transactions wait (R171). -/
def State.portBusy (s : State) : Bool := s.develop.service.isSome || !s.path.port.isEmpty

/-- A transaction joins those that wait. -/
def enqueue (t : PortTxn) (s : State) : State := s.onPath fun p => { p with port := p.port ++ [t] }

/-- A processor transaction of a step: refused when it is none, a fault past the end of the address space (log 14). -/
def transaction (i : Instr) (addr : Word) (len : Nat) (f : State → State) (s : State) : Answer :=
  if !i.wellFormed then .refused .notATransaction
  else if addressSpace < addr.toNat + len then .fault .outsideAddressSpace
  else run f s

/-- PROCESSOR_WRITE (R169 to R172). -/
def execProcessorWrite (addr : Word) (bytes : List (Option Byte)) (s : State) : Answer :=
  transaction (.processorWrite addr bytes) addr bytes.length (fun s =>
    let w := decodeWrite addr.toNat bytes s
    if s.portBusy then enqueue (.write w) s else takeWrite w s) s

/-! ## Posts and cause clears (R172, R175, R176, R184) -/

/-- The proposed post count: the enabled bytes merged with the part's copy (R175). -/
def mergePost (copy : Half) (lo hi : Option Byte) : Half :=
  hi.getD (copy.extractLsb' 8 8) ++ lo.getD (copy.extractLsb' 0 8)

/-- The proposed count lies in the range the rule allows: 0..16 ahead of C, or 1..16 while a request is in hand
(R176). -/
def RequestUnit.admits (r : RequestUnit) (count : Half) : Bool :=
  decide ((count - r.consumed).toNat ≤ 16) && (r.hand.isNone || decide (1 ≤ (count - r.consumed).toNat))

/-- A post takes effect (R175, R176). -/
def postEffect (lo hi : Option Byte) (s : State) : State :=
  let count := mergePost s.req.post lo hi
  if s.req.admits count then s.onReq fun r => { r with post := count } else raise .postError s

/-- The causes that the enabled bytes of a clear name (R184, R204). -/
def clearMask (b4 b5 : Option Byte) : BitVec 14 := (b5.getD 0 ++ b4.getD 0).setWidth 14

/-- A cause clear takes effect; the status page is rewritten (R184). -/
def clearEffect (b4 b5 : Option Byte) (s : State) : State :=
  s.onReq fun r => { r with causes := r.causes &&& ~~~(clearMask b4 b5), statusDue := true }

/-- Grants until the first post's own write has reached DRAM (R172). -/
def landPost (s : State) : State := grantUntil (fun p => p.posts.head?.all fun e => e.left == 0) s.path.total s

/-- Grants until the first cause clear's own write has reached DRAM (R172). -/
def landClear (s : State) : State := grantUntil (fun p => p.clears.head?.all fun e => e.left == 0) s.path.total s

/-- A port write that no PROCESSOR_WRITE brought (log 6): behind a read in service it does not reach the part (R171,
R188); otherwise it takes effect once every earlier write is in DRAM (R172). -/
def takeBare (effect : State → State) (s : State) : State := if s.portBusy then s else effect (drain .processor s)

/-- The post that POST_WRITE takes (log 6): the first one decoded, once it and every earlier write are in DRAM; with none
decoded it stands alone. -/
def takePost (lo hi : Option Byte) (s : State) : State :=
  match s.path.posts with
  | [] => takeBare (postEffect lo hi) s
  | e :: _ =>
    if e.lo = lo ∧ e.hi = hi then
      postEffect lo hi ((landPost s).onPath fun p => { p with posts := p.posts.tail })
    else s

/-- POST_WRITE (R175, R176). -/
def execPostWrite (lo hi : Option Byte) (s : State) : Answer :=
  if !(Instr.postWrite lo hi).wellFormed then .refused .notATransaction else run (takePost lo hi) s

/-- The clear that CAUSE_CLEAR_WRITE takes (log 6). -/
def takeClear (b4 b5 b6 b7 : Option Byte) (s : State) : State :=
  match s.path.clears with
  | [] => takeBare (clearEffect b4 b5) s
  | e :: _ =>
    if e.b4 = b4 ∧ e.b5 = b5 ∧ e.b6 = b6 ∧ e.b7 = b7 then
      clearEffect b4 b5 ((landClear s).onPath fun p => { p with clears := p.clears.tail })
    else s

/-- CAUSE_CLEAR_WRITE (R184). -/
def execCauseClearWrite (b4 b5 b6 b7 : Option Byte) (s : State) : Answer :=
  if !(Instr.causeClearWrite b4 b5 b6 b7).wellFormed then .refused .notATransaction
  else run (takeClear b4 b5 b6 b7) s

/-- ARBITER_GRANT (R174). -/
def execArbiterGrant (s : State) : Answer := run grant s

end Sys2Proof.Machine
end

