-- ==== Sys2Proof/Machine/DevelopEngine.lean ====
section
/-! DEFINITION. The requests of the develop engine and the reads it serves (chapter 7). -/

namespace Sys2Proof.Machine

/-! ## Views (R118 to R122) -/

/-- Dark use codes (R205). -/
inductive DarkUse where
  | none | linked | specific
  deriving DecidableEq, Repr

/-- The dark use a code names. -/
def darkUseOf (v : Half) : Option DarkUse :=
  if v = 0 then some .none else if v = 1 then some .linked else if v = 2 then some .specific else Option.none

/-- A COMPLETE DARK record (R119 step 6). -/
def Frame.isStoredDark (f : Frame) : Bool := f.state == .complete && f.kind == .dark

/-- The dark a view on frame `k` uses (R120). -/
def State.viewDark (s : State) (use : DarkUse) (f : OpenViewFields) (k : Fin 16) : Option Word :=
  match use with
  | .none => none
  | .linked =>
    match (s.frame k).kind, (s.frame k).darkState with
    | .light, .linked d => some d
    | _, _ => none
  | .specific => some f.dark

/-- Step 1 of R119: the fields hold listed values. -/
def viewInRange (f : OpenViewFields) : Bool :=
  decide (f.view.toNat < 4) && (formOf f.form).isSome && (darkUseOf f.darkUse).isSome && (switchOf f.tone).isSome
    && decide (f.clip ≠ 0)

/-- The view an index names. -/
def viewIndex (v : Half) : Fin 4 := ⟨v.toNat % 4, Nat.mod_lt _ (by decide)⟩

/-- Steps 5 and 6 of R119. -/
def State.darkUseOk (s : State) (use : DarkUse) (f : OpenViewFields) (k : Fin 16) : Bool :=
  match use with
  | .none => true
  | .linked => (s.frame k).kind != .dark
  | .specific => (s.frame k).kind != .dark && (s.find f.dark).any fun j => (s.frame j).isStoredDark

/-- The view an accepted OPEN_VIEW makes (R121). -/
def State.openedView (s : State) (f : OpenViewFields) (use : DarkUse) (k : Fin 16) : View where
  state := .open
  frame := some f.frame
  dark := s.viewDark use f k
  form := (formOf f.form).getD .correctedRaw
  settings := some ⟨⟨f.g0, f.g1, f.g2, f.g3⟩, f.clip, (switchOf f.tone).getD false⟩
  late := 0
  rows := if (s.frame k).state = .complete then s.height else (s.frame k).rowsStored

/-- One view pin more on a record (R11). -/
def pinView (id : Option Word) (s : State) : State :=
  match id with
  | some i => report i (fun x => { x with viewPins := x.viewPins + 1 }) s
  | none => s

/-- The decision of OPEN_VIEW (R119 to R121). -/
def decideOpenView (f : OpenViewFields) (s : State) : State × Option ResultCode :=
  let v := viewIndex f.view
  let use := (darkUseOf f.darkUse).getD .none
  if !viewInRange f then refuse .badParam s
  else if (s.view v).state ≠ .closed then refuse .busy s
  else
    match s.find f.frame with
    | none => refuse .noFrame s
    | some k =>
      if (s.frame k).state ≠ .readout ∧ (s.frame k).state ≠ .complete then refuse .notReady s
      else if !s.darkUseOk use f k then refuse .badParam s
      else
        let x := s.openedView f use k
        accept (pinView x.dark (pinView x.frame (s.setView v x)))

/-- OPEN_VIEW (R118 to R121). -/
def execOpenView (f : OpenViewFields) (s : State) : Answer := request (.openView f) (decideOpenView f) s

/-- The decision of CLOSE_VIEW (R122). -/
def decideCloseView (view : Half) (s : State) : State × Option ResultCode :=
  if 4 ≤ view.toNat then refuse .badParam s else accept (closeOneView (viewIndex view) s)

/-- CLOSE_VIEW (R122). -/
def execCloseView (view : Half) (s : State) : Answer := request (.closeView view) (decideCloseView view) s

/-! ## Tone tables (R140, R141) -/

/-- The 65 entries of 130 bytes, low byte first. -/
def toneEntries : List Byte → List Nat
  | lo :: hi :: rest => leValue [lo, hi] :: toneEntries rest
  | _ => []

/-- The checks of LOAD_TONE (R140). -/
def toneInRange (table : Half) (addr : Word) : Bool :=
  (switchOf table).isSome && decide (addr.toNat % 2 = 0 ∧ stagingBase ≤ addr.toNat ∧ addr.toNat + 130 ≤ stagingEnd)

/-- The decision of LOAD_TONE (R140): the source is fetched as develop fetches; the answer follows the bank write. -/
def decideLoadTone (table : Half) (addr : Word) (s : State) : State × Option ResultCode :=
  if !toneInRange table addr then refuse .badParam s
  else
    let r := takeGot .develop 130 (drain .develop (issue .develop (readBursts (readAddrs addr.toNat 130)) s))
    let entries := toneEntries r.2
    (r.1.onDevelop fun d =>
      { d with toneLoad := some ⟨(switchOf table).getD false, entries.map (min 4095), entries.any (4095 < ·)⟩ }, none)

/-- LOAD_TONE (R140). -/
def execLoadTone (table : Half) (addr : Word) (s : State) : Answer :=
  request (.loadTone table addr) (decideLoadTone table addr) s

/-- The read in service uses the idle bank of a table: it was taken before the table's last switch and serves a
QUAD_RGB8 view with that tone select (R141). -/
def State.usesIdle (s : State) (table : Bool) : Bool :=
  s.develop.service.any fun sv =>
    (if table then sv.toneBank1 != s.develop.tone1.active else sv.toneBank0 != s.develop.tone0.active)
      && viewIndices.any fun v =>
        s.serves v && (s.view v).state == .open && (s.view v).form == .quadRgb8
          && (s.view v).settings.any fun g => g.tone == table

/-- The bank can be written (R141). -/
def State.toneReady (s : State) : Bool := s.develop.toneLoad.any fun l => !s.usesIdle l.table

/-- The entries go into the idle bank, the active bank switches, and the request has its answer (R141). -/
def writeTone (s : State) : State :=
  match s.develop.toneLoad with
  | none => s
  | some l =>
    (s.onDevelop fun d =>
      if l.table then { d with tone1 := d.tone1.load l.entries, toneLoad := none }
      else { d with tone0 := d.tone0.load l.entries, toneLoad := none }).onReq fun r =>
        { r with answer := some (okCode l.clamped) }

/-- TONE_BANK_WRITE (R141). -/
def execToneBankWrite (s : State) : Answer := runWhen State.toneReady writeTone s

/-! ## Reads (R123 to R127, R136, R138, R171) -/

/-- APERTURE_READ (R127, R136, R171): the read is taken, or waits behind the one in service. It may cover pass-through
bytes, and it may be a pass-through read as a whole (log 28). -/
def execApertureRead (addr : Word) (len : Nat) (s : State) : Answer :=
  transaction (.apertureRead addr len) addr len (fun s =>
    if s.portBusy then enqueue (.read addr.toNat len) s else takeRead addr.toNat len s) s

/-- APERTURE_READ_COMPLETE (R126). -/
def execApertureReadComplete (s : State) : Answer :=
  runWhen (fun s => s.develop.service.isSome && !s.readHeld) completeRead s

/-- The wait of the read in service has run out (R138). -/
def State.waitDue (s : State) : Bool :=
  s.develop.service.any fun sv => match sv.cond with
    | .held wait => timerDue wait
    | .computing => false

/-- The views with a pixel of the read that is not available (R138; log 26). -/
def State.lateViews (s : State) (sv : Service) : List (Fin 4) :=
  viewIndices.filter fun v =>
    (readAddrs sv.addr sv.len).any fun a =>
      decide (apertureBase ≤ a) && viewOf a == v && s.isPixel sv.live a && !s.pixelReady a

/-- A held read's wait expires (R138): available pixels are computed, the others are 0, and the late count rises. -/
def expireRead (s : State) : State :=
  match s.develop.service with
  | none => s
  | some sv =>
    let late := s.lateViews sv
    let s := completeRead (issue .develop (s.readFetches sv) s)
    late.foldl (fun s v => s.setView v { s.view v with late := satInc 65535 (s.view v).late }) s

/-- HELD_READ_EXPIRY (R138). -/
def execHeldReadExpiry (s : State) : Answer := runWhen State.waitDue expireRead s

end Sys2Proof.Machine
end

