-- ==== Sys2Proof/Machine/ExposureSequencer.lean ====
section
/-! DEFINITION. The requests and events of the exposure sequencer (chapter 4). -/

namespace Sys2Proof.Machine

/-! ## RELEASE (R62 to R64) -/

/-- A check begun by CHECK_RELEASE runs (R43, R56). -/
def State.checkRunning (s : State) : Bool := s.driver.phase == .check && s.driver.checkFor.isNone

/-- Steps 2 to 9 of the RELEASE checks (R63). -/
def State.releaseCheck (s : State) : Option ResultCode :=
  if s.seq.state = .unset then some .notReady
  else if s.seq.state = .fault then some .fault
  else if s.darkPending || s.seq.state == .darkRun then some .busyDark
  else if (s.seq.state != .idle && s.seq.state != .armed) || s.checkRunning then some .busy
  else if s.driver.faultShort then some .fault
  else if s.driver.cable = .absent then some .noCable
  else if s.driver.supplyLow then some .lowSupply
  else if s.sync.qualified then some .syncStuck
  else none

/-- The shot of an accepted RELEASE enters DELAY; a delay of 0 passes through it at once (R63, R64). -/
def beginRelease (id : Word) (k : Fin 16) (mode : ShotMode) (bulb delay : Nat) (s : State) : State :=
  let armed := s.seq.state == .armed
  let h := newShot id k .light .release (some mode) bulb (armed && s.seq.stayArmed) s.setup.exposure 0
  let s := makeShot { h with delayTimer := some delay } s
  let s := seqEnter .delay (if armed then stopLoop s else s)
  if delay = 0 then enterPreparing s else s

/-- The decision of RELEASE (R62, R63). -/
def decideRelease (mode : Half) (bulbMs delayMs : Word) (s : State) : State × Option ResultCode :=
  match shotModeOf mode with
  | none => refuse .badParam s
  | some m =>
    match s.releaseCheck with
    | some code => refuse code s
    | none =>
      match allocate .light .release (some m) s with
      | (s, none) => (s, some .storeFull)
      | (s, some (k, id)) =>
        let bulb := clampTo 10 3600000 bulbMs.toNat
        let delay := clampTo 0 10000 delayMs.toNat
        let clamped := (m == .timedBulb && bulb != bulbMs.toNat) || delay != delayMs.toNat
        (beginRelease id k m (ms bulb) (ms delay) s, some (okCode clamped))

/-- RELEASE (R62, R63). -/
def execRelease (mode : Half) (bulbMs delayMs : Word) (s : State) : Answer :=
  request (.release mode bulbMs delayMs) (decideRelease mode bulbMs delayMs) s

/-! ## ARM, DISARM, CANCEL (R75, R76, R80) -/

/-- The decision of ARM (R75). -/
def decideArm (stay : Bool) (s : State) : State × Option ResultCode :=
  if s.seq.state = .unset then refuse .notReady s
  else if s.seq.state = .fault then refuse .fault s
  else if s.darkPending || s.seq.state == .darkRun then refuse .busyDark s
  else if s.seq.state ≠ .idle then refuse .busy s
  else if s.sync.qualified then refuse .syncStuck s
  else accept (enterArmed (s.onSeq fun q => { q with stayArmed := stay }))

/-- ARM (R75). -/
def execArm (stay : Bool) (s : State) : Answer := request (.arm stay) (decideArm stay) s

/-- Stay-armed is cleared. -/
def clearStay (s : State) : State := s.onSeq fun q => { q with stayArmed := false }

/-- DISARM in ARMED (R76). -/
def disarmArmed (s : State) : State := seqEnter .idle (clearStay (stopLoop s))

/-- The decision of DISARM (R76). -/
def decideDisarm (s : State) : State × Option ResultCode :=
  match s.seq.state, s.seq.shot with
  | .armed, _ => accept (disarmArmed s)
  | .tripped, some h => accept (clearStay (leaveSpoiled h .cancelled .idle s))
  | .idle, _ => accept s
  | .unset, _ => refuse .notReady s
  | .fault, _ => refuse .fault s
  | _, _ => refuse .busy s

/-- DISARM (R76). -/
def execDisarm (s : State) : Answer := request .disarm decideDisarm s

/-- The shot in flight is cancelled; an auto dark's light frame becomes MISSING (R80, R111). -/
def cancelShot (h : Shot) (s : State) : State :=
  let s := clearStay (leaveSpoiled h .cancelled .idle s)
  if h.kind = .dark then darkFailure s else s

/-- The decision of CANCEL (R80). -/
def decideCancel (s : State) : State × Option ResultCode :=
  match s.seq.state, s.seq.shot with
  | .armed, _ => accept (disarmArmed s)
  | .idle, _ => accept s
  | .readout, _ => refuse .busy s
  | .unset, _ => refuse .notReady s
  | .fault, _ => refuse .fault s
  | _, some h => accept (cancelShot h s)
  | _, none => refuse .busy s

/-- CANCEL (R80). -/
def execCancel (s : State) : Answer := request .cancel decideCancel s

/-! ## Timers of the shot -/

/-- The sequencer is in a state and a timer of its shot has run out. -/
def State.shotDue (s : State) (st : SeqState) (timer : Shot → Timer) : Bool :=
  s.seq.state == st && s.seq.shot.any fun h => timerDue (timer h)

/-- An effect on the shot in flight. -/
def withShot (f : Shot → State → State) (s : State) : State :=
  match s.seq.shot with
  | some h => f h s
  | none => s

/-- TRIP_DELAY_END (R64). -/
def execTripDelayEnd (s : State) : Answer := runWhen (·.shotDue .delay Shot.delayTimer) enterPreparing s

/-- SYNC_TIMEOUT (R67): drive off, NO_SYNC, integration ends. -/
def execSyncTimeout (s : State) : Answer :=
  runWhen (·.shotDue .waitSync Shot.syncTimer)
    (withShot fun h s => endIntegration h (addFlag h.id .noSync (driveOff s))) s

/-- OPEN_WAIT_EXPIRY (R69): NO_SYNC_OPEN, integration ends. -/
def execOpenWaitExpiry (s : State) : Answer :=
  runWhen (·.shotDue .open Shot.openWait) (withShot fun h s => endIntegration h (addFlag h.id .noSyncOpen s)) s

/-- TAIL_END (R71). -/
def execTailEnd (s : State) : Answer := runWhen (·.shotDue .tail Shot.tailTimer) (withShot endIntegration) s

/-- The integration cap applies and has run out (R73). -/
def State.capDue (s : State) : Bool :=
  s.shotDue .waitSync Shot.capTimer || s.shotDue .open Shot.capTimer || s.shotDue .tail Shot.capTimer
    || s.shotDue .tripped Shot.capTimer

/-- INTEGRATION_CAP (R73): TRUNCATED, integration ends. -/
def execIntegrationCap (s : State) : Answer :=
  runWhen State.capDue (withShot fun h s => endIntegration h (addFlag h.id .truncated s)) s

/-- The false-start window expires (R78): counted, spoiled FALSE_START, ARMED again. -/
def falseStart (h : Shot) (s : State) : State :=
  (leaveSpoiled h .falseStart .armed (s.onSeq fun q => { q with falseStarts := satInc 65535 q.falseStarts })).onSync
    fun y => { y with rearmed := true }

/-- FALSE_START_WINDOW_EXPIRY (R78). -/
def execFalseStartWindowExpiry (s : State) : Answer := runWhen (·.shotDue .tripped Shot.windowTimer) (withShot falseStart) s

/-- DARK_DURATION_END (R81). -/
def execDarkDurationEnd (s : State) : Answer :=
  runWhen (·.shotDue .darkRun Shot.darkTimer) (withShot endIntegration) s

/-! ## Answers of the sensor (R60, R61, R82, R86) -/

/-- A flush-done ends its pass (R61): after a closing flush the shot's own passes begin, the flush loop goes on, and the
last pass of a preparation starts integration. -/
def flushDone (s : State) : State :=
  let closing := s.seq.closingFlush
  let s := s.onSeq fun q => { q with flushWait := none, closingFlush := false }
  match s.seq.state, s.seq.shot with
  | .armed, _ => issueFlush s
  | .preparing, some h =>
    if h.checking then s
    else if closing then beginPasses s
    else beginPasses (onShot (fun h => { h with passesLeft := h.passesLeft - 1 }) s)
  | _, _ => s

/-- FLUSH_DONE (R61); ignored when no FLUSH awaits it. -/
def execFlushDone (s : State) : Answer := runWhen (·.seq.flushWait.isSome) flushDone s

/-- START_ACK (R60). -/
def execStartAck (s : State) : Answer := run (fun s => s.onSeq fun q => { q with startWait := none }) s

/-- The frame in readout that a handoff sets (R86), with the geometry taken at that moment (R199). -/
def handoff (h : Shot) (s : State) : ReadoutFrame where
  id := h.id
  slot := h.slot
  kind := h.kind
  blackCeiling := h.params.blackCeiling
  dark := ⟨h.params.autoDark, h.params.darkThreshold, h.params.darkTolerance, h.params.driftLimit⟩
  base := s.store.layout.base h.slot.val
  rowWidth := s.store.layout.rowWidth
  rows := s.setup.sensor.h.getD 0
  ob := s.setup.sensor.ob
  cfa := s.setup.sensor.cfa
  pedestal := s.setup.sensor.pedestal
  rowTimeout := ms s.setup.sensor.rowTimeout

/-- The end-ack is taken: the wait ends and in READOUT the frame is handed to the readout unit (R86). -/
def endAck (s : State) : State :=
  let s := s.onSeq fun q => { q with endWait := none }
  match s.seq.state, s.seq.shot with
  | .readout, some h =>
    s.onReadout fun u =>
      { u with frame := some (handoff h s), expected := 0, stored := 0, badRows := 0, firstBad := none, inFlight := []
               sums := ⟨0, 0, 0, 0⟩, rowTimer := some (ms s.setup.sensor.rowTimeout), marker := false }
  | _, _ => s

/-- END_ACK (R86); ignored when no END_AND_TRANSFER awaits it (R60). -/
def execEndAck (s : State) : Answer := runWhen (·.seq.endWait.isSome) endAck s

/-- FLUSH_TIMEOUT (R82). -/
def execFlushTimeout (s : State) : Answer := runWhen (fun s => timerDue s.seq.flushWait) sensorFault s

/-- ACK_TIMEOUT (R82). -/
def execAckTimeout (s : State) : Answer :=
  runWhen (fun s => timerDue s.seq.startWait || timerDue s.seq.endWait) sensorFault s

end Sys2Proof.Machine
end

