-- ==== Sys2Proof/Machine/FrameRequests.lean ====
section
/-! DEFINITION. The requests on frame records (01 section 1.5). -/

namespace Sys2Proof.Machine

/-- A request on the record a frame id names; an id no record holds answers NO_FRAME (R4). -/
def onRecord (id : Word) (d : Fin 16 → State → State × Option ResultCode) (s : State) : State × Option ResultCode :=
  match s.find id with
  | some k => d k s
  | none => refuse .noFrame s

/-- The keep mark set or cleared (R19). -/
def decideKeep (keep : Bool) (k : Fin 16) (s : State) : State × Option ResultCode :=
  accept (s.setFrame k { s.frame k with keep := keep })

/-- KEEP (R19). -/
def execKeep (id : Word) (s : State) : Answer := request (.keep id) (onRecord id (decideKeep true)) s

/-- UNKEEP (R19). -/
def execUnkeep (id : Word) (s : State) : Answer := request (.unkeep id) (onRecord id (decideKeep false)) s

/-- The settled mark set on a COMPLETE record (R20). -/
def decideSettle (k : Fin 16) (s : State) : State × Option ResultCode :=
  if (s.frame k).state ≠ .complete then refuse .notReady s
  else accept (s.setFrame k { s.frame k with settled := true })

/-- SETTLE (R20). -/
def execSettle (id : Word) (s : State) : Answer := request (.settle id) (onRecord id decideSettle) s

/-- What stands against a DISCARD, in the order of R21. -/
def Frame.discardCheck (f : Frame) : Option ResultCode :=
  if f.inFlight || f.awaitDark then some .busy
  else if decide (0 < f.viewPins) || decide (0 < f.cardPins) || decide (0 < f.darkUsers) || f.darkState == .pending
  then some .inUse
  else if f.keep then some .kept
  else none

/-- DISCARD of a record (R21). -/
def decideDiscard (k : Fin 16) (s : State) : State × Option ResultCode :=
  match (s.frame k).discardCheck with
  | some code => refuse code s
  | none => accept (freeRecord k s)

/-- DISCARD (R21). -/
def execDiscard (id : Word) (s : State) : Answer := request (.discard id) (onRecord id decideDiscard) s

end Sys2Proof.Machine
end

