-- ==== Sys2Proof/Machine/ReleaseDriver.lean ====
section
/-! DEFINITION. The requests and events of the release driver (chapter 3). -/

namespace Sys2Proof.Machine

/-! ## Requests (R43, R55) -/

/-- The decision of CHECK_RELEASE (R43). -/
def decideCheckRelease (s : State) : State × Option ResultCode :=
  if s.driver.phase = .off then accept (startCheck none s) else refuse .busy s

/-- CHECK_RELEASE (R43). -/
def execCheckRelease (s : State) : Answer := request .checkRelease decideCheckRelease s

/-- Latched faults removed, an ABSENT cable becomes UNKNOWN (R55). -/
def clearFaults (s : State) : State :=
  s.onDriver fun d =>
    { d with faultShort := false, faultOpen := false, cable := if d.cable = .absent then .unknown else d.cable }

/-- CLEAR_FAULTS (R55). -/
def execClearFaults (s : State) : Answer := request .clearFaults (fun s => accept (clearFaults s)) s

/-! ## Check (R42, R44) -/

/-- The check ends with a test current (R42): the cable state is set, a pending pre-shot check begins, and the result of
a pre-shot check goes to the sequencer, with RELEASE_FAULT when ABSENT (R44). That CHECK entered again at once for a
pending check is no change of phase for the status page (R40, R186) is the model's choice (DESIGN CHOICE, log 50). -/
def checkEnd (microamps : Nat) (s : State) : State :=
  let present := decide (checkThreshold ≤ microamps)
  let shot := s.driver.checkFor
  let s := s.onDriver fun d =>
    { d with phase := .off, checkTimer := none, checkFor := none, cable := if present then .present else .absent }
  let s := match s.driver.pendingCheck with
    | some p => (startCheck (some p) s).onDriver fun d => { d with pendingCheck := none }
    | none => s
  match shot with
  | none => s
  | some id =>
    handOn (.driver (some id) (.checkResult present)) (if present then s else raise .releaseFault s)

/-- CHECK_END (R42). -/
def execCheckEnd (microamps : Nat) (s : State) : Answer :=
  runWhen (fun s => s.driver.phase == .check && timerDue s.driver.checkTimer) (checkEnd microamps) s

/-! ## Drive (R45 to R47) -/

/-- HOLD is entered (R45, R46): a phase change, the hold limit of a SYNC_WINDOW drive runs, the first chop period begins
with its on-part, which at duty 16 does not end. -/
def enterHold (s : State) : State :=
  phaseChange (s.onDriver fun d =>
    { d with phase := .hold, pullTimer := none
             holdTimer := (d.params.filter fun p => p.mode == .syncWindow).map (·.holdLimit)
             chopOn := true
             chopTimer := if offPart d.duty = 0 then none else some (onPart d.duty) })

/-- PULL_IN_END (R45). -/
def execPullInEnd (s : State) : Answer :=
  runWhen (fun s => s.driver.phase == .pullIn && timerDue s.driver.pullTimer) enterHold s

/-- A part of a chop period ends (R46). -/
def chop (s : State) : State :=
  s.onDriver fun d =>
    { d with chopOn := !d.chopOn, chopTimer := some (if d.chopOn then offPart d.duty else onPart d.duty) }

/-- HOLD_CHOP (R46). -/
def execHoldChop (s : State) : Answer :=
  runWhen (fun s => s.driver.phase == .hold && timerDue s.driver.chopTimer) chop s

/-- A report about the drive goes to the sequencer, for the shot then in flight (R41). -/
def reportDrive (report : DriverReport) (s : State) : State :=
  handOn (.driver (s.seq.shot.map (·.id)) report) s

/-- The drive ends by a cause of the driver's own and is reported (R41, R47). -/
def endDrive (cause : DriveEnd) (s : State) : State :=
  reportDrive (.driveEnded cause s.clock) (driveOff s)

/-- BULB_END (R47). -/
def execBulbEnd (s : State) : Answer :=
  runWhen (fun s => s.driver.phase.driving && timerDue s.driver.bulbTimer) (endDrive .bulbEnd) s

/-- HOLD_LIMIT (R47). -/
def execHoldLimit (s : State) : Answer :=
  runWhen (fun s => s.driver.phase == .hold && timerDue s.driver.holdTimer) (endDrive .holdLimit) s

/-! ## Open load, short, supply (R49, R50, R52, R54) -/

/-- The open-load timer has reached the open deglitch time of the drive (R49, R50). -/
def State.openDue (s : State) : Bool :=
  s.driver.phase.driving && s.driver.openEval && s.driver.params.any fun p => decide (p.deglitch ≤ s.driver.openTimer)

/-- An open load is latched (R50). -/
def latchOpen (s : State) : State :=
  let response := s.driver.params.map (·.response)
  let s := raise .releaseFault (s.onDriver fun d => { d with faultOpen := true, cable := .absent })
  if response = some .continue then
    reportDrive .openContinuing (s.onDriver fun d => { d with openEval := false })
  else endDrive .openAbort s

/-- OPEN_LOAD_LATCH (R50). -/
def execOpenLoadLatch (s : State) : Answer := runWhen State.openDue latchOpen s

/-- A short is latched (R52). -/
def latchShort (s : State) : State :=
  let s := (driveOff s).onDriver fun d => { d with faultShort := true }
  reportDrive (.driveEnded .short s.clock) (raise .releaseFault s)

/-- SHORT_DETECTED (R52). -/
def execShortDetected (s : State) : Answer :=
  runWhen (fun s => s.driver.phase.driving && decide (shortTime ≤ s.driver.shortTimer)) latchShort s

/-- The low-supply indication takes the comparator's level; becoming low it ends a drive (R54). -/
def indicateSupply (s : State) : State :=
  let fell := s.pins.supplyLow && !s.driver.supplyLow
  let s := s.onDriver fun d => { d with supplyLow := s.pins.supplyLow, supplyFilter := none }
  if fell && s.driver.phase.driving then endDrive .lowSupply s else s

/-- LOW_SUPPLY_INDICATION (R54). -/
def execLowSupplyIndication (s : State) : Answer :=
  runWhen (fun s => timerDue s.driver.supplyFilter) indicateSupply s

/-- RAMP_BLANK_END (R49). -/
def execRampBlankEnd (s : State) : Answer :=
  runWhen (fun s => timerDue s.driver.rampTimer) (fun s => s.onDriver fun d => { d with rampTimer := none }) s

/-- The sensed current changes (R49, R52): while drive current flows, a current at or above 50 mA sets the cable PRESENT
and, evaluated, clears the open-load timer; one at or below 3 A clears the short timer. It sets the cable PRESENT in the
rest of a PULL_IN that has latched OPEN too (DESIGN CHOICE, log 54). -/
def senseCurrent (microamps : Nat) (s : State) : State :=
  let s := s.onPins fun p => { p with sense := microamps }
  if s.driveFlows then
    s.onDriver fun d =>
      { d with cable := if openThreshold ≤ microamps then .present else d.cable
               openTimer := if openThreshold ≤ microamps && d.openEval && d.rampTimer.isNone then 0 else d.openTimer
               shortTimer := if microamps ≤ shortThreshold then 0 else d.shortTimer }
  else s

/-- CURRENT_SENSE_CHANGE (R49, R52). -/
def execCurrentSenseChange (microamps : Nat) (s : State) : Answer :=
  runLine (fun p => { p with sense := microamps }) (senseCurrent microamps) s

/-- The comparator changes level (R54): the filter runs while its level differs from the indication. -/
def compareSupply (low : Bool) (s : State) : State :=
  if low = s.pins.supplyLow then s
  else
    (s.onPins fun p => { p with supplyLow := low }).onDriver fun d =>
      { d with supplyFilter := if low = d.supplyLow then none else some supplyTime }

/-- SUPPLY_COMPARATOR_CHANGE (R54). A level that it takes during power-on reset is filtered from the reset's end on. -/
def execSupplyComparatorChange (low : Bool) (s : State) : Answer :=
  runLine (fun p => { p with supplyLow := low }) (compareSupply low) s

end Sys2Proof.Machine
end

