-- ==== Sys2Proof/Machine/RequestUnit.lean ====
section
/-! DEFINITION. The request unit (09 sections 9.4 to 9.7): fetch and completion of requests, the writes of the status
page and of the mirrors, SET_MASK and unknown requests. -/

namespace Sys2Proof.Machine

/-- A request can be fetched: P differs from C and none is in hand (R177). -/
def State.canFetch (s : State) : Bool :=
  s.req.post != s.req.consumed && s.req.hand.isNone && s.develop.toneLoad.isNone

/-- The request of count C is fetched and decoded (R177). -/
def fetchRequest (s : State) : State :=
  let r := recordRead (ringSlot s.req.consumed) 64 s
  r.1.onReq fun q =>
    { q with hand := some ⟨decodeRequest r.2, requestTag r.2⟩, answer := none, waits := [], waitsQueue := false }

/-- REQUEST_FETCH (R177). -/
def execRequestFetch (s : State) : Answer := runWhen State.canFetch fetchRequest s

/-- The mirror writes the result waits for are made, those still scheduled (R23, R153). -/
def writeAwaited (s : State) : State :=
  let s := (s.req.waits.filter fun k => s.store.mirrorDue.contains k).foldl (fun s k => writeMirror k s) s
  if s.req.waitsQueue && s.card.mirrorDue then writeQueueMirror s else s

/-- The request in hand is completed with its owner's answer (R178). -/
def completeRequest (s : State) : State :=
  match s.req.hand, s.req.answer with
  | some h, some code =>
    let s := writeAwaited s
    let word := resultWord code s.summary h.tag (s.req.consumed + 1)
    let s := recordWrite (ringSlot s.req.consumed + 0x38) word s
    raise .requestDone (s.onReq fun r =>
      { r with consumed := r.consumed + 1, hand := none, answer := none, waits := [], waitsQueue := false })
  | _, _ => s

/-- REQUEST_COMPLETE (R178). -/
def execRequestComplete (s : State) : Answer :=
  runWhen (fun s => s.req.hand.isSome && s.req.answer.isSome) completeRequest s

/-- STATUS_PAGE_WRITE (R186). -/
def execStatusPageWrite (s : State) : Answer := runWhen (·.req.statusDue) writeStatusPage s

/-- MIRROR_WRITE (R22). -/
def execMirrorWrite (k : Fin 16) (s : State) : Answer := runWhen (·.store.mirrorDue.contains k) (writeMirror k) s

/-- CARD_QUEUE_MIRROR_WRITE (R165). -/
def execCardQueueMirrorWrite (s : State) : Answer := runWhen (·.card.mirrorDue) writeQueueMirror s

/-- SET_MASK (R183). -/
def execSetMask (mask : Half) (s : State) : Answer :=
  request (.setMask mask) (fun s => accept (s.onReq fun r => { r with mask := mask.setWidth 14 })) s

/-- UNKNOWN_REQUEST (R179). -/
def execUnknownRequest (kind : Half) (s : State) : Answer :=
  if !(Instr.unknownRequest kind).wellFormed then .refused .notATransaction
  else request (.unknownRequest kind) (refuse .unknown) s

end Sys2Proof.Machine
end

