-- ==== Sys2Proof/Machine/Resets.lean ====
section
/-! DEFINITION. RESTART (R187, with R25, R39, R57, R84, R101, R115, R143, R167, R168) and power-on reset (R209). -/

namespace Sys2Proof.Machine

/-! ## RESTART -/

/-- The release driver's part (R57): a drive goes off with a phase change, a check ends without a result, a pending check
is dropped, timers are cleared; faults and cable state stay. -/
def restartDriver (s : State) : State :=
  (driveOff s).onDriver fun d =>
    { d with phase := .off, checkTimer := none, checkFor := none, pendingCheck := none, openTimer := 0, shortTimer := 0
             params := none, openEval := false }

/-- The sequencer's part (R84), with the target and listening of the sync input cleared and a trip edge that awaits its
answer answered with no shot (R39). -/
def restartSequencer (s : State) : State :=
  let s := (clearTarget (dropTrips s)).onSync fun y => { y with listening := false, rearmed := false }
  s.onSeq fun q =>
    { q with state := if s.setup.accepted then .idle else .unset
             stayArmed := false, shot := none, closingFlush := false, refusedTrip := none
             flushWait := none, startWait := none, endWait := none }

/-- The develop engine's part (R143): an aperture read in service completes with zeros, OPEN and BROKEN views close. A
pass-through read is none of the engine's and completes as without the RESTART (R187). -/
def restartViews (s : State) : State :=
  viewIndices.foldl (fun s v => closeOneView v s)
    (if s.develop.service.any Service.reachesAperture then zeroRead s else s)

/-- The card engine's part (R167, R168): the active job ends CANCELLED once its sector in progress is finished, a pending
end already recorded standing; queued jobs are cancelled; the queue is RUNNING; the mirror is written. -/
def restartCard (s : State) : State :=
  let s :=
    if s.card.activeJob.isSome then
      if s.card.transfer.any Transfer.inProgress then
        s.onCard fun c =>
          { c with pendingEnd := some ⟨(c.pendingEnd.map (·.reason)).getD .cancelled, true⟩ }
      else failActive .cancelled true s
    else s
  awaitQueue (cancelQueued s)

/-- The readout unit's part (R101): rows taken are finished and reported, the frame left. -/
def restartReadout (s : State) : State :=
  if s.readout.frame.isSome then leaveReadout (finishRows s) else s

/-- RESTART's effects (R187). The cause set is cleared, which schedules the status page's write though a cause be raised
again (R186). The record in flight is spoiled (R25); its handoff reaches the develop engine and the card
engine before or after their own effects, as the operands say (R143, R168; log 9). After them it finds nothing left to
act on. -/
def restart (spoilBeforeViews spoilBeforeCard : Bool) (s : State) : State :=
  let s := settle s (s.onReq fun r => { r with causes := 0 })
  let s := restartSequencer (restartDriver s)
  let spoiled := slots.find? fun k => (s.frame k).inFlight
  let id := spoiled.map fun k => (s.frame k).id
  let s := match spoiled with
    | some k => spoilRecord k .restart s
    | none => s
  let s := match id with
    | some i => if spoilBeforeViews then breakViews i s else s
    | none => s
  let s := restartViews s
  let s := match id with
    | some i => if spoilBeforeCard then cardSpoiled i s else s
    | none => s
  darkFailure (restartReadout (restartCard s))

/-- RESTART (R187). -/
def execRestart (spoilBeforeViews spoilBeforeCard : Bool) (s : State) : Answer :=
  request (.restart spoilBeforeViews spoilBeforeCard) (fun s => accept (restart spoilBeforeViews spoilBeforeCard s)) s

/-! ## Power-on reset (R209) -/

/-- Every block in its power-on state; DRAM and the outside levels stay (R24, R189, R209). -/
def poweredOn (s : State) : State :=
  { State.reset with inReset := true, pins := s.pins, lags := s.lags, dram := s.dram, pending := s.pending }

/-- POWER_ON_RESET (R209): in force until RESET_END. -/
def execPowerOnReset (s : State) : Answer := .next (poweredOn s)

/-- The reset ends (R209): the clock starts from 0, the first samples of the contact and of the detect line are taken
(R39, R145), and the mirrors and the status page are written (R24, R166, R189). That all of these writes are made within
this one step, so that no read after the reset finds an old page, is the model's choice (DESIGN CHOICE, log 48). -/
def endReset (contactClosed cardIn : Bool) (s : State) : State :=
  let s := { s with inReset := false, clock := 0, sent := [] }
  let s := s.onPins fun p => { p with syncClosed := contactClosed, detectIn := cardIn }
  let s := s.onSync fun y =>
    { y with run := if contactClosed then some ⟨true, 0, 0, s.setup.exposure.closeQualify⟩ else y.run }
  let s := s.onCard fun c => { c with debounce := if cardIn then some debounceTime else c.debounce }
  let s := s.onDriver fun d => { d with supplyFilter := if s.pins.supplyLow then some supplyTime else d.supplyFilter }
  let s := slots.foldl (fun s k => writeMirror k s) s
  writeStatusPage (writeQueueMirror s)

/-- RESET_END (R209); without effect while no power-on reset is applied. -/
def execResetEnd (contactClosed cardIn : Bool) (s : State) : Answer :=
  .next (if s.inReset then endReset contactClosed cardIn s else s.quiet)

end Sys2Proof.Machine
end

