-- ==== Sys2Proof/Machine/SensorReadout.lean ====
section
/-! DEFINITION. The events of the readout unit (chapter 5). -/

namespace Sys2Proof.Machine

/-- A row packet that the unit takes for the frame in readout (R89 to R91). -/
def rowFits (f : ReadoutFrame) (expected row : Nat) (samples : List Sample) : Bool :=
  decide (expected < f.rows) && row == expected && samples.length == f.rowWidth

/-- A row is taken (R89, R90): its writes are issued, its optical black samples summed, its check value compared, the row
timer restarted and the expected row advanced. -/
def takeRow (f : ReadoutFrame) (row : Nat) (samples : List Sample) (check : Half) (s : State) : State :=
  let bytes := rowBytes samples
  let bad := crc16 bytes != check
  let s := issueReadout (writeBursts (cellsAt (f.base + row * f.rowWidth * 2) bytes)) s
  s.onReadout fun u =>
    let badRows := if bad then satInc 65535 u.badRows else u.badRows
    let firstBad := if bad then some (u.firstBad.getD row) else u.firstBad
    { u with expected := u.expected + 1, badRows := badRows, firstBad := firstBad
             inFlight := u.inFlight ++ [⟨badRows, firstBad⟩]
             sums := addBlack f.cfa row 0 (samples.take f.ob) u.sums
             rowTimer := some f.rowTimeout }

/-- A row packet arrives (R87, R89, R91). After the frame-end marker every row has been received, so a row is one too
many. -/
def rowPacket (row : Half) (samples : List Sample) (check : Half) (s : State) : State :=
  match s.readout.frame with
  | none => s
  | some f =>
    if rowFits f s.readout.expected row.toNat samples then takeRow f row.toNat samples check s
    else spoilReadout .linkLost s

/-- ROW_PACKET (R87 to R91). -/
def execRowPacket (row : Half) (samples : List Sample) (check : Half) (s : State) : Answer :=
  run (rowPacket row samples check) s

/-- ROW_STORED (R89 step 6): the last write of the oldest row in flight reaches DRAM. -/
def execRowStored (s : State) : Answer :=
  runWhen (fun s => s.readout.frame.isSome && !s.readout.inFlight.isEmpty) (fun s => storeRow (drainReadout s)) s

/-- A frame-end marker arrives (R87, R91, R100): with rows missing the frame is spoiled, otherwise its completion is
awaited and the row timer stops (log 24). -/
def frameEndMarker (s : State) : State :=
  match s.readout.frame with
  | none => s
  | some f =>
    if s.readout.expected < f.rows then spoilReadout .linkLost s
    else s.onReadout fun u => { u with marker := true, rowTimer := none }

/-- FRAME_END_MARKER (R87, R91, R100). -/
def execFrameEndMarker (s : State) : Answer := run frameEndMarker s

/-- The frame in readout completes (R100): its black levels and flags are found, a light frame's mean joins the history,
and the completion report is handed to the frame store. The unit is IDLE while it is on its way (log 49); the history
entry stands though the report be dropped. -/
def completeFrame (f : ReadoutFrame) (s : State) : State :=
  let s := finishRows s
  let blacks := measure f s.readout.sums
  let flags := completionFlags f s.readout.badRows blacks.mean s.readout.history
  let s := if f.kind = .light then
      s.onReadout fun u => { u with history := pushHistory u.history blacks.mean }
    else s
  handOn (.completion f blacks flags) (leaveReadout s)

/-- FRAME_COMPLETE (R100). -/
def execFrameComplete (s : State) : Answer :=
  runWhen (·.readout.marker) (fun s => match s.readout.frame with
    | some f => completeFrame f s
    | none => s) s

/-- READOUT_TIMEOUT (R92). -/
def execReadoutTimeout (s : State) : Answer :=
  runWhen (fun s => timerDue s.readout.rowTimer) (spoilReadout .readoutTimeout) s

end Sys2Proof.Machine
end

