-- ==== Sys2Proof/Machine/SetupRecords.lean ====
section
/-! DEFINITION. The setup requests (chapter 10). -/

namespace Sys2Proof.Machine

/-- Every one of the sixteen frame records is FREE. -/
def State.allFree (s : State) : Bool := slots.all fun k => (s.frame k).state == .free

/-! ## SETUP_SENSOR (R191 to R193) -/

/-- Step 1 of R192: every present refusing field is in its range. -/
def sensorInRange (f : SensorFields) : Bool :=
  geometryOk 2048 12288 f.wa && geometryOk 1536 9216 f.h && geometryOk 0 128 f.ob && namesValue cfaOf f.cfa

/-- The sensor setup a request leaves in force. -/
def sensorApply (f : SensorFields) (w : SensorSetup) : SensorSetup where
  wa := if f.wa.isSome then fieldNat f.wa else w.wa
  h := if f.h.isSome then fieldNat f.h else w.h
  ob := (fieldNat f.ob).getD w.ob
  cfa := takeNamed cfaOf w.cfa f.cfa
  pedestal := (fieldNat f.pedestal).getD w.pedestal
  passes := takeClamped 0 15 w.passes f.passes
  flushTimeout := takeClamped 1 100 w.flushTimeout f.flushTimeout
  rowTimeout := takeClamped 1 500 w.rowTimeout f.rowTimeout

/-- A present clamping field was clamped. -/
def sensorClamped (f : SensorFields) : Bool :=
  wasClamped 0 15 f.passes || wasClamped 1 100 f.flushTimeout || wasClamped 1 500 f.rowTimeout

/-- The decision of SETUP_SENSOR (R192) and its effects in order (R193). -/
def decideSetupSensor (f : SensorFields) (s : State) : State × Option ResultCode :=
  if !sensorInRange f then refuse .badParam s
  else if !s.setup.accepted && (f.wa.isNone || f.h.isNone) then refuse .badParam s
  else if s.seq.state != .unset && s.seq.state != .idle then refuse .busy s
  else if !s.allFree then refuse .busy s
  else
    let s := s.onSetup fun u => { u with sensor := sensorApply f u.sensor, accepted := true }
    let s := (computeLayout s).onReadout fun u => { u with history := [] }
    (if s.seq.state = .unset then seqEnter .idle s else s, some (okCode (sensorClamped f)))

/-- SETUP_SENSOR (R192, R193). -/
def execSetupSensor (f : SensorFields) (s : State) : Answer := request (.setupSensor f) (decideSetupSensor f) s

/-! ## SETUP_STORE (R194, R195) -/

/-- The slot limit a request leaves in force: above 16 it is clamped to 16. -/
def storeLimit (f : StoreFields) (old : Nat) : Nat := takeClamped 0 16 old f.slotLimit

/-- The decision of SETUP_STORE (R194) and its effects (R195). -/
def decideSetupStore (f : StoreFields) (s : State) : State × Option ResultCode :=
  let limit := storeLimit f s.setup.slotLimit
  let moved := limit != s.setup.slotLimit
  if !namesValue retentionOf f.retention then refuse .badParam s
  else if moved && !s.allFree then refuse .busy s
  else
    let s := s.onSetup fun u => { u with retention := takeNamed retentionOf u.retention f.retention, slotLimit := limit }
    (if moved && s.setup.accepted then computeLayout s else s, some (okCode (wasClamped 0 16 f.slotLimit)))

/-- SETUP_STORE (R194, R195). -/
def execSetupStore (f : StoreFields) (s : State) : Answer := request (.setupStore f) (decideSetupStore f) s

/-! ## SETUP_EXPOSURE (R196 to R198) -/

/-- Every present refusing field is one of its values (R196). -/
def exposureInRange (f : ExposureFields) : Bool :=
  namesValue switchOf f.checkBefore && namesValue responseOf f.openResponse && namesValue switchOf f.autoDark

/-- The exposure setup a request leaves in force (R198). -/
def exposureApply (f : ExposureFields) (e : Exposure) : Exposure where
  closeQualify := takeClamped 0 2000 e.closeQualify f.closeQualify
  openQualify := takeClamped 0 2000 e.openQualify f.openQualify
  blankTime := takeClamped 0 4095 e.blankTime f.blankTime
  syncTimeout := takeClamped 50 2000 e.syncTimeout f.syncTimeout
  closingTail := takeClamped 0 50 e.closingTail f.closingTail
  falseStart := takeClamped 1 100 e.falseStart f.falseStart
  checkBefore := takeNamed switchOf e.checkBefore f.checkBefore
  pullIn := takeClamped 5 100 e.pullIn f.pullIn
  holdDuty := takeClamped 1 16 e.holdDuty f.holdDuty
  holdLimit := takeClamped 10 1000 e.holdLimit f.holdLimit
  openResponse := takeNamed responseOf e.openResponse f.openResponse
  openDeglitch := takeClamped 500 10000 e.openDeglitch f.openDeglitch
  autoDark := takeNamed switchOf e.autoDark f.autoDark
  darkThreshold := ((fieldNat f.darkThreshold).map clampThreshold).getD e.darkThreshold
  darkTolerance := takeClamped 0 8 e.darkTolerance f.darkTolerance
  driftLimit := takeClamped 0 4095 e.driftLimit f.driftLimit
  blackCeiling := (fieldNat f.blackCeiling).getD e.blackCeiling
  viewWait := takeClamped 1 1000 e.viewWait f.viewWait

/-- A present clamping field was clamped. -/
def exposureClamped (f : ExposureFields) : Bool :=
  wasClamped 0 2000 f.closeQualify || wasClamped 0 2000 f.openQualify || wasClamped 0 4095 f.blankTime
    || wasClamped 50 2000 f.syncTimeout || wasClamped 0 50 f.closingTail || wasClamped 1 100 f.falseStart
    || wasClamped 5 100 f.pullIn || wasClamped 1 16 f.holdDuty || wasClamped 10 1000 f.holdLimit
    || wasClamped 500 10000 f.openDeglitch || thresholdClamped f.darkThreshold || wasClamped 0 8 f.darkTolerance
    || wasClamped 0 4095 f.driftLimit || wasClamped 1 1000 f.viewWait

/-- The decision of SETUP_EXPOSURE (R196). -/
def decideSetupExposure (f : ExposureFields) (s : State) : State × Option ResultCode :=
  if !exposureInRange f then refuse .badParam s
  else (s.onSetup fun u => { u with exposure := exposureApply f u.exposure }, some (okCode (exposureClamped f)))

/-- SETUP_EXPOSURE (R196 to R198). -/
def execSetupExposure (f : ExposureFields) (s : State) : Answer := request (.setupExposure f) (decideSetupExposure f) s

end Sys2Proof.Machine
end

