-- ==== Sys2Proof/Machine/SyncContact.lean ====
section
/-! DEFINITION. The events of the sync input (chapter 2). -/

namespace Sys2Proof.Machine

/-- The qualify time of a run that begins now: the target's, or the exposure setup's (R28, R34). -/
def State.qualifyTime (s : State) (closing : Bool) : Nat :=
  match s.sync.target with
  | some t => if closing then t.closeQualify else t.openQualify
  | none => if closing then s.setup.exposure.closeQualify else s.setup.exposure.openQualify

/-- A run begins; a closing run hands the close-start event on (R28, R36). -/
def beginRun (closing : Bool) (s : State) : State :=
  let edge := s.clock
  let s := s.onSync fun y => { y with run := some ⟨closing, edge, 0, s.qualifyTime closing⟩ }
  if closing then closeStart edge s else s

/-- A run is abandoned (R30): for a closing run the bounce of the target's frame is counted, then the close-abandoned
event handed on, or, while its trip edge awaits an answer, kept until then (R37). -/
def abandonRun (r : Run) (s : State) : State :=
  let s := s.onSync fun y => { y with run := none }
  if r.closing then
    let s := countBounce s
    if s.tripAwaited r.edge then markAbandoned r.edge s else closeAbandoned r.edge s
  else s

/-- A raw edge outside blanking begins a run or abandons one (R28, R30). -/
def takeEdge (closed : Bool) (s : State) : State :=
  match s.sync.run with
  | some r => if closed == s.sync.qualified then abandonRun r s else s
  | none => if closed == s.sync.qualified then s else beginRun closed s

/-- The sample shows a level (R27): a level that does not differ is no edge; an edge during blanking is not taken
(R32). -/
def rawEdge (closed : Bool) (s : State) : State :=
  if closed = s.pins.syncClosed then s
  else
    let s := s.onPins fun p => { p with syncClosed := closed }
    if s.sync.blanking.isSome then s else takeEdge closed s

/-- SYNC_RAW_EDGE (R27, R28, R30, R32). -/
def execSyncRawEdge (closed : Bool) (s : State) : Answer :=
  runLine (fun p => { p with syncClosed := closed }) (rawEdge closed) s

/-- A run's counted time has reached its qualify time, outside blanking (R29), and no trip edge of it awaits an answer
(R37). -/
def State.runDue (s : State) : Bool :=
  s.sync.blanking.isNone && s.sync.run.any fun r =>
    decide (r.qualify ≤ r.counted) && !(r.closing && s.tripAwaited r.edge)

/-- The timestamp report of a qualification, if the recording expectation calls for one (R35). A run whose trip edge was
answered with no shot is recorded too when it qualifies with CLOSE expected, in WAIT_SYNC of the RELEASE that left ARMED
or in TRIPPED after an earlier trip edge: R35 and R78 taken over R37 (DESIGN CHOICE, log 42). -/
def recordEdge (r : Run) (s : State) : State :=
  match s.sync.expect, r.closing, s.sync.target with
  | .close, true, some t =>
    (report t.id (fun f => { f with syncClose := some r.edge }) s).onSync fun y => { y with expect := .open }
  | .open, false, some t =>
    (report t.id (fun f => { f with syncOpen := some r.edge }) s).onSync fun y => { y with expect := .none }
  | _, _, _ => s

/-- A run qualifies (R29): the qualified state, the timestamp report, the event to the sequencer. -/
def qualify (r : Run) (s : State) : State :=
  let s := s.onSync fun y => { y with qualified := r.closing, run := none }
  let s := recordEdge r s
  if r.closing then qualifiedClose r.edge s else qualifiedOpen s

/-- RUN_QUALIFIES (R29). -/
def execRunQualifies (s : State) : Answer :=
  runWhen State.runDue (fun s => match s.sync.run with
    | some r => qualify r s
    | none => s) s

/-- The sample at blanking end (R33). A resumed run that is complete qualifies by RUN_QUALIFIES. -/
def blankingEnd (s : State) : State :=
  let s := s.onSync fun y => { y with blanking := none }
  match s.sync.run with
  | some r => if s.pins.syncClosed = s.sync.qualified then abandonRun r s else s
  | none =>
    if s.pins.syncClosed = s.sync.qualified then s
    else
      let s := match s.sync.target with
        | some t => addFlag t.id .blankedEdge s
        | none => s
      beginRun s.pins.syncClosed s

/-- BLANKING_END (R33). -/
def execBlankingEnd (s : State) : Answer := runWhen (fun s => timerDue s.sync.blanking) blankingEnd s

end Sys2Proof.Machine
end

