-- ==== Sys2Proof/Machine/Dispatch.lean ====
section
/-! DEFINITION. One arm for each command: one call of its meaning. -/

namespace Sys2Proof.Machine

def exec (i : Instr) (s : State) : Host.Outcome State Fault Refusal :=
  match i with
  | .powerOnReset => Sys2Proof.Machine.execPowerOnReset s
  | .resetEnd contactClosed cardIn => Sys2Proof.Machine.execResetEnd contactClosed cardIn s
  | .processorWrite addr bytes => Sys2Proof.Machine.execProcessorWrite addr bytes s
  | .postWrite lo hi => Sys2Proof.Machine.execPostWrite lo hi s
  | .causeClearWrite b4 b5 b6 b7 => Sys2Proof.Machine.execCauseClearWrite b4 b5 b6 b7 s
  | .apertureRead addr len => Sys2Proof.Machine.execApertureRead addr len s
  | .apertureReadComplete => Sys2Proof.Machine.execApertureReadComplete s
  | .heldReadExpiry => Sys2Proof.Machine.execHeldReadExpiry s
  | .arbiterGrant => Sys2Proof.Machine.execArbiterGrant s
  | .requestFetch => Sys2Proof.Machine.execRequestFetch s
  | .requestComplete => Sys2Proof.Machine.execRequestComplete s
  | .statusPageWrite => Sys2Proof.Machine.execStatusPageWrite s
  | .mirrorWrite k => Sys2Proof.Machine.execMirrorWrite k s
  | .cardQueueMirrorWrite => Sys2Proof.Machine.execCardQueueMirrorWrite s
  | .setupSensor f => Sys2Proof.Machine.execSetupSensor f s
  | .setupStore f => Sys2Proof.Machine.execSetupStore f s
  | .setupExposure f => Sys2Proof.Machine.execSetupExposure f s
  | .setMask mask => Sys2Proof.Machine.execSetMask mask s
  | .restart spoilBeforeViews spoilBeforeCard => Sys2Proof.Machine.execRestart spoilBeforeViews spoilBeforeCard s
  | .release mode bulbMs delayMs => Sys2Proof.Machine.execRelease mode bulbMs delayMs s
  | .arm stay => Sys2Proof.Machine.execArm stay s
  | .disarm => Sys2Proof.Machine.execDisarm s
  | .cancel => Sys2Proof.Machine.execCancel s
  | .checkRelease => Sys2Proof.Machine.execCheckRelease s
  | .clearFaults => Sys2Proof.Machine.execClearFaults s
  | .takeDark duration => Sys2Proof.Machine.execTakeDark duration s
  | .keep id => Sys2Proof.Machine.execKeep id s
  | .unkeep id => Sys2Proof.Machine.execUnkeep id s
  | .settle id => Sys2Proof.Machine.execSettle id s
  | .discard id => Sys2Proof.Machine.execDiscard id s
  | .openView f => Sys2Proof.Machine.execOpenView f s
  | .closeView view => Sys2Proof.Machine.execCloseView view s
  | .loadTone table addr => Sys2Proof.Machine.execLoadTone table addr s
  | .toneBankWrite => Sys2Proof.Machine.execToneBankWrite s
  | .cardJob f => Sys2Proof.Machine.execCardJob f s
  | .cardResume => Sys2Proof.Machine.execCardResume s
  | .cardFlush => Sys2Proof.Machine.execCardFlush s
  | .unknownRequest kind => Sys2Proof.Machine.execUnknownRequest kind s
  | .syncRawEdge closed => Sys2Proof.Machine.execSyncRawEdge closed s
  | .runQualifies => Sys2Proof.Machine.execRunQualifies s
  | .blankingEnd => Sys2Proof.Machine.execBlankingEnd s
  | .checkEnd microamps => Sys2Proof.Machine.execCheckEnd microamps s
  | .pullInEnd => Sys2Proof.Machine.execPullInEnd s
  | .holdChop => Sys2Proof.Machine.execHoldChop s
  | .bulbEnd => Sys2Proof.Machine.execBulbEnd s
  | .holdLimit => Sys2Proof.Machine.execHoldLimit s
  | .openLoadLatch => Sys2Proof.Machine.execOpenLoadLatch s
  | .shortDetected => Sys2Proof.Machine.execShortDetected s
  | .lowSupplyIndication => Sys2Proof.Machine.execLowSupplyIndication s
  | .tripDelayEnd => Sys2Proof.Machine.execTripDelayEnd s
  | .flushDone => Sys2Proof.Machine.execFlushDone s
  | .startAck => Sys2Proof.Machine.execStartAck s
  | .endAck => Sys2Proof.Machine.execEndAck s
  | .flushTimeout => Sys2Proof.Machine.execFlushTimeout s
  | .ackTimeout => Sys2Proof.Machine.execAckTimeout s
  | .syncTimeout => Sys2Proof.Machine.execSyncTimeout s
  | .openWaitExpiry => Sys2Proof.Machine.execOpenWaitExpiry s
  | .tailEnd => Sys2Proof.Machine.execTailEnd s
  | .integrationCap => Sys2Proof.Machine.execIntegrationCap s
  | .falseStartWindowExpiry => Sys2Proof.Machine.execFalseStartWindowExpiry s
  | .darkDurationEnd => Sys2Proof.Machine.execDarkDurationEnd s
  | .rowPacket row samples check => Sys2Proof.Machine.execRowPacket row samples check s
  | .rowStored => Sys2Proof.Machine.execRowStored s
  | .frameEndMarker => Sys2Proof.Machine.execFrameEndMarker s
  | .frameComplete => Sys2Proof.Machine.execFrameComplete s
  | .readoutTimeout => Sys2Proof.Machine.execReadoutTimeout s
  | .detectLineChange cardIn writeProtect => Sys2Proof.Machine.execDetectLineChange cardIn writeProtect s
  | .detectDebounceExpiry => Sys2Proof.Machine.execDetectDebounceExpiry s
  | .identifyAnswer block check => Sys2Proof.Machine.execIdentifyAnswer block check s
  | .capacityAnswer bytes check => Sys2Proof.Machine.execCapacityAnswer bytes check s
  | .cardInitTimeout => Sys2Proof.Machine.execCardInitTimeout s
  | .sectorFetched => Sys2Proof.Machine.execSectorFetched s
  | .cardToken token => Sys2Proof.Machine.execCardToken token s
  | .cardBusyEnd => Sys2Proof.Machine.execCardBusyEnd s
  | .sectorLimitExpiry => Sys2Proof.Machine.execSectorLimitExpiry s
  | .readSectorReceived bytes check => Sys2Proof.Machine.execReadSectorReceived bytes check s
  | .readSectorStored => Sys2Proof.Machine.execReadSectorStored s
  | .rampBlankEnd => Sys2Proof.Machine.execRampBlankEnd s
  | .currentSenseChange microamps => Sys2Proof.Machine.execCurrentSenseChange microamps s
  | .supplyComparatorChange low => Sys2Proof.Machine.execSupplyComparatorChange low s

end Sys2Proof.Machine
end

