-- ==== Sys2Proof/Safety.lean ====
section
/-! DEFINITION. What claims about runs speak of: the invariants the manual states of the whole machine, and what a step
may answer. -/

namespace Sys2Proof.Machine

/-- R176: P minus C, modulo 65,536, never exceeds 16; a request in hand is one of those posted (R177). -/
def State.PostsInRange (s : State) : Prop :=
  (s.req.post - s.req.consumed).toNat ≤ 16 ∧ (s.req.hand.isSome → s.req.post ≠ s.req.consumed)

/-- R182: the attention line is asserted exactly while an enabled cause is in the set. -/
def State.LineFollows (s : State) : Prop := s.req.attn = attention s.req.causes s.req.mask

/-- R98, R154, R164: the card queue never holds more than 16 jobs, the completion list keeps 8 entries, the black history
keeps 6. -/
def State.ListsBounded (s : State) : Prop :=
  s.card.jobs.length ≤ queueTop ∧ s.card.completions.length ≤ completionTop ∧ s.readout.history.length ≤ historyTop

/-- The non-FREE records' age ranks (R5). -/
def State.ranks (s : State) : List Nat := (slots.filter fun k => (s.frame k).state != .free).map fun k => (s.frame k).age

/-- R5: the ranks of the n non-FREE records are 0..n−1, without gaps or repeats. -/
def State.RanksDense (s : State) : Prop := s.ranks.Perm (List.range s.ranks.length)

/-- R171: transactions wait at the processor port only behind a read in service. -/
def State.PortServed (s : State) : Prop := s.develop.service = none → s.path.port = []

/-- No power-on reset is applied, and the port is served. -/
def State.Awake (s : State) : Prop := s.inReset = false ∧ s.PortServed

/-- No handoff is on its way, and the next one is taken within its row (log 23). -/
def State.Prompt (s : State) : Prop := s.handoffs = [] ∧ s.lags.headD 0 = 0

/-- R48: a drive is on only under drive permission, in WAIT_SYNC or OPEN of a shot of origin RELEASE. A LIGHT shot that
is still being prepared is a released one (R58, R64), so that the drive it leads to has its permission. -/
def State.DriveLocked (s : State) : Prop :=
  (s.driver.phase.driving = true → s.permission = true)
    ∧ ∀ h, s.seq.shot = some h → h.kind = .light → s.seq.state = .delay ∨ s.seq.state = .preparing → h.origin = .release

/-- R59, R77: trip listening is on only in ARMED. -/
def State.ListensInArmed (s : State) : Prop := s.sync.listening = true → s.seq.state = .armed

/-- No client of the memory port has a burst waiting, and record traffic has nothing left to take. -/
def MemPath.Idle (p : MemPath) : Prop :=
  p.readout.waiting = [] ∧ p.processor.waiting = [] ∧ p.develop.waiting = [] ∧ p.card.waiting = []
    ∧ p.record.waiting = [] ∧ p.record.got = []

/-! ## The record table -/

/-- R4: no two non-FREE records hold one id, none holds 0, and the counter is not 0. -/
def State.IdsUnique (s : State) : Prop :=
  s.store.nextId ≠ 0 ∧ ∀ j, (s.frame j).state ≠ .free →
    (s.frame j).id ≠ 0 ∧ ∀ k, (s.frame k).state ≠ .free → (s.frame k).id = (s.frame j).id → k = j

/-- R6, R58: a record in EXPOSING or READOUT is that of the shot in flight, and in UNSET, IDLE, ARMED and FAULT there is
no shot; so at most one record is in flight. -/
def State.InFlightIsTheShots (s : State) : Prop :=
  (∀ k, (s.frame k).inFlight = true → ∃ h, s.seq.shot = some h ∧ h.slot = k ∧ h.id = (s.frame k).id)
    ∧ (s.seq.state ∈ [.unset, .idle, .armed, .fault] → s.seq.shot = none)

/-- The pins that OPEN views hold on the record of an id: one as its frame, one as its dark (R11). -/
def State.viewPinsOn (s : State) (id : Word) : Nat :=
  (viewIndices.map fun v =>
    if (s.view v).state = .open then
      (if (s.view v).frame = some id then 1 else 0) + (if (s.view v).dark = some id then 1 else 0)
    else 0).sum

/-- The WRITE_FRAME jobs in the queue that name an id (R11). -/
def State.jobPinsOn (s : State) (id : Word) : Nat :=
  (s.card.jobs.filter fun j => j.kind == .writeFrame && j.frame == id).length

/-- R11: the pins of a record are those of the OPEN views and of the queued WRITE_FRAME jobs on it, and each of these
names a record. -/
def State.PinsCounted (s : State) : Prop :=
  (∀ k, (s.frame k).state ≠ .free →
      (s.frame k).viewPins = s.viewPinsOn (s.frame k).id ∧ (s.frame k).cardPins = s.jobPinsOn (s.frame k).id)
    ∧ (∀ v id, (s.view v).state = .open → ((s.view v).frame = some id ∨ (s.view v).dark = some id) → s.find id ≠ none)
    ∧ ∀ j ∈ s.card.jobs, j.kind = .writeFrame → s.find j.frame ≠ none

/-- The records that are LINKED to an id (R13). -/
def State.linksTo (s : State) (id : Word) : Nat :=
  (slots.filter fun j => (s.frame j).state != .free && (s.frame j).darkState == .linked id).length

/-- R13: the dark users of a record are the records LINKED to it; a LINKED record is COMPLETE and decided, and what it
links is a COMPLETE DARK record. -/
def State.LinksCounted (s : State) : Prop :=
  (∀ k, (s.frame k).state ≠ .free → (s.frame k).darkUsers = s.linksTo (s.frame k).id)
    ∧ ∀ j d, (s.frame j).state ≠ .free → (s.frame j).darkState = .linked d →
      (s.frame j).state = .complete ∧ (s.frame j).awaitDark = false
        ∧ ∃ k, s.find d = some k ∧ (s.frame k).state = .complete ∧ (s.frame k).kind = .dark

/-- The id names a COMPLETE record that waits for a dark. -/
def State.AwaitsDark (s : State) (id : Word) : Prop :=
  ∃ k, s.find id = some k ∧ (s.frame k).state = .complete ∧ (s.frame k).darkState = .pending
    ∧ (s.frame k).awaitDark = false

/-- The ids of the completed frames on their way to their dark decision. -/
def State.undecided (s : State) : List Word :=
  s.handoffs.filterMap fun h => match h.message with
    | .completed f => some f.id
    | _ => none

/-- R13, R103, R107, R109: a lodged link names a DARK frame in flight and a light frame that is PENDING, as does an AUTO
job; a completed frame on its way to its decision is COMPLETE and awaits it. -/
def State.DarksAwaited (s : State) : Prop :=
  (∀ d light, s.store.lodged = some (d, light) → s.AwaitsDark light
      ∧ ∃ k, s.find d = some k ∧ (s.frame k).inFlight = true ∧ (s.frame k).kind = .dark)
    ∧ (∀ j light, s.dark.job = some j → j.light = some light → s.AwaitsDark light)
    ∧ s.undecided.Nodup
    ∧ ∀ id ∈ s.undecided, ∃ k, s.find id = some k ∧ (s.frame k).state = .complete ∧ (s.frame k).awaitDark = true

/-- The invariants of the record table (R4, R5, R6, R11, R13). -/
def State.Tabled (s : State) : Prop :=
  s.IdsUnique ∧ s.RanksDense ∧ s.InFlightIsTheShots ∧ s.PinsCounted ∧ s.LinksCounted ∧ s.DarksAwaited

/-! ## Frames -/

/-- The parts of the state, as frames of commands name them. -/
inductive Part where
  | clock | pins | setup | records | store | sync | driver | sequencer | readout | darkUnit | develop | card | path
  | counts | answer | causes | dram | sent | pending | due | handoffs
  deriving DecidableEq, Repr

/-- A part is as it was. DRAM is compared byte by byte, the table record by record. Of the card engine and of the request
unit, what schedules a page write is under `due`: a write that was scheduled still is. The attention line is not a part:
`State.LineFollows` says what it is. Nor are the lags, which are free values (log 23). -/
def Part.Same (s t : State) : Part → Prop
  | .clock => t.clock = s.clock ∧ t.inReset = s.inReset
  | .pins => t.pins = s.pins
  | .setup => t.setup = s.setup
  | .records => ∀ k, t.frame k = s.frame k
  | .store => t.store.layout = s.store.layout ∧ t.store.nextId = s.store.nextId ∧ t.store.lodged = s.store.lodged
  | .sync => t.sync = s.sync
  | .driver => t.driver = s.driver
  | .sequencer => t.seq = s.seq
  | .readout => t.readout = s.readout
  | .darkUnit => t.dark = s.dark
  | .develop => t.develop = s.develop
  | .card => { t.card with mirrorDue := s.card.mirrorDue } = s.card
  | .path => t.path = s.path
  | .counts => t.req.post = s.req.post ∧ t.req.consumed = s.req.consumed ∧ t.req.hand = s.req.hand
      ∧ t.req.mask = s.req.mask ∧ t.req.pageCount = s.req.pageCount
  | .answer => t.req.answer = s.req.answer ∧ t.req.waits = s.req.waits ∧ t.req.waitsQueue = s.req.waitsQueue
  | .causes => t.req.causes = s.req.causes
  | .dram => ∀ a, Memory.read t.dram a = Memory.read s.dram a
  | .sent => t.sent = []
  | .pending => t.pending = s.pending
  | .due => (∀ k, k ∈ s.store.mirrorDue → k ∈ t.store.mirrorDue) ∧ (s.card.mirrorDue = true → t.card.mirrorDue = true)
      ∧ (s.req.statusDue = true → t.req.statusDue = true)
  | .handoffs => t.handoffs = s.handoffs

/-- Every part outside `changed` is as it was. -/
def Keeps (changed : List Part) (s t : State) : Prop := ∀ p, p ∉ changed → p.Same s t

/-- Every record but `k` is as it was. -/
def SameBut (k : Fin 16) (s t : State) : Prop := ∀ j, j ≠ k → t.frame j = s.frame j

/-- The command answers a next state with a property. -/
def Yields (i : Instr) (s : State) (P : State → Prop) : Prop := ∃ t, exec i s = .next t ∧ P t

end Sys2Proof.Machine
end

