-- ==== Sys2Proof/Certificates/Slice0/Obligations.lean ====
section
/-! DEFINITION. The statements about the machine, family by family. -/

open Sys2Proof Sys2Proof.Machine

/-- The first check of a list that applies gives the result; none applies when the result is none. -/
def Sys2Proof.Machine.FirstOf : List (Prop × ResultCode) → Option ResultCode → Prop
  | [], r => r = none
  | (p, c) :: rest, r => (p ∧ r = some c) ∨ (¬p ∧ FirstOf rest r)

/-! ## Frame store -/

/-- R23: a record that a request changes has its mirror write scheduled, and the answer waits for it. -/
def Sys2Proof.Machine.Awaits (s t : State) : Prop :=
  ∀ k, t.frame k ≠ s.frame k → k ∈ t.store.mirrorDue ∧ k ∈ t.req.waits

/-- R19: KEEP sets the keep mark of the named record and UNKEEP clears it, whatever its state; the record is then
blocked, and no allocation takes it; the answer waits for the mirror write of a changed record (R23); an id that no
record holds answers NO_FRAME and changes nothing. -/
def Obligations.KeepAndUnkeepMarkTheRecord : Prop :=
  ∀ (s : State) (id : Word), s.Awake →
    (s.asks (.keep id) = true → ∀ k, s.find id = some k → Yields (.keep id) s fun t =>
      t.frame k = { s.frame k with keep := true } ∧ SameBut k s t ∧ t.req.answer = some .ok
        ∧ (t.frame k).blocked = true
        ∧ (∀ kind origin mode, (allocate kind origin mode t).2.all (fun r => r.1 ≠ k)) ∧ Awaits s t
        ∧ Keeps [.records, .answer] s t)
    ∧ (s.asks (.unkeep id) = true → ∀ k, s.find id = some k → Yields (.unkeep id) s fun t =>
      t.frame k = { s.frame k with keep := false } ∧ SameBut k s t ∧ t.req.answer = some .ok
        ∧ ((s.frame k).inFlight = false → (s.frame k).viewPins = 0 → (s.frame k).cardPins = 0 → (s.frame k).darkUsers = 0 →
          (s.frame k).awaitDark = false → (s.frame k).darkState ≠ .pending → (t.frame k).blocked = false)
        ∧ Awaits s t ∧ Keeps [.records, .answer] s t)
    ∧ (s.find id = none →
      (s.asks (.keep id) = true → Yields (.keep id) s fun t => t.req.answer = some .noFrame ∧ Keeps [.answer] s t)
      ∧ (s.asks (.unkeep id) = true → Yields (.unkeep id) s fun t => t.req.answer = some .noFrame ∧ Keeps [.answer] s t))

/-- R20: SETTLE sets the settled mark of a COMPLETE record, which as an unblocked LIGHT record is then in group 4 of R15
and as a DARK record stays in group 3, and the answer waits for the mirror write of a changed record (R23); on another
record it answers NOT_READY, and an id that no record holds NO_FRAME. -/
def Obligations.SettleMarksACompleteRecord : Prop :=
  ∀ (s : State) (id : Word), s.Awake → s.asks (.settle id) = true →
    (∀ k, s.find id = some k → (s.frame k).state = .complete → Yields (.settle id) s fun t =>
      t.frame k = { s.frame k with settled := true } ∧ SameBut k s t ∧ t.req.answer = some .ok
        ∧ ((s.frame k).blocked = false → ∀ ring,
            (t.frame k).group ring = some (if (s.frame k).kind = .dark then 3 else 4))
        ∧ Awaits s t ∧ Keeps [.records, .answer] s t)
    ∧ (∀ k, s.find id = some k → (s.frame k).state ≠ .complete → Yields (.settle id) s fun t =>
      t.req.answer = some .notReady ∧ Keeps [.answer] s t)
    ∧ (s.find id = none → Yields (.settle id) s fun t => t.req.answer = some .noFrame ∧ Keeps [.answer] s t)

/-- The checks of R21 on the record an id names. -/
def Sys2Proof.Machine.discardChecks (f : Frame) : List (Prop × ResultCode) :=
  [(f.state = .exposing ∨ f.state = .readout ∨ f.awaitDark = true, .busy),
   (0 < f.viewPins ∨ 0 < f.cardPins ∨ 0 < f.darkUsers ∨ f.darkState = .pending, .inUse),
   (f.keep = true, .kept)]

/-- R21: DISCARD is checked in order and refused BUSY, IN_USE or KEPT with nothing changed; otherwise the record becomes
FREE, its slot loses its protection, the dark it links loses a user, higher age ranks close up, the answer waits for the
mirror writes of the changed records (R23), and DRAM stays. -/
def Obligations.DiscardFreesAnUnheldRecord : Prop :=
  ∀ (s : State) (id : Word), s.Awake → s.asks (.discard id) = true →
    (s.find id = none → Yields (.discard id) s fun t => t.req.answer = some .noFrame ∧ Keeps [.answer] s t)
    ∧ (∀ k, s.find id = some k →
      (∀ c, FirstOf (discardChecks (s.frame k)) (some c) → Yields (.discard id) s fun t =>
        t.req.answer = some c ∧ Keeps [.answer] s t)
      ∧ (FirstOf (discardChecks (s.frame k)) none → Yields (.discard id) s fun t =>
        t.frame k = Frame.free (s.frame k).changeCount ∧ t.protectedSlot k = false
          ∧ (∀ j, j ≠ k → t.frame j = { s.frame j with
              age := if (s.frame j).state ≠ .free ∧ (s.frame k).age < (s.frame j).age then (s.frame j).age - 1
                else (s.frame j).age
              darkUsers := if (s.frame k).darkState.link.bind s.find = some j then (s.frame j).darkUsers - 1
                else (s.frame j).darkUsers })
          ∧ t.req.answer = some .ok ∧ Awaits s t ∧ Keeps [.records, .answer] s t))

/-- Record `k` is a candidate of group `g` of R15. -/
def Sys2Proof.Machine.InGroup (s : State) (g : Nat) (k : Fin 16) : Prop :=
  let f := s.frame k
  k.val < s.store.layout.slotCount ∧
    ((g = 1 ∧ f.state = .free) ∨ (g = 2 ∧ f.blocked = false ∧ f.state = .spoiled)
      ∨ (g = 3 ∧ f.blocked = false ∧ f.state = .complete ∧ f.kind = .dark)
      ∨ (g = 4 ∧ f.blocked = false ∧ f.state = .complete ∧ f.kind = .light ∧ f.settled = true)
      ∨ (g = 5 ∧ f.blocked = false ∧ f.state = .complete ∧ f.kind = .light ∧ f.settled = false
        ∧ s.setup.retention = .ring))

/-- R15, R17: an allocation takes the first candidate in group order, lowest index in group 1 and oldest in the others,
and raises OVERWRITTEN for a group 5 reclaim; with no candidate it finds no slot and raises STORE_FULL. -/
def Obligations.AllocationTakesTheFirstCandidate : Prop :=
  ∀ (s t : State) (kind : FrameKind) (origin : Origin) (mode : Option ShotMode) (r : Option (Fin 16 × Word)),
    allocate kind origin mode s = (t, r) →
      (∀ k id, r = some (k, id) → ∃ g, InGroup s g k
        ∧ (∀ g' j, InGroup s g' j → g ≤ g')
        ∧ (∀ j, InGroup s g j → if g = 1 then k ≤ j else (s.frame k).age ≤ (s.frame j).age)
        ∧ t.req.causes = if g = 5 then s.req.causes ||| Cause.overwritten.bit else s.req.causes)
      ∧ (r = none → (∀ g j, ¬ InGroup s g j) ∧ t.req.causes = s.req.causes ||| Cause.storeFull.bit
        ∧ Keeps [.causes, .sent] s t)

/-- R4, R5, R13, R15, R16: the frame id of an allocation is not 0, no other record holds it, the record is filled as R16
says with the highest age rank, and the counter is left at an id that no record holds. Of the other records, those above
a reclaimed one close up by one rank, and the dark that it linked loses a user. -/
def Obligations.AllocationGivesANewId : Prop :=
  ∀ (s t : State) (kind : FrameKind) (origin : Origin) (mode : Option ShotMode) (k : Fin 16) (id : Word),
    s.store.nextId ≠ 0 → allocate kind origin mode s = (t, some (k, id)) →
      id ≠ 0 ∧ (∀ j, (s.frame j).state ≠ .free → (s.frame j).id ≠ id)
        ∧ ((∀ j, (s.frame j).state ≠ .free → (s.frame j).id ≠ s.store.nextId) → id = s.store.nextId)
        ∧ t.frame k = newFrame id kind origin mode
            ((slots.filter fun j => j ≠ k ∧ (s.frame j).state ≠ .free).length) (s.frame k).changeCount
        ∧ t.store.nextId ≠ 0 ∧ (∀ j, (t.frame j).state ≠ .free → (t.frame j).id ≠ t.store.nextId)
        ∧ (∀ j, j ≠ k → t.frame j = { s.frame j with
            age := if (s.frame k).state ≠ .free ∧ (s.frame j).state ≠ .free ∧ (s.frame k).age < (s.frame j).age
              then (s.frame j).age - 1 else (s.frame j).age
            darkUsers := if (s.frame k).state ≠ .free ∧ (s.frame k).darkState.link.bind s.find = some j
              then (s.frame j).darkUsers - 1 else (s.frame j).darkUsers })
        ∧ t.store.layout = s.store.layout ∧ t.store.lodged = s.store.lodged
        ∧ Keeps [.records, .store, .causes, .sent] s t

/-! ## Memory path -/

/-- A byte that no processor write may change: in a page that the part writes, in an aperture, or in a protected slot
(R169, R170). -/
def Sys2Proof.Machine.Dropped (s : State) (a : Nat) : Prop :=
  (0x2000 ≤ a ∧ a < 0x5000) ∨ 0x80000000 ≤ a ∨
    ∃ k : Fin 16, k.val < s.store.layout.slotCount ∧ (s.frame k).state ≠ .free
      ∧ 0x1000000 + k.val * s.store.layout.slotSize ≤ a
      ∧ a < 0x1000000 + k.val * s.store.layout.slotSize + s.store.layout.slotSize

/-- R169, R170, R171, R172: a processor write is decoded byte by byte as it arrives. Its enabled bytes outside the
dropped ranges are issued to pass-through; a write with a dropped byte counts one drop, saturating at 65,535; a write
that enables offset 0x0 or 0x1 waits as a post, one that enables 0x4 to 0x7 as a cause clear, each behind the
pass-through bursts then waiting; DRAM is not yet changed. The model's choices: an address that R169's table does not
name, such as 0x1400 to 0x1FFF, passes as ordinary memory (log 13); behind a read in service the write waits at the port
with the decoding of its arrival (log 15). -/
def Obligations.ProcessorWriteIsDecodedByteByByte : Prop :=
  ∀ (s : State) (addr : Word) (bytes : List (Option Byte)), s.Awake →
    (Instr.processorWrite addr bytes).wellFormed = true → addr.toNat + bytes.length ≤ 0x100000000 →
      let cells := enabledCells addr.toNat bytes
      (s.portBusy = false → Yields (.processorWrite addr bytes) s fun t =>
        (∃ w, w.Sublist cells ∧ (∀ c ∈ cells, c ∈ w ↔ ¬ Dropped s c.1)
          ∧ t.path.processor.waiting = s.path.processor.waiting ++ writeBursts w)
        ∧ t.path.processor.got = s.path.processor.got
        ∧ ((∃ c ∈ cells, Dropped s c.1) → t.path.drops = satInc 65535 s.path.drops)
        ∧ ((∀ c ∈ cells, ¬ Dropped s c.1) → t.path.drops = s.path.drops)
        ∧ t.path.posts = s.path.posts ++ (if (byteAt cells 0).isSome ∨ (byteAt cells 1).isSome
            then [⟨byteAt cells 0, byteAt cells 1, t.path.processor.waiting.length⟩] else [])
        ∧ t.path.clears = s.path.clears ++ (if (byteAt cells 4).isSome ∨ (byteAt cells 5).isSome
              ∨ (byteAt cells 6).isSome ∨ (byteAt cells 7).isSome
            then [⟨byteAt cells 4, byteAt cells 5, byteAt cells 6, byteAt cells 7, t.path.processor.waiting.length⟩]
            else [])
        ∧ t.path.readout = s.path.readout ∧ t.path.develop = s.path.develop ∧ t.path.card = s.path.card
        ∧ t.path.record = s.path.record ∧ t.path.rotation = s.path.rotation ∧ t.path.port = s.path.port
        ∧ Keeps [.path] s t)
      ∧ (s.portBusy = true → Yields (.processorWrite addr bytes) s fun t =>
        t.path = { s.path with port := s.path.port ++ [.write (decodeWrite addr.toNat bytes s)] } ∧ Keeps [.path] s t)

/-- A transaction of the processor port that is none, or that runs past the end of the 32-bit address space, stops the
machine by name: the model's choice (log 14), the manual states no such transaction. -/
def Obligations.NoTransactionOutsideThePort : Prop :=
  ∀ (s : State) (addr : Word) (bytes : List (Option Byte)) (len : Nat),
    ((bytes.length = 0 ∨ 64 < bytes.length) → exec (.processorWrite addr bytes) s = .refused .notATransaction)
    ∧ ((len = 0 ∨ 64 < len) → exec (.apertureRead addr len) s = .refused .notATransaction)
    ∧ (0 < bytes.length → bytes.length ≤ 64 → 0x100000000 < addr.toNat + bytes.length →
      exec (.processorWrite addr bytes) s = .fault .outsideAddressSpace)
    ∧ (0 < len → len ≤ 64 → 0x100000000 < addr.toNat + len →
      exec (.apertureRead addr len) s = .fault .outsideAddressSpace)

/-- The proposed post count P′ (R175): each enabled byte replaces the matching byte of the part's copy. -/
def Sys2Proof.Machine.proposed (copy : Half) (lo hi : Option Byte) : Half :=
  BitVec.ofNat 16 (((hi.map BitVec.toNat).getD (copy.toNat / 256)) * 256 + (lo.map BitVec.toNat).getD (copy.toNat % 256))

/-- What a post does to the request unit when it takes effect (R175, R176). -/
def Sys2Proof.Machine.PostTaken (lo hi : Option Byte) (s t : State) : Prop :=
  let count := proposed s.req.post lo hi
  let ahead := (count.toNat + 65536 - s.req.consumed.toNat) % 65536
  (ahead ≤ 16 ∧ (s.req.hand ≠ none → 1 ≤ ahead) → t.req.post = count ∧ t.req.causes = s.req.causes
      ∧ (count ≠ s.req.post → t.req.statusDue = true))
    ∧ (16 < ahead ∨ (s.req.hand ≠ none ∧ ahead = 0) → t.req.post = s.req.post
      ∧ t.req.causes = s.req.causes ||| Cause.postError.bit)
    ∧ t.req.consumed = s.req.consumed ∧ t.req.hand = s.req.hand ∧ t.req.mask = s.req.mask
    ∧ t.req.pageCount = s.req.pageCount

/-- The port of the processor after its own bursts up to and with `left` of them have reached DRAM (R172): no more of
them than that, and where no other client waits, those and nothing else. -/
def Sys2Proof.Machine.Landed (left : Nat) (s t : State) : Prop :=
  t.path.processor.waiting = s.path.processor.waiting.drop left ∧ t.path.port = s.path.port ∧ t.path.drops = s.path.drops
    ∧ (s.path.readout.waiting = [] → s.path.develop.waiting = [] → s.path.card.waiting = [] → s.path.record.waiting = [] →
      t.dram = (s.path.processor.waiting.take left).foldl burstDram s.dram)
    ∧ (left = 0 → t.dram = s.dram ∧ t.path.rotation = s.path.rotation)

/-- R175, R176: a proposed post count P′ is taken when P′ − C modulo 65,536 is at most 16 and, while a request is in
hand, at least 1; otherwise P stays and POST_ERROR is raised. R172: the first post decoded takes effect when its own
write and every earlier one have reached DRAM. How the row POST_WRITE meets a decoded post is the model's choice (log
6): it lands the bursts that the post waits for; with bytes other than those of the first post it does nothing; with
none decoded it stands alone, takes effect once every earlier write is in DRAM, and behind a read in service does not
reach the part (R171, R188). -/
def Obligations.PostWriteIsTakenWithinSixteen : Prop :=
  ∀ (s : State) (lo hi : Option Byte), s.Awake → (lo.isSome ∨ hi.isSome) →
    (∀ left rest, s.path.posts = ⟨lo, hi, left⟩ :: rest → left ≤ s.path.processor.waiting.length →
      Yields (.postWrite lo hi) s fun t =>
        PostTaken lo hi s t ∧ t.path.posts = rest.map (fun e => { e with left := e.left - left }) ∧ Landed left s t
          ∧ Keeps [.counts, .causes, .path, .dram] s t)
    ∧ (∀ e rest, s.path.posts = e :: rest → ¬ (e.lo = lo ∧ e.hi = hi) → Yields (.postWrite lo hi) s (Keeps [] s))
    ∧ (s.path.posts = [] → s.portBusy = true → Yields (.postWrite lo hi) s (Keeps [] s))
    ∧ (s.path.posts = [] → s.portBusy = false → Yields (.postWrite lo hi) s fun t =>
      PostTaken lo hi s t ∧ t.path.posts = [] ∧ Landed s.path.processor.waiting.length s t
        ∧ Keeps [.counts, .causes, .path, .dram] s t)

/-- What a cause clear does to the request unit when it takes effect (R184). -/
def Sys2Proof.Machine.CausesCleared (b4 b5 : Option Byte) (s t : State) : Prop :=
  (∀ p : Nat, p < 14 → t.req.causes.getLsbD p =
      (s.req.causes.getLsbD p && !(if p < 8 then b4.any (·.getLsbD p) else b5.any (·.getLsbD (p - 8)))))
    ∧ t.LineFollows ∧ t.req.statusDue = true

/-- R184: a cause clear that takes effect removes from the cause set each cause whose position holds a 1 in an enabled
byte, and no other; the line follows and the status page is rewritten. R172: the first clear decoded takes effect when
its own write and every earlier one have reached DRAM. How the row CAUSE_CLEAR_WRITE meets a decoded clear is the
model's choice (log 6), as POST_WRITE meets a post. -/
def Obligations.CauseClearRemovesTheNamedCauses : Prop :=
  ∀ (s : State) (b4 b5 b6 b7 : Option Byte), s.Awake → (b4.isSome ∨ b5.isSome ∨ b6.isSome ∨ b7.isSome) →
    let i := Instr.causeClearWrite b4 b5 b6 b7
    (∀ left rest, s.path.clears = ⟨b4, b5, b6, b7, left⟩ :: rest → left ≤ s.path.processor.waiting.length →
      Yields i s fun t =>
        CausesCleared b4 b5 s t ∧ t.path.clears = rest.map (fun e => { e with left := e.left - left }) ∧ Landed left s t
          ∧ Keeps [.causes, .path, .dram] s t)
    ∧ (∀ e rest, s.path.clears = e :: rest → ¬ (e.b4 = b4 ∧ e.b5 = b5 ∧ e.b6 = b6 ∧ e.b7 = b7) → Yields i s (Keeps [] s))
    ∧ (s.path.clears = [] → s.portBusy = true → Yields i s (Keeps [] s))
    ∧ (s.path.clears = [] → s.portBusy = false → Yields i s fun t =>
      CausesCleared b4 b5 s t ∧ t.path.clears = [] ∧ Landed s.path.processor.waiting.length s t
        ∧ Keeps [.causes, .path, .dram] s t)

/-- R174: the arbiter grants a waiting readout burst first, without moving the rotation; otherwise the first waiting
client from the rotation's place on, after which the rotation goes on behind it; with none waiting nothing happens. The
burst's bytes, and no others, change in DRAM. -/
def Obligations.ArbiterGrantsInRotation : Prop :=
  ∀ s : State, s.Awake → s.dram.wf = true →
    (∀ b rest, s.path.readout.waiting = b :: rest → Yields .arbiterGrant s fun t =>
      t.path.readout.waiting = rest ∧ t.path.readout.got = s.path.readout.got ++ burstGot s.dram b
        ∧ t.path.rotation = s.path.rotation ∧ (∀ c, t.path.client c = s.path.client c)
        ∧ t.dram = burstDram s.dram b ∧ Keeps [.path, .dram] s t)
    ∧ (∀ (i : Nat) (c : RotClient) b rest, s.path.readout.waiting = [] → i < 4 → c = RotClient.succ^[i] s.path.rotation →
      (∀ j, j < i → (s.path.client (RotClient.succ^[j] s.path.rotation)).waiting = []) →
      (s.path.client c).waiting = b :: rest → Yields .arbiterGrant s fun t =>
        t.path.readout = s.path.readout ∧ (t.path.client c).waiting = rest
          ∧ (t.path.client c).got = (s.path.client c).got ++ burstGot s.dram b
          ∧ (∀ d, d ≠ c → t.path.client d = s.path.client d) ∧ t.path.rotation = c.succ
          ∧ t.dram = burstDram s.dram b ∧ Keeps [.path, .dram] s t)
    ∧ (s.path.readout.waiting = [] → (∀ c, (s.path.client c).waiting = []) → Yields .arbiterGrant s (Keeps [] s))
    ∧ (∀ b a, (∀ cells, b = .write cells → ∀ c ∈ cells, c.1 ≠ a) → (burstDram s.dram b).read a = s.dram.read a)

/-! ## Request unit -/

/-- The request that a record spells (R204, R205), `num` giving the number at an offset in so many bytes, least
significant first: each kind by its code, with each of its fields at its offset; a setup parameter is present when its
bit of the mask at 0x08 is set. -/
def Sys2Proof.Machine.Spells (num : Nat → Nat → Nat) (i : Instr) : Prop :=
  let half (o : Nat) : Half := BitVec.ofNat 16 (num o 2)
  let word (o : Nat) : Word := BitVec.ofNat 32 (num o 4)
  let param (bit o : Nat) : Option Half := if (num 0x08 4 / 2 ^ bit) % 2 = 1 then some (half o) else none
  (num 0 2 = 0x0001 → i = .setupSensor ⟨param 0 0x0C, param 1 0x0E, param 2 0x10, param 3 0x12, param 4 0x14,
      param 5 0x16, param 6 0x18, param 7 0x1A⟩)
    ∧ (num 0 2 = 0x0002 → i = .setupStore ⟨param 0 0x0C, param 1 0x0E⟩)
    ∧ (num 0 2 = 0x0003 → ∃ f, i = .setupExposure f ∧ f.closeQualify = param 0 0x10 ∧ f.openQualify = param 1 0x12
      ∧ f.blankTime = param 2 0x14 ∧ f.syncTimeout = param 3 0x16 ∧ f.closingTail = param 4 0x18
      ∧ f.falseStart = param 5 0x1A ∧ f.checkBefore = param 6 0x1C ∧ f.pullIn = param 7 0x1E ∧ f.holdDuty = param 8 0x20
      ∧ f.holdLimit = param 9 0x22 ∧ f.openResponse = param 10 0x24 ∧ f.openDeglitch = param 11 0x26
      ∧ f.autoDark = param 12 0x28 ∧ f.darkTolerance = param 14 0x2A ∧ f.driftLimit = param 15 0x2C
      ∧ f.blackCeiling = param 16 0x2E ∧ f.viewWait = param 17 0x30
      ∧ f.darkThreshold = if (num 0x08 4 / 2 ^ 13) % 2 = 1 then some (word 0x0C) else none)
    ∧ (num 0 2 = 0x0008 → i = .setMask (half 0x08)) ∧ (num 0 2 = 0x0009 → i = .restart false false)
    ∧ (num 0 2 = 0x0010 → i = .release (half 0x08) (word 0x0C) (word 0x10))
    ∧ (num 0 2 = 0x0011 → i = .arm (num 0x08 2 % 2 == 1)) ∧ (num 0 2 = 0x0012 → i = .disarm)
    ∧ (num 0 2 = 0x0013 → i = .cancel) ∧ (num 0 2 = 0x0020 → i = .checkRelease) ∧ (num 0 2 = 0x0021 → i = .clearFaults)
    ∧ (num 0 2 = 0x0030 → i = .takeDark (word 0x08)) ∧ (num 0 2 = 0x0040 → i = .keep (word 0x08))
    ∧ (num 0 2 = 0x0041 → i = .unkeep (word 0x08)) ∧ (num 0 2 = 0x0042 → i = .settle (word 0x08))
    ∧ (num 0 2 = 0x0043 → i = .discard (word 0x08))
    ∧ (num 0 2 = 0x0050 → i = .openView ⟨half 0x08, half 0x0A, half 0x0C, half 0x0E, word 0x10, word 0x14, half 0x18,
      half 0x1A, half 0x1C, half 0x1E, half 0x20⟩)
    ∧ (num 0 2 = 0x0051 → i = .closeView (half 0x08)) ∧ (num 0 2 = 0x0052 → i = .loadTone (half 0x08) (word 0x0C))
    ∧ (num 0 2 = 0x0060 → i = .cardJob ⟨half 0x02, half 0x08, num 0x0A 2 % 2 == 1, word 0x0C, word 0x10, word 0x14,
      word 0x18, word 0x1C⟩)
    ∧ (num 0 2 = 0x0061 → i = .cardResume) ∧ (num 0 2 = 0x0062 → i = .cardFlush)
    ∧ (half 0 ∉ knownKinds → i = .unknownRequest (half 0))

/-- R177: while P differs from C and no request is in hand, the request of count C is fetched: the 64 bytes of ring slot
C mod 16 are decoded into the request in hand, its kind, tag and parameters at the offsets of R205. P, C and DRAM stay.
Otherwise nothing happens. A RESTART fetched matches its row with any operands (log 9). -/
def Obligations.RequestFetchDecodesTheRingSlot : Prop :=
  ∀ s : State, s.Awake →
    (s.path.Idle → s.req.post ≠ s.req.consumed → s.req.hand = none → s.develop.toneLoad = none →
      Yields .requestFetch s fun t =>
        let num (o n : Nat) : Nat := leValue (s.dram.readBytes (0x1000 + s.req.consumed.toNat % 16 * 64 + o) n)
        (∃ i, t.req.hand = some ⟨i, BitVec.ofNat 16 (num 0x02 2)⟩ ∧ Spells num i)
          ∧ t.req.answer = none ∧ t.req.waits = [] ∧ t.req.waitsQueue = false ∧ t.req.post = s.req.post
          ∧ t.req.consumed = s.req.consumed ∧ t.req.mask = s.req.mask ∧ t.req.pageCount = s.req.pageCount
          ∧ t.path.Idle ∧ Keeps [.counts, .answer, .path] s t)
    ∧ (s.req.post = s.req.consumed ∨ s.req.hand ≠ none → Yields .requestFetch s (Keeps [] s))

/-- R178: with its owner's answer the request in hand is completed: once the mirror writes it waits for are made, the
result word with the code, the summary byte, the tag and the count C + 1 stands in bytes 0x38 to 0x3F of its ring slot,
C has advanced by one, no request is in hand and REQUEST_DONE is raised. DRAM changes in the result word and in the
mirrors alone, and of those that the answer waited for none is due any longer (R23). -/
def Obligations.RequestCompleteWritesTheResultWord : Prop :=
  ∀ (s : State) (h : Hand) (code : ResultCode), s.Awake → s.path.Idle → s.dram.wf = true → s.req.hand = some h →
    s.req.answer = some code → Yields .requestComplete s fun t =>
      let at_ := 0x1000 + s.req.consumed.toNat % 16 * 64 + 0x38
      t.dram.readBytes at_ 8 = resultWord code s.summary h.tag (s.req.consumed + 1)
        ∧ (∀ a, (a < at_ ∨ at_ + 8 ≤ a) → (a < 0x3000 ∨ 0x5000 ≤ a) → t.dram.read a = s.dram.read a)
        ∧ t.req.consumed = s.req.consumed + 1 ∧ t.req.hand = none ∧ t.req.answer = none ∧ t.req.post = s.req.post
        ∧ t.req.causes = s.req.causes ||| Cause.requestDone.bit
        ∧ (∀ k, (t.frame k).content = (s.frame k).content)
        ∧ (s.req.waits = [] → s.req.waitsQueue = false → ∀ a, (a < at_ ∨ at_ + 8 ≤ a) → t.dram.read a = s.dram.read a)
        ∧ t.req.statusDue = true
        ∧ (∀ k, k ∈ s.req.waits → k ∉ t.store.mirrorDue) ∧ (s.req.waitsQueue = true → t.card.mirrorDue = false)
        ∧ Keeps [.records, .card, .counts, .answer, .causes, .path, .dram, .due] s t

/-- The listed values stand in DRAM, each little-endian in so many bytes at an offset from `base` (R204): (offset, size,
value). -/
def Sys2Proof.Machine.FieldsAt (m : Memory) (base : Nat) (fields : List (Nat × Nat × Nat)) : Prop :=
  ∀ f ∈ fields, m.readBytes (base + f.1) f.2.1 = leBytes f.2.1 f.2.2

/-- A position set: the i-th member, from 0, is bit i. -/
def Sys2Proof.Machine.positions (members : List Bool) : Nat :=
  (members.zipIdx.map fun x => if x.1 then 2 ^ x.2 else 0).sum

/-- A word that may be absent, 0 when it is. -/
def Sys2Proof.Machine.orZero (w : Option Word) : Nat := (w.map BitVec.toNat).getD 0

/-- The number of a code that may be absent: its place in a list of codes from 1 on, 0 when it is absent. -/
def Sys2Proof.Machine.codeFrom1 {α : Type} [BEq α] (codes : List α) (a : Option α) : Nat :=
  (a.map fun x => codes.idxOf x + 1).getD 0

/-- The fields of a frame's mirror entry, between its two counts (R206 and its tables). -/
def Sys2Proof.Machine.frameFields (f : Frame) (k base : Nat) : List (Nat × Nat × Nat) :=
  if f.state = .free then [(0x04, 10, 0), (0x0E, 1, k), (0x0F, 1, 0), (0x10, 4, base), (0x14, 104, 0)]
  else
    [(0x04, 4, f.id.toNat), (0x08, 1, [FrameState.free, .exposing, .readout, .complete, .spoiled].idxOf f.state),
     (0x09, 1, if f.kind = .light then 1 else 2),
     (0x0A, 1, codeFrom1 [.cancelled, .releaseFault, .noCable, .earlySync, .falseStart, .lightLeak, .linkLost,
       .readoutTimeout, .sensorFault, .restart] f.spoil),
     (0x0B, 1, codeFrom1 [.release, .tripped, .autoDark, .takenDark] (some f.origin)),
     (0x0C, 1, if f.shotMode = some .timedBulb then 1 else 0),
     (0x0D, 1, if f.kind = .dark then 0 else if f.darkState = .pending then 1 else if f.darkState.link.isSome then 2
       else if f.darkState = .missing then 3 else 0),
     (0x0E, 1, k), (0x0F, 1, f.age), (0x10, 4, base),
     (0x14, 4, positions [f.shotMode.isSome, f.spoil.isSome, f.release.isSome, f.integStart.isSome, f.syncClose.isSome,
       f.syncOpen.isSome, f.integEnd.isSome, f.syncClose.isSome && f.syncOpen.isSome,
       f.integStart.isSome && f.integEnd.isSome, f.firstBad.isSome, f.blacks.isSome, f.kind == .light, f.kind == .dark,
       f.darkState.link.isSome]),
     (0x18, 4, orZero f.release), (0x1C, 4, orZero f.integStart), (0x20, 4, orZero f.syncClose),
     (0x24, 4, orZero f.syncOpen), (0x28, 4, orZero f.integEnd),
     (0x2C, 4, orZero (f.syncClose.bind fun a => f.syncOpen.map (· - a))),
     (0x30, 4, orZero (f.integStart.bind fun a => f.integEnd.map (· - a))),
     (0x34, 4, f.flags.toNat), (0x38, 2, f.rowsStored), (0x3A, 2, f.badRows), (0x3C, 2, f.firstBad.getD 0),
     (0x3E, 1, f.bounce), (0x3F, 1, positions [f.keep, f.settled, f.awaitDark]),
     (0x40, 2, (f.blacks.map (·.level.c0)).getD 0), (0x42, 2, (f.blacks.map (·.level.c1)).getD 0),
     (0x44, 2, (f.blacks.map (·.level.c2)).getD 0), (0x46, 2, (f.blacks.map (·.level.c3)).getD 0),
     (0x48, 2, (f.blacks.map (·.mean)).getD 0), (0x4A, 1, f.viewPins), (0x4B, 1, f.cardPins),
     (0x4C, 4, orZero f.darkState.link), (0x50, 1, if f.kind = .dark then f.darkUsers else 0), (0x51, 43, 0)]

/-- The fields of a job's entry in the card queue mirror (R207 and its tables). -/
def Sys2Proof.Machine.jobFields (j : Job) : List (Nat × Nat × Nat) :=
  let frame := j.kind = .writeFrame
  [(0x00, 2, j.tag.toNat), (0x02, 1, codeFrom1 [.writeFrame, .writeMem, .readMem] (some j.kind)),
   (0x03, 1, if j.active then 2 else 1), (0x04, 4, if frame then j.frame.toNat else 0),
   (0x08, 4, if frame then j.offset else 0), (0x0C, 4, if frame then 0 else j.address), (0x10, 4, j.length),
   (0x14, 4, j.start.toNat), (0x18, 4, j.sectorsDone), (0x1C, 1, positions [decide frame && j.consign]), (0x1D, 35, 0)]

/-- The fields of a view's summary in the status page (11 Table. View summary). -/
def Sys2Proof.Machine.viewFields (x : View) : List (Nat × Nat × Nat) :=
  [(0x0, 1, [ViewState.closed, .open, .broken].idxOf x.state), (0x1, 1, if x.form = .quadRgb8 then 1 else 0),
   (0x2, 1, positions [x.frame.isSome, x.dark.isSome]), (0x3, 1, 0), (0x4, 4, orZero x.frame), (0x8, 4, orZero x.dark),
   (0xC, 2, x.late), (0xE, 2, 0)]

/-- The fields of a completion list entry (11 Table. Completion list entry). -/
def Sys2Proof.Machine.completionFields (e : Completion) : List (Nat × Nat × Nat) :=
  let reason : Option FailReason := match e.outcome with
    | .failed r => some r
    | _ => none
  [(0x0, 2, e.tag.toNat), (0x2, 1, if e.outcome = .done then 3 else if e.outcome = .cancelled then 5 else 4),
   (0x3, 1, codeFrom1 [.writeFault, .crcReject, .busyTimeout, .readError, .writeProtected, .sourceLost, .cardGone,
     .cancelled] reason),
   (0x4, 4, e.sectorsDone)]

/-- The fields of the status page but its counts, its views and its completion list (R180, R185, R208 and its tables). -/
def Sys2Proof.Machine.statusFields (s : State) : List (Nat × Nat × Nat) :=
  [(0x004, 2, s.req.post.toNat), (0x006, 2, s.req.consumed.toNat), (0x008, 2, s.req.causes.toNat),
   (0x00A, 2, s.req.mask.toNat),
   (0x00C, 1, positions [s.driver.faultShort || s.driver.faultOpen, s.seq.state == .fault, s.card.halted,
     decide (0 < s.store.layout.slotCount ∧ s.allocatable = 0), s.dark.job.any (·.light.isSome),
     decide (s.seq.state ∉ [SeqState.unset, .idle, .armed]), s.card.state == .absent,
     decide (s.req.causes &&& s.req.mask ≠ 0)]),
   (0x00D, 1, [SeqState.unset, .idle, .armed, .delay, .preparing, .waitSync, .open, .tail, .tripped, .darkRun, .readout,
     .fault].idxOf s.seq.state),
   (0x00E, 1, positions [s.dark.job.any (·.light.isSome)]),
   (0x00F, 1, [Phase.off, .check, .pullIn, .hold].idxOf s.driver.phase),
   (0x010, 1, positions [s.driver.faultShort, s.driver.faultOpen]),
   (0x011, 1, [Cable.unknown, .present, .absent].idxOf s.driver.cable), (0x012, 1, positions [s.sync.qualified]),
   (0x013, 1, [CardState.absent, .initializing, .ready, .unusable].idxOf s.card.state),
   (0x014, 1, positions [s.card.wpSample.getD false]), (0x015, 1, positions [s.card.halted]),
   (0x016, 1, s.card.jobs.length), (0x017, 1, if s.setup.retention = .ring then 1 else 0), (0x018, 4, orZero s.card.capacity),
   (0x01C, 1, s.store.layout.slotCount), (0x01D, 1, s.allocatable), (0x01E, 1, s.readout.history.length),
   (0x01F, 1, codeFrom1 [.notArmed, .early, .readoutBusy, .darkRun] (s.sync.missed.map (·.2))),
   (0x020, 4, s.store.nextId.toNat), (0x024, 4, orZero (s.sync.missed.map (·.1))), (0x028, 2, s.sync.missedCount),
   (0x02A, 2, s.seq.falseStarts), (0x02C, 2, s.path.drops),
   (0x02E, 2, positions [s.card.capacity.isSome, s.card.wpSample.isSome, s.sync.missed.isSome]),
   (0x030, 4, s.clock.toNat), (0x080, 1, s.card.completions.length), (0x081, 3, 0)]
    ++ (List.range 6).map fun i => (0x034 + 2 * i, 2, (s.readout.history[i]?).getD 0)

/-- R22, R165, R186, R204, R206, R207, R208: a scheduled mirror write, write of the card queue mirror or of the status
page advances its change count by one and writes the count, the body as the record, the queue or the items then stand,
with each field at its offset, and the count again; no other byte of DRAM changes, and what is shown stays. -/
def Obligations.MirrorWriteShowsTheRecord : Prop :=
  ∀ s : State, s.Awake → s.path.Idle → s.dram.wf = true →
    (∀ k, k ∈ s.store.mirrorDue → Yields (.mirrorWrite k) s fun t =>
      let count := (s.frame k).changeCount + 1
      let at_ := 0x3000 + k.val * 128
      let base := if k.val < s.store.layout.slotCount then 0x1000000 + k.val * s.store.layout.slotSize else 0
      t.frame k = { s.frame k with changeCount := count } ∧ SameBut k s t
        ∧ FieldsAt t.dram at_ ([(0x00, 4, count.toNat), (0x7C, 4, count.toNat)] ++ frameFields (s.frame k) k.val base)
        ∧ t.dram.readBytes (at_ + 4) 120 = (s.frame k).entryBody k.val (s.store.shownBase k.val)
        ∧ (∀ a, (a < at_ ∨ at_ + 128 ≤ a) → t.dram.read a = s.dram.read a)
        ∧ k ∉ t.store.mirrorDue ∧ (∀ j, j ≠ k → (j ∈ t.store.mirrorDue ↔ j ∈ s.store.mirrorDue))
        ∧ t.card = s.card ∧ t.req.statusDue = s.req.statusDue
        ∧ Keeps [.records, .path, .dram, .due] s t)
    ∧ (s.card.mirrorDue = true → Yields .cardQueueMirrorWrite s fun t =>
      let count := (s.card.pageCount + 1).toNat
      t.card = { s.card with pageCount := s.card.pageCount + 1, mirrorDue := false }
        ∧ FieldsAt t.dram 0x4000 [(0x400, 4, count), (0x404, 4, s.card.jobs.length), (0x408, 4, count)]
        ∧ (∀ (i : Nat) j, i < 16 → s.card.jobs[i]? = some j → FieldsAt t.dram (0x4000 + 64 * i) (jobFields j))
        ∧ (∀ i, i < 16 → s.card.jobs.length ≤ i → FieldsAt t.dram (0x4000 + 64 * i) [(0, 64, 0)])
        ∧ t.dram.readBytes 0x4000 1024 = queueEntries s.card.jobs
        ∧ (∀ a, (a < 0x4000 ∨ 0x440C ≤ a) → t.dram.read a = s.dram.read a)
        ∧ Keeps [.card, .path, .dram, .due] s t)
    ∧ (s.req.statusDue = true → Yields .statusPageWrite s fun t =>
      let count := (s.req.pageCount + 1).toNat
      t.req.pageCount = s.req.pageCount + 1 ∧ t.req.statusDue = false
        ∧ t.req.post = s.req.post ∧ t.req.consumed = s.req.consumed ∧ t.req.hand = s.req.hand ∧ t.req.mask = s.req.mask
        ∧ FieldsAt t.dram 0x2000 ([(0x000, 4, count), (0xFFC, 4, count)] ++ statusFields s)
        ∧ (∀ v : Fin 4, FieldsAt t.dram (0x2040 + 16 * v.val) (viewFields (s.view v)))
        ∧ (∀ (i : Nat) e, i < 8 → s.card.completions[i]? = some e →
          FieldsAt t.dram (0x2084 + 8 * i) (completionFields e))
        ∧ (∀ i, i < 8 → s.card.completions.length ≤ i → FieldsAt t.dram (0x2084 + 8 * i) [(0, 8, 0)])
        ∧ t.dram.readBytes 0x2004 192 = s.statusView.bytes s.clock
        ∧ (∀ a, (a < 0x2000 ∨ 0x20C4 ≤ a ∧ a < 0x2FFC ∨ 0x3000 ≤ a) → t.dram.read a = s.dram.read a)
        ∧ Keeps [.counts, .path, .dram, .due] s t)

/-- R4, R5, R6, R11, R13, R103, R107, R109: every step keeps the record table. The ids of non-FREE records are unique
and not 0 and their age ranks dense; at most one record is EXPOSING or READOUT, that of the shot in flight; a record's
view pins are those of the OPEN views and its card pins those of the WRITE_FRAME jobs on it; its dark users are the
records LINKED to it; a lodged link and an AUTO job name a PENDING light frame. -/
def Obligations.EveryStepKeepsTheRecordTable : Prop :=
  (∀ s : State, s.Tabled → ∀ j k, (s.frame j).inFlight = true → (s.frame k).inFlight = true → j = k)
    ∧ ∀ (s t : State), s.Tabled → step s = .next t → t.Tabled

/-- R183, R179: SET_MASK is accepted in every state and replaces the mask, positions that name no cause being ignored;
the line follows at once. A request whose kind is none of the part's answers UNKNOWN and changes nothing. The row
UNKNOWN_REQUEST with a kind that the part knows is none of its commands, and is refused by name: the model's choice (log
14). -/
def Obligations.SetMaskAndUnknownRequests : Prop :=
  ∀ s : State, s.Awake →
    (∀ mask, s.asks (.setMask mask) = true → Yields (.setMask mask) s fun t =>
      t.req.mask = mask.setWidth 14 ∧ t.req.attn = attention s.req.causes (mask.setWidth 14)
        ∧ (s.req.mask ≠ mask.setWidth 14 → t.req.statusDue = true) ∧ t.req.answer = some .ok
        ∧ t.req.post = s.req.post ∧ t.req.consumed = s.req.consumed ∧ t.req.hand = s.req.hand
        ∧ t.req.pageCount = s.req.pageCount ∧ Keeps [.counts, .answer] s t)
    ∧ (∀ kind, kind ∉ knownKinds → s.asks (.unknownRequest kind) = true →
      Yields (.unknownRequest kind) s fun t => t.req.answer = some .unknown ∧ Keeps [.answer] s t)
    ∧ (∀ kind, kind ∈ knownKinds → exec (.unknownRequest kind) s = .refused .notATransaction)

/-- R182: the attention line is asserted exactly while an enabled cause is in the cause set, after power-on reset, when
the mask is 0 and the line deasserted, and after every step. -/
def Obligations.LineFollowsCausesAndMask : Prop :=
  (State.reset.req.mask = 0 ∧ State.reset.req.attn = false ∧ State.reset.LineFollows)
    ∧ ∀ (s t : State), s.LineFollows → step s = .next t →
      (t.req.attn = true ↔ ∃ p : Nat, p < 14 ∧ t.req.causes.getLsbD p = true ∧ t.req.mask.getLsbD p = true)

/-- R22, R165, R186: whatever a step does outside power-on reset, be it a command or the microsecond of an empty queue
(the model's choice, log 1), a record whose content it changes has its mirror write scheduled, a changed card queue its
page write, and a changed item of the status page its page write. -/
def Obligations.EveryChangeSchedulesItsWrite : Prop :=
  ∀ s t : State, s.inReset = false → s.pending.head? ≠ some .powerOnReset → step s = .next t →
    (∀ k, (t.frame k).content ≠ (s.frame k).content → k ∈ t.store.mirrorDue)
      ∧ (t.card.jobs ≠ s.card.jobs → t.card.mirrorDue = true)
      ∧ (t.statusView ≠ s.statusView → t.req.statusDue = true)

/-! ## Setup records -/

/-- A present field lies outside its range. -/
def Sys2Proof.Machine.Outside {w : Nat} (lo hi : Nat) (f : Option (BitVec w)) : Prop :=
  ∃ v, f = some v ∧ (v.toNat < lo ∨ hi < v.toNat)

/-- A present geometry field lies outside its range or is odd. -/
def Sys2Proof.Machine.BadGeometry (lo hi : Nat) (f : Option Half) : Prop :=
  ∃ v, f = some v ∧ (v.toNat < lo ∨ hi < v.toNat ∨ v.toNat % 2 = 1)

/-- The value a clamping field leaves in force: the old one when it is absent, otherwise its own, taken to the nearer
end of the range (R191). -/
def Sys2Proof.Machine.inForce {w : Nat} (lo hi old : Nat) (f : Option (BitVec w)) : Nat :=
  (f.map fun v => max lo (min hi v.toNat)).getD old

/-- The slot layout of R1. -/
def Sys2Proof.Machine.IsLayout (l : Layout) (wa h ob limit : Nat) : Prop :=
  l.rowWidth = ob + wa ∧ l.frameSize = (ob + wa) * h * 2
    ∧ l.slotSize % 1048576 = 0 ∧ l.frameSize ≤ l.slotSize ∧ l.slotSize < l.frameSize + 1048576
    ∧ l.slotCount = min (min 16 (if limit = 0 then 16 else limit)) (2032 * 1048576 / l.slotSize)

/-- R192, R193: SETUP_SENSOR is refused by the first check that applies, with nothing changed. Otherwise the present
fields are in force, flush passes and timeouts clamped, the layout of R1 is computed, all sixteen mirror writes are
scheduled and awaited, the black history is empty and the sequencer IDLE. -/
def Obligations.SetupSensorSetsGeometryAndLayout : Prop :=
  ∀ (s : State) (f : SensorFields), s.Awake → s.DriveLocked → s.asks (.setupSensor f) = true →
    let bad := BadGeometry 2048 12288 f.wa ∨ BadGeometry 1536 9216 f.h ∨ BadGeometry 0 128 f.ob ∨ Outside 0 3 f.cfa
      ∨ (s.setup.accepted = false ∧ (f.wa = none ∨ f.h = none))
    let busy := (s.seq.state ≠ .unset ∧ s.seq.state ≠ .idle) ∨ ∃ k, (s.frame k).state ≠ .free
    (bad → Yields (.setupSensor f) s fun t => t.req.answer = some .badParam ∧ Keeps [.answer] s t)
    ∧ (¬bad → busy → Yields (.setupSensor f) s fun t => t.req.answer = some .busy ∧ Keeps [.answer] s t)
    ∧ (¬bad → ¬busy → Yields (.setupSensor f) s fun t =>
      t.setup.sensor.wa = (f.wa.map BitVec.toNat).or s.setup.sensor.wa
        ∧ t.setup.sensor.h = (f.h.map BitVec.toNat).or s.setup.sensor.h
        ∧ t.setup.sensor.ob = (f.ob.map BitVec.toNat).getD s.setup.sensor.ob
        ∧ (∀ v, f.cfa = some v → some t.setup.sensor.cfa = [Cfa.rggb, .grbg, .gbrg, .bggr][v.toNat]?)
        ∧ (f.cfa = none → t.setup.sensor.cfa = s.setup.sensor.cfa)
        ∧ t.setup.sensor.pedestal = (f.pedestal.map BitVec.toNat).getD s.setup.sensor.pedestal
        ∧ t.setup.sensor.passes = inForce 0 15 s.setup.sensor.passes f.passes
        ∧ t.setup.sensor.flushTimeout = inForce 1 100 s.setup.sensor.flushTimeout f.flushTimeout
        ∧ t.setup.sensor.rowTimeout = inForce 1 500 s.setup.sensor.rowTimeout f.rowTimeout
        ∧ t.setup.accepted = true ∧ t.setup.exposure = s.setup.exposure ∧ t.setup.retention = s.setup.retention
        ∧ t.setup.slotLimit = s.setup.slotLimit
        ∧ IsLayout t.store.layout (t.setup.sensor.wa.getD 0) (t.setup.sensor.h.getD 0) t.setup.sensor.ob s.setup.slotLimit
        ∧ t.store.nextId = s.store.nextId ∧ t.store.lodged = s.store.lodged
        ∧ (∀ k, k ∈ t.store.mirrorDue ∧ k ∈ t.req.waits) ∧ t.readout = { s.readout with history := [] }
        ∧ t.seq.state = .idle ∧ (s.seq.state = .idle → t.seq = s.seq ∧ t.sync = s.sync)
        ∧ (Outside 0 15 f.passes ∨ Outside 1 100 f.flushTimeout ∨ Outside 1 500 f.rowTimeout → t.req.answer = some .clamped)
        ∧ (¬ (Outside 0 15 f.passes ∨ Outside 1 100 f.flushTimeout ∨ Outside 1 500 f.rowTimeout) →
          t.req.answer = some .ok)
        ∧ Keeps [.setup, .store, .readout, .sequencer, .sync, .answer] s t)

/-- R194, R195: SETUP_STORE is refused BAD_PARAM for a retention mode that is none, and BUSY for a changed slot limit
while a record is not FREE; otherwise its fields are in force, and a changed limit of an accepted sensor setup
recomputes the layout with all sixteen mirror writes. -/
def Obligations.SetupStoreSetsRetentionAndLimit : Prop :=
  ∀ (s : State) (f : StoreFields), s.Awake → s.asks (.setupStore f) = true →
    let bad := Outside 0 1 f.retention
    let limit := inForce 0 16 s.setup.slotLimit f.slotLimit
    let busy := limit ≠ s.setup.slotLimit ∧ ∃ k, (s.frame k).state ≠ .free
    (bad → Yields (.setupStore f) s fun t => t.req.answer = some .badParam ∧ Keeps [.answer] s t)
    ∧ (¬bad → busy → Yields (.setupStore f) s fun t => t.req.answer = some .busy ∧ Keeps [.answer] s t)
    ∧ (¬bad → ¬busy → Yields (.setupStore f) s fun t =>
      (∀ v, f.retention = some v → some t.setup.retention = [Retention.safe, .ring][v.toNat]?)
        ∧ (f.retention = none → t.setup.retention = s.setup.retention) ∧ t.setup.slotLimit = limit
        ∧ t.setup.sensor = s.setup.sensor ∧ t.setup.exposure = s.setup.exposure ∧ t.setup.accepted = s.setup.accepted
        ∧ (limit ≠ s.setup.slotLimit → s.setup.accepted = true →
          IsLayout t.store.layout (s.setup.sensor.wa.getD 0) (s.setup.sensor.h.getD 0) s.setup.sensor.ob limit
            ∧ ∀ k, k ∈ t.store.mirrorDue ∧ k ∈ t.req.waits)
        ∧ (limit = s.setup.slotLimit ∨ s.setup.accepted = false →
          t.store.layout = s.store.layout ∧ (∀ k, k ∈ t.store.mirrorDue ↔ k ∈ s.store.mirrorDue) ∧ t.req.waits = [])
        ∧ t.store.nextId = s.store.nextId ∧ t.store.lodged = s.store.lodged
        ∧ (Outside 0 16 f.slotLimit → t.req.answer = some .clamped)
        ∧ (¬ Outside 0 16 f.slotLimit → t.req.answer = some .ok)
        ∧ Keeps [.setup, .store, .answer] s t)

/-- A dark threshold outside its two ranges, 0 and 100 to 3,600,000 (R198). -/
def Sys2Proof.Machine.BadThreshold (f : Option Word) : Prop :=
  ∃ v, f = some v ∧ v.toNat ≠ 0 ∧ (v.toNat < 100 ∨ 3600000 < v.toNat)

/-- A present clamping field of the exposure setup is outside its range (10 Table. Exposure setup parameters). -/
def Sys2Proof.Machine.ExposureOutside (f : ExposureFields) : Prop :=
  Outside 0 2000 f.closeQualify ∨ Outside 0 2000 f.openQualify ∨ Outside 0 4095 f.blankTime
    ∨ Outside 50 2000 f.syncTimeout ∨ Outside 0 50 f.closingTail ∨ Outside 1 100 f.falseStart
    ∨ Outside 5 100 f.pullIn ∨ Outside 1 16 f.holdDuty ∨ Outside 10 1000 f.holdLimit ∨ Outside 500 10000 f.openDeglitch
    ∨ BadThreshold f.darkThreshold ∨ Outside 0 8 f.darkTolerance ∨ Outside 0 4095 f.driftLimit
    ∨ Outside 1 1000 f.viewWait

/-- R196, R198: SETUP_EXPOSURE is refused only for a check before release, open-load response or auto dark that is none
of its values; otherwise, in every state, each present field is in force, clamped to its range, and nothing else
changes. -/
def Obligations.SetupExposureClampsItsFields : Prop :=
  ∀ (s : State) (f : ExposureFields), s.Awake → s.asks (.setupExposure f) = true →
    let bad := Outside 0 1 f.checkBefore ∨ Outside 0 1 f.openResponse ∨ Outside 0 1 f.autoDark
    let e := s.setup.exposure
    (bad → Yields (.setupExposure f) s fun t => t.req.answer = some .badParam ∧ Keeps [.answer] s t)
    ∧ (¬bad → Yields (.setupExposure f) s fun t =>
      t.setup = { s.setup with exposure := {
          closeQualify := inForce 0 2000 e.closeQualify f.closeQualify
          openQualify := inForce 0 2000 e.openQualify f.openQualify
          blankTime := inForce 0 4095 e.blankTime f.blankTime
          syncTimeout := inForce 50 2000 e.syncTimeout f.syncTimeout
          closingTail := inForce 0 50 e.closingTail f.closingTail
          falseStart := inForce 1 100 e.falseStart f.falseStart
          checkBefore := (f.checkBefore.map (· == 1)).getD e.checkBefore
          pullIn := inForce 5 100 e.pullIn f.pullIn
          holdDuty := inForce 1 16 e.holdDuty f.holdDuty
          holdLimit := inForce 10 1000 e.holdLimit f.holdLimit
          openResponse := (f.openResponse.map fun v => if v = 1 then .continue else .abort).getD e.openResponse
          openDeglitch := inForce 500 10000 e.openDeglitch f.openDeglitch
          autoDark := (f.autoDark.map (· == 1)).getD e.autoDark
          darkThreshold := (f.darkThreshold.map fun v =>
            if v = 0 then 0 else max 100 (min 3600000 v.toNat)).getD e.darkThreshold
          darkTolerance := inForce 0 8 e.darkTolerance f.darkTolerance
          driftLimit := inForce 0 4095 e.driftLimit f.driftLimit
          blackCeiling := inForce 0 65535 e.blackCeiling f.blackCeiling
          viewWait := inForce 1 1000 e.viewWait f.viewWait } }
        ∧ (ExposureOutside f → t.req.answer = some .clamped) ∧ (¬ ExposureOutside f → t.req.answer = some .ok)
        ∧ t.req.waits = [] ∧ Keeps [.setup, .answer] s t)

/-- R1: for every geometry in the ranges of chapter 10, the slot count lies in 9 to 16 when the slot limit is 0 and in 1
to 16 otherwise, and the slots lie inside the frame store region. -/
def Obligations.SlotCountLiesInItsRange : Prop :=
  ∀ wa h ob limit : Nat, 2048 ≤ wa → wa ≤ 12288 → 1536 ≤ h → h ≤ 9216 → ob ≤ 128 →
    let l := layoutOf wa h ob limit
    IsLayout l wa h ob limit ∧ (limit = 0 → 9 ≤ l.slotCount) ∧ 1 ≤ l.slotCount ∧ l.slotCount ≤ 16
      ∧ ∀ k, k < l.slotCount → 0x1000000 ≤ l.base k ∧ l.base k + l.slotSize ≤ 0x80000000

/-! ## Exposure sequencer and dark reference -/

/-- No OPEN view shows the frame, and no running card job writes it. -/
def Sys2Proof.Machine.NoUsers (s : State) (id : Word) : Prop :=
  (∀ v, ¬ ((s.view v).state = .open ∧ (s.view v).frame = some id))
    ∧ ∀ j, s.card.activeJob = some j → ¬ (j.kind = .writeFrame ∧ j.frame = id)

/-- An AUTO dark job is present. -/
def Sys2Proof.Machine.DarkIsPending (s : State) : Prop := ∃ j l, s.dark.job = some j ∧ j.light = some l

/-- The checks of R63, in their order. -/
def Sys2Proof.Machine.releaseChecks (s : State) (mode : Half) : List (Prop × ResultCode) :=
  [(1 < mode.toNat, .badParam), (s.seq.state = .unset, .notReady), (s.seq.state = .fault, .fault),
   (DarkIsPending s ∨ s.seq.state = .darkRun, .busyDark),
   ((s.seq.state ≠ .idle ∧ s.seq.state ≠ .armed) ∨ (s.driver.phase = .check ∧ s.driver.checkFor = none), .busy),
   (s.driver.faultShort = true, .fault), (s.driver.cable = .absent, .noCable), (s.driver.supplyLow = true, .lowSupply),
   (s.sync.qualified = true, .syncStuck), (∀ g j, ¬ InGroup s g j, .storeFull)]

/-- R62, R63: RELEASE is refused by the first check that applies, with nothing changed but STORE_FULL raised by the
last. Otherwise a LIGHT frame of origin RELEASE is allocated and the shot made with the exposure setup in force, its
bulb duration and trip delay clamped; with a trip delay the sequencer waits in DELAY, with none it has gone on to
prepare or to expose. -/
def Obligations.ReleaseStartsAShot : Prop :=
  ∀ (s : State) (mode : Half) (bulbMs delayMs : Word), s.Awake → s.DriveLocked →
    s.asks (.release mode bulbMs delayMs) = true →
    (∀ c, FirstOf (releaseChecks s mode) (some c) → Yields (.release mode bulbMs delayMs) s fun t =>
      t.req.answer = some c
        ∧ t.req.causes = (if c = .storeFull then s.req.causes ||| Cause.storeFull.bit else s.req.causes)
        ∧ Keeps [.answer, .causes] s t)
    ∧ (FirstOf (releaseChecks s mode) none → ∀ a k id m, (m = if mode = 1 then ShotMode.timedBulb else .syncWindow) →
      allocate .light .release (some m) s = (a, some (k, id)) → Yields (.release mode bulbMs delayMs) s fun t =>
        let bulb := max 10 (min 3600000 bulbMs.toNat)
        let delay := min 10000 delayMs.toNat
        t.req.answer = some (if (m = .timedBulb ∧ bulb ≠ bulbMs.toNat) ∨ delay ≠ delayMs.toNat then .clamped else .ok)
          ∧ k ∈ t.req.waits ∧ SameBut k a t ∧ t.store.nextId = a.store.nextId ∧ t.req.causes = a.req.causes
          ∧ (t.frame k).id = id ∧ (t.frame k).kind = .light ∧ (t.frame k).origin = .release
          ∧ (t.frame k).state = .exposing ∧ (t.frame k).shotMode = some m
          ∧ t.sync.target = some ⟨id, s.setup.exposure.closeQualify, s.setup.exposure.openQualify,
              s.setup.exposure.blankTime⟩
          ∧ t.sync.listening = false
          ∧ (delay = 0 → t.seq.state = .preparing ∨ t.seq.state = .waitSync)
          ∧ (0 < delay → t.seq.state = .delay ∧ t.frame k = a.frame k ∧ t.driver = s.driver ∧ t.sent = []
            ∧ t.seq.shot = some { newShot id k .light .release (some m) (bulb * 1000)
                (s.seq.state = .armed ∧ s.seq.stayArmed) s.setup.exposure 0 with delayTimer := some (delay * 1000) }
            ∧ t.seq.closingFlush = (if s.seq.state = .armed then s.seq.flushWait.isSome else s.seq.closingFlush)
            ∧ t.seq.flushWait = s.seq.flushWait)
          ∧ Keeps [.records, .store, .sync, .driver, .sequencer, .pins, .answer, .causes, .sent] s t)

/-- What the start of integration of a released shot does at one instant (R66, R45, R31). -/
def Sys2Proof.Machine.StartsReleased (h : Shot) (k : Fin 16) (s t : State) : Prop :=
  t.seq.state = .waitSync ∧ t.sent = [.sensorStart] ∧ t.seq.startWait = some 1000 ∧ t.seq.flushWait = none
    ∧ t.frame k = { s.frame k with release := some s.clock, integStart := some s.clock } ∧ SameBut k s t
    ∧ t.driver.phase = .pullIn ∧ t.driver.driveStart = s.clock ∧ t.driver.openEval = true
    ∧ t.driver.pullTimer = some (h.params.pullIn * 1000) ∧ t.driver.rampTimer = some 1000
    ∧ t.driver.bulbTimer = (if h.mode = some .timedBulb then some h.bulb else none)
    ∧ t.driver.params = some ⟨h.mode.getD .syncWindow, h.bulb, h.params.pullIn * 1000, h.params.holdDuty,
        h.params.holdLimit * 1000, h.params.openResponse, h.params.openDeglitch⟩
    ∧ t.sync.expect = .close
    ∧ (∀ g, s.sync.target = some g → 0 < g.blankTime → t.sync.blanking = some g.blankTime)
    ∧ (t.seq.shot.map fun g => (g.id, g.syncTimer, g.capTimer))
        = some (h.id, some (h.params.syncTimeout * 1000), some 3600000000)
    ∧ Keeps [.records, .sync, .driver, .sequencer, .pins, .sent] s t

/-- R64, R65: at the end of the trip delay a released shot enters PREPARING with the flush passes of the sensor setup.
With check before release the driver begins its check, or keeps it pending behind one that runs; without, the first pass
is issued, waits behind a closing flush, or, with no passes, integration starts. -/
def Obligations.TripDelayEndPreparesTheShot : Prop :=
  ∀ (s : State) (h : Shot) (k : Fin 16), s.Awake → s.DriveLocked → s.seq.state = .delay → s.seq.shot = some h →
    h.kind = .light → h.delayTimer = some 0 → s.find h.id = some k → Yields .tripDelayEnd s fun t =>
      let prepared := { h with passesLeft := s.setup.sensor.passes, checking := h.params.checkBefore, delayTimer := none }
      (h.params.checkBefore = true → t.seq.state = .preparing ∧ t.seq.shot = some prepared ∧ t.sent = []
        ∧ (s.driver.phase = .off → t.driver = { s.driver with
            phase := .check, checkTimer := some 2000, checkFor := some h.id })
        ∧ (s.driver.phase = .check → t.driver = { s.driver with pendingCheck := some h.id })
        ∧ Keeps [.sync, .driver, .sequencer] s t)
      ∧ (h.params.checkBefore = false → s.seq.closingFlush = true →
        t.seq.state = .preparing ∧ t.seq.shot = some prepared ∧ Keeps [.sync, .sequencer] s t)
      ∧ (h.params.checkBefore = false → s.seq.closingFlush = false → 0 < s.setup.sensor.passes →
        t.seq.state = .preparing ∧ t.seq.shot = some prepared ∧ t.sent = [.sensorFlush]
          ∧ t.seq.flushWait = some (s.setup.sensor.flushTimeout * 1000) ∧ Keeps [.sync, .sequencer, .sent] s t)
      ∧ (h.params.checkBefore = false → s.seq.closingFlush = false → s.setup.sensor.passes = 0 → StartsReleased h k s t)

/-- What the start of integration of a dark shot with a duration does (R81 step 3). -/
def Sys2Proof.Machine.StartsDark (h : Shot) (k : Fin 16) (s t : State) : Prop :=
  t.seq.state = .darkRun ∧ t.sent = [.sensorStart] ∧ t.seq.startWait = some 1000 ∧ t.seq.flushWait = none
    ∧ t.frame k = { s.frame k with integStart := some s.clock } ∧ SameBut k s t
    ∧ (t.seq.shot.map fun g => (g.id, g.darkTimer)) = some (h.id, some h.duration)
    ∧ Keeps [.records, .sync, .sequencer, .sent] s t

/-- R60, R61, R86: a flush-done that is awaited ends its pass. In ARMED the next pass of the loop is issued; in
PREPARING the next pass, or after the last one the start of integration; a closing flush is followed by the shot's own
passes; elsewhere the wait ends. A start-ack ends the wait for it. An end-ack that is awaited in READOUT hands the frame
to the readout unit, which expects row 0 with nothing stored and its row timer running. An answer that is not awaited is
ignored. -/
def Obligations.SensorAnswersAdvanceTheShot : Prop :=
  ∀ s : State, s.Awake → s.DriveLocked →
    (s.seq.flushWait = none → Yields .flushDone s (Keeps [] s))
    ∧ (s.seq.flushWait ≠ none → s.seq.state = .armed → Yields .flushDone s fun t =>
      t.sent = [.sensorFlush]
        ∧ t.seq = { s.seq with flushWait := some (s.setup.sensor.flushTimeout * 1000), closingFlush := false }
        ∧ Keeps [.sequencer, .sent] s t)
    ∧ (s.seq.flushWait ≠ none → s.seq.state ≠ .armed → s.seq.state ≠ .preparing → Yields .flushDone s fun t =>
      t.seq = { s.seq with flushWait := none, closingFlush := false } ∧ Keeps [.sequencer] s t)
    ∧ (∀ h, s.seq.flushWait ≠ none → s.seq.state = .preparing → s.seq.shot = some h → h.checking = true →
      Yields .flushDone s fun t =>
        t.seq = { s.seq with flushWait := none, closingFlush := false } ∧ Keeps [.sequencer] s t)
    ∧ (∀ h left, s.seq.flushWait ≠ none → s.seq.state = .preparing → s.seq.shot = some h → h.checking = false →
      left = (if s.seq.closingFlush then h.passesLeft else h.passesLeft - 1) → 0 < left → Yields .flushDone s fun t =>
        t.sent = [.sensorFlush] ∧ t.seq = { s.seq with
            flushWait := some (s.setup.sensor.flushTimeout * 1000), closingFlush := false
            shot := some { h with passesLeft := left } }
          ∧ Keeps [.sequencer, .sent] s t)
    ∧ (∀ h k left, s.seq.flushWait ≠ none → s.seq.state = .preparing → s.seq.shot = some h → h.checking = false →
      s.find h.id = some k → left = (if s.seq.closingFlush then h.passesLeft else h.passesLeft - 1) → left = 0 →
      Yields .flushDone s fun t =>
        (h.kind = .light → StartsReleased h k s t) ∧ (h.kind = .dark → 0 < h.duration → StartsDark h k s t))
    ∧ Yields .startAck s (fun t => t.seq = { s.seq with startWait := none } ∧ Keeps [.sequencer] s t)
    ∧ (s.seq.endWait = none → Yields .endAck s (Keeps [] s))
    ∧ (∀ h, s.seq.endWait ≠ none → s.seq.state = .readout → s.seq.shot = some h → Yields .endAck s fun t =>
      t.seq = { s.seq with endWait := none }
        ∧ (∃ f, t.readout = ⟨some f, 0, 0, 0, none, [], ⟨0, 0, 0, 0⟩, some (s.setup.sensor.rowTimeout * 1000), false,
            s.readout.history⟩
          ∧ f.id = h.id ∧ f.slot = h.slot ∧ f.kind = h.kind ∧ f.base = 0x1000000 + h.slot.val * s.store.layout.slotSize
          ∧ f.rowWidth = s.store.layout.rowWidth ∧ f.rows = s.height ∧ f.ob = s.setup.sensor.ob
          ∧ f.cfa = s.setup.sensor.cfa ∧ f.pedestal = s.setup.sensor.pedestal
          ∧ f.rowTimeout = s.setup.sensor.rowTimeout * 1000 ∧ f.blackCeiling = h.params.blackCeiling
          ∧ f.dark = ⟨h.params.autoDark, h.params.darkThreshold, h.params.darkTolerance, h.params.driftLimit⟩)
        ∧ Keeps [.sequencer, .readout] s t)

/-- The dark shot of record `k`, frame `id`, has failed otherwise than by a leak (R111): its job is gone, and the light
frame of an AUTO job is MISSING with DARK_MISSING. Where nothing else uses the dark, no other record changes. -/
def Sys2Proof.Machine.DarkFailed (id : Word) (k : Fin 16) (s t : State) : Prop :=
  t.dark.job = none
    ∧ (∀ j light l, s.dark.job = some j → j.light = some light → s.find light = some l →
      (t.frame l).darkState = .missing ∧ (t.frame l).awaitDark = false
        ∧ (t.frame l).flags = (s.frame l).flags ||| Flag.darkMissing.bit)
    ∧ (NoUsers s id → ∀ m, m ≠ k →
      (∀ j light, s.dark.job = some j → j.light = some light → s.find light ≠ some m) → t.frame m = s.frame m)

/-- R82, R111: a flush-done, start-ack or end-ack that has not arrived within its limit is a sensor fault: the frame in
flight is SPOILED SENSOR_FAULT with its integration end if it was integrating, the drive is off, SENSOR_FAULT is raised,
and the sequencer is in FAULT with no shot, no flush and no command awaiting an answer; no flush is issued. The job of a
dark shot ends, and the light frame of an AUTO job is MISSING. -/
def Obligations.SensorFaultSpoilsTheShot : Prop :=
  ∀ (s : State) (i : Instr), s.Awake →
    (i = .flushTimeout ∧ s.seq.flushWait = some 0
      ∨ i = .ackTimeout ∧ (s.seq.startWait = some 0 ∨ s.seq.endWait = some 0)) → Yields i s fun t =>
      t.seq.state = .fault ∧ t.seq.shot = none ∧ t.seq.closingFlush = false ∧ t.seq.flushWait = none
        ∧ t.seq.startWait = none ∧ t.seq.endWait = none ∧ t.seq.falseStarts = s.seq.falseStarts
        ∧ t.sync.listening = false ∧ t.driver.phase.driving = false
        ∧ t.req.causes.getLsbD Cause.sensorFault.position = true
        ∧ .sensorFlush ∉ t.sent
        ∧ (s.seq.shot = none → (∀ k, t.frame k = s.frame k)
          ∧ Keeps [.sequencer, .sync, .driver, .causes] s t)
        ∧ (∀ h k, s.seq.shot = some h → s.find h.id = some k →
          (s.frame k).state = .exposing ∨ (s.frame k).state = .readout →
            (t.frame k).state = .spoiled ∧ (t.frame k).spoil = some .sensorFault
              ∧ (t.frame k).integEnd = (if (s.frame k).state = .exposing ∧ (s.frame k).integStart ≠ none
                then some s.clock else (s.frame k).integEnd)
              ∧ t.sync.target = none ∧ t.sync.expect = .none
              ∧ (h.kind = .dark → DarkFailed h.id k s t
                ∧ Keeps [.records, .store, .sequencer, .sync, .driver, .darkUnit, .develop, .card, .path, .causes, .sent,
                    .dram] s t)
              ∧ (h.kind = .light → NoUsers s h.id → SameBut k s t
                ∧ Keeps [.records, .store, .sequencer, .sync, .driver, .causes] s t))

/-- What the end of integration into READOUT does at one instant (R72), with the flag that its cause adds. -/
def Sys2Proof.Machine.EndsIntegration (h : Shot) (k : Fin 16) (flag : Option Flag) (s t : State) : Prop :=
  t.frame k = { s.frame k with
      state := .readout, integEnd := some s.clock
      flags := (s.frame k).flags ||| (flag.map Flag.bit).getD 0 }
    ∧ SameBut k s t ∧ t.seq.state = .readout ∧ t.seq.shot = some h.stopped ∧ t.seq.endWait = some 1000
    ∧ t.seq.startWait = none ∧ t.seq.stayArmed = s.seq.stayArmed ∧ t.seq.closingFlush = s.seq.closingFlush
    ∧ t.seq.flushWait = s.seq.flushWait ∧ t.sent = [.sensorEnd]
    ∧ t.sync.target = none ∧ t.sync.expect = .none ∧ t.sync.listening = false
    ∧ t.driver.phase.driving = false ∧ (s.driver.phase.driving = false → t.driver = s.driver)
    ∧ t.driver.cable = s.driver.cable ∧ t.driver.faultShort = s.driver.faultShort
    ∧ t.driver.faultOpen = s.driver.faultOpen
    ∧ Keeps [.records, .sequencer, .sync, .driver, .sent] s t

/-- R67, R69, R71, R73, R81: the sync timeout in WAIT_SYNC, the open-wait in OPEN, the closing tail, the integration cap
in WAIT_SYNC, OPEN, TAIL and TRIPPED, and the dark duration each end the integration of the frame in flight into
READOUT, with the flag NO_SYNC, NO_SYNC_OPEN, none, TRUNCATED and none. That END_AND_TRANSFER, issued while START still
awaits its answer, ends that wait is the model's inference from R60 (log 18). -/
def Obligations.ExpiriesEndIntegration : Prop :=
  ∀ (s : State) (h : Shot) (k : Fin 16), s.Awake → s.DriveLocked → s.seq.shot = some h → s.find h.id = some k →
    (s.frame k).state = .exposing →
    (s.seq.state = .waitSync → h.syncTimer = some 0 → Yields .syncTimeout s (EndsIntegration h k (some .noSync) s))
    ∧ (s.seq.state = .open → h.openWait = some 0 → Yields .openWaitExpiry s (EndsIntegration h k (some .noSyncOpen) s))
    ∧ (s.seq.state = .tail → h.tailTimer = some 0 → Yields .tailEnd s (EndsIntegration h k none s))
    ∧ (s.seq.state = .waitSync ∨ s.seq.state = .open ∨ s.seq.state = .tail ∨ s.seq.state = .tripped →
      h.capTimer = some 0 → Yields .integrationCap s (EndsIntegration h k (some .truncated) s))
    ∧ (s.seq.state = .darkRun → h.darkTimer = some 0 → Yields .darkDurationEnd s (EndsIntegration h k none s))

/-- What a spoil by the sequencer leaves of a frame in flight (R7, R74): SPOILED with its reason, with its integration
end if it was integrating. -/
def Sys2Proof.Machine.SpoiledAs (reason : SpoilReason) (clock : Word) (f g : Frame) : Prop :=
  g.state = .spoiled ∧ g.spoil = some reason
    ∧ g.integEnd = (if f.state = .exposing ∧ f.integStart ≠ none then some clock else f.integEnd)
    ∧ g.id = f.id ∧ g.release = f.release ∧ g.integStart = f.integStart ∧ g.syncClose = f.syncClose
    ∧ g.syncOpen = f.syncOpen ∧ g.rowsStored = f.rowsStored ∧ g.keep = f.keep ∧ g.age = f.age

/-- R78, R74: the false-start window that expires in TRIPPED counts a false start, spoils the frame FALSE_START and leads
back to ARMED, trip listening on, with the closing flush as the first pass of the flush loop. -/
def Obligations.FalseStartReturnsToArmed : Prop :=
  ∀ (s : State) (h : Shot) (k : Fin 16), s.Awake → s.DriveLocked → s.seq.state = .tripped → s.seq.shot = some h →
    h.windowTimer = some 0 → s.find h.id = some k → (s.frame k).state = .exposing →
      Yields .falseStartWindowExpiry s fun t =>
        t.seq.state = .armed ∧ t.seq.shot = none ∧ t.seq.falseStarts = satInc 65535 s.seq.falseStarts
          ∧ t.seq.stayArmed = s.seq.stayArmed ∧ t.seq.closingFlush = false ∧ t.seq.startWait = none
          ∧ t.seq.flushWait = (if s.seq.flushWait = none then some (s.setup.sensor.flushTimeout * 1000) else s.seq.flushWait)
          ∧ (s.seq.flushWait = none → .sensorFlush ∈ t.sent)
          ∧ t.sync.target = none ∧ t.sync.expect = .none ∧ t.sync.listening = true ∧ t.sync.rearmed = true
          ∧ SpoiledAs .falseStart s.clock (s.frame k) (t.frame k)
          ∧ t.req.causes.getLsbD Cause.shotSpoiled.position = true
          ∧ (NoUsers s h.id → SameBut k s t ∧ t.driver = s.driver
            ∧ Keeps [.records, .store, .sequencer, .sync, .causes, .sent] s t)

/-- The checks of R75, in their order. -/
def Sys2Proof.Machine.armChecks (s : State) : List (Prop × ResultCode) :=
  [(s.seq.state = .unset, .notReady), (s.seq.state = .fault, .fault),
   (DarkIsPending s ∨ s.seq.state = .darkRun, .busyDark), (s.seq.state ≠ .idle, .busy),
   (s.sync.qualified = true, .syncStuck)]

/-- R75: ARM is refused by the first check that applies, with nothing changed; otherwise stay-armed is recorded, the
sequencer is ARMED with trip listening on, and the flush loop runs, a closing flush in progress being its first pass. -/
def Obligations.ArmStartsTheFlushLoop : Prop :=
  ∀ (s : State) (stay : Bool), s.Awake → s.DriveLocked → s.asks (.arm stay) = true →
    (∀ c, FirstOf (armChecks s) (some c) → Yields (.arm stay) s fun t => t.req.answer = some c ∧ Keeps [.answer] s t)
    ∧ (FirstOf (armChecks s) none → Yields (.arm stay) s fun t =>
      t.req.answer = some .ok ∧ t.sync = { s.sync with listening := true }
        ∧ t.seq = { s.seq with
            state := .armed, stayArmed := stay, closingFlush := false
            flushWait := if s.seq.flushWait = none then some (s.setup.sensor.flushTimeout * 1000) else s.seq.flushWait }
        ∧ t.sent = (if s.seq.flushWait = none then [.sensorFlush] else [])
        ∧ Keeps [.sequencer, .sync, .answer, .sent] s t)

/-- The next state of a cancelled shot: IDLE, with its frame SPOILED CANCELLED, the drive off, stay-armed clear and the
closing flush running (R74, R80): issued, or, by the model's choice (log 17), the pass in progress finished as it. The
job of a dark shot ends (R111). -/
def Sys2Proof.Machine.Cancelled (h : Shot) (k : Fin 16) (s t : State) : Prop :=
  t.req.answer = some .ok ∧ t.seq.state = .idle ∧ t.seq.shot = none ∧ t.seq.stayArmed = false
    ∧ t.seq.startWait = none ∧ t.seq.closingFlush = true
    ∧ t.seq.flushWait = (if s.seq.flushWait = none then some (s.setup.sensor.flushTimeout * 1000) else s.seq.flushWait)
    ∧ t.driver.phase.driving = false ∧ t.sync.target = none ∧ t.sync.expect = .none ∧ t.sync.listening = false
    ∧ SpoiledAs .cancelled s.clock (s.frame k) (t.frame k)
    ∧ t.req.causes.getLsbD Cause.shotSpoiled.position = true
    ∧ (h.kind = .light → NoUsers s h.id → SameBut k s t
      ∧ Keeps [.records, .store, .sequencer, .sync, .driver, .causes, .answer, .sent] s t)
    ∧ (s.seq.flushWait = none → .sensorFlush ∈ t.sent)
    ∧ (h.kind = .dark → DarkFailed h.id k s t
      ∧ Keeps [.records, .store, .sequencer, .sync, .driver, .darkUnit, .develop, .card, .path, .causes, .answer, .sent,
          .dram] s t)

/-- What DISARM does in ARMED, and CANCEL with it (R76). -/
def Sys2Proof.Machine.Disarmed (s t : State) : Prop :=
  t.req.answer = some .ok ∧ t.sync = { s.sync with listening := false, rearmed := false }
    ∧ t.seq = { s.seq with
        state := .idle, stayArmed := false, refusedTrip := none, closingFlush := s.seq.flushWait.isSome }
    ∧ Keeps [.sequencer, .sync, .answer] s t

/-- R76, R80, R111: DISARM leaves ARMED, and spoils a TRIPPED shot CANCELLED; CANCEL does so in ARMED and in every shot
state but READOUT, where it is BUSY, as DISARM is in every other shot state. In IDLE both answer OK, in UNSET NOT_READY,
in FAULT FAULT, and change nothing. A cancelled dark ends its job, its light frame MISSING. That a FLUSH already
awaiting its answer is finished as the closing flush, with no new one issued, is the model's choice (log 17). -/
def Obligations.DisarmAndCancelByState : Prop :=
  ∀ s : State, s.Awake → s.DriveLocked →
    (s.asks .disarm = true →
      (s.seq.state = .armed → Yields .disarm s (Disarmed s))
      ∧ (∀ h k, s.seq.state = .tripped → s.seq.shot = some h → s.find h.id = some k → (s.frame k).state = .exposing →
        h.kind = .light → Yields .disarm s (Cancelled h k s))
      ∧ (∀ c, s.seq.state = .idle ∧ c = .ok ∨ s.seq.state = .unset ∧ c = .notReady ∨ s.seq.state = .fault ∧ c = .fault
          ∨ s.seq.state ∈ [.delay, .preparing, .waitSync, .open, .tail, .darkRun, .readout] ∧ c = .busy →
        Yields .disarm s fun t => t.req.answer = some c ∧ Keeps [.answer] s t))
    ∧ (s.asks .cancel = true →
      (s.seq.state = .armed → Yields .cancel s (Disarmed s))
      ∧ (∀ h k, s.seq.state ∈ [.delay, .preparing, .waitSync, .open, .tail, .tripped, .darkRun] → s.seq.shot = some h →
        s.find h.id = some k → (s.frame k).state = .exposing → Yields .cancel s (Cancelled h k s))
      ∧ (∀ c, s.seq.state = .idle ∧ c = .ok ∨ s.seq.state = .unset ∧ c = .notReady ∨ s.seq.state = .fault ∧ c = .fault
          ∨ s.seq.state = .readout ∧ c = .busy →
        Yields .cancel s fun t => t.req.answer = some c ∧ Keeps [.answer] s t))

/-- The checks of R113, in their order. -/
def Sys2Proof.Machine.takeDarkChecks (s : State) : List (Prop × ResultCode) :=
  [(s.seq.state = .unset, .notReady), (s.seq.state = .fault, .fault),
   (s.dark.job ≠ none ∨ s.seq.state ≠ .idle, .busy), (∀ g j, ¬ InGroup s g j, .storeFull)]

/-- R112, R113, R81: TAKE_DARK is refused by the first check that applies, with nothing changed but STORE_FULL raised by
the last. Otherwise a DARK frame of origin TAKEN_DARK is allocated, the TAKEN job made with the clamped duration, and
the dark shot, returning to IDLE, prepares: behind a closing flush, with its first pass, or with no passes in DARK_RUN.
-/
def Obligations.TakeDarkOrdersADarkShot : Prop :=
  ∀ (s : State) (duration : Word), s.Awake → s.DriveLocked → s.store.nextId ≠ 0 →
    s.asks (.takeDark duration) = true →
    (∀ c, FirstOf (takeDarkChecks s) (some c) → Yields (.takeDark duration) s fun t =>
      t.req.answer = some c
        ∧ t.req.causes = (if c = .storeFull then s.req.causes ||| Cause.storeFull.bit else s.req.causes)
        ∧ Keeps [.answer, .causes] s t)
    ∧ (FirstOf (takeDarkChecks s) none → ∀ a k id, allocate .dark .takenDark none s = (a, some (k, id)) →
      Yields (.takeDark duration) s fun t =>
        let time := max 1000 (min 3600000000 duration.toNat)
        t.req.answer = some (if time = duration.toNat then .ok else .clamped) ∧ k ∈ t.req.waits
          ∧ t.dark.job = some ⟨none, time, id, 0⟩ ∧ SameBut k a t ∧ t.store.nextId = a.store.nextId
          ∧ t.req.causes = a.req.causes ∧ (t.frame k).id = id ∧ (t.frame k).kind = .dark
          ∧ (t.frame k).origin = .takenDark ∧ (t.frame k).state = .exposing
          ∧ (t.seq.shot.map fun h => (h.id, h.kind, h.returnArmed, h.duration, h.params))
              = some (id, .dark, false, time, s.setup.exposure)
          ∧ (s.seq.closingFlush = true → t.seq.state = .preparing ∧ t.sent = [])
          ∧ (s.seq.closingFlush = false → 0 < s.setup.sensor.passes → t.seq.state = .preparing ∧ t.sent = [.sensorFlush])
          ∧ (s.seq.closingFlush = false → s.setup.sensor.passes = 0 → t.seq.state = .darkRun
            ∧ t.sent = [.sensorStart] ∧ (t.frame k).integStart = some s.clock)
          ∧ t.driver = s.driver
          ∧ Keeps [.records, .store, .sync, .sequencer, .darkUnit, .answer, .causes, .sent] s t)

/-- The integration time of a record in microseconds, if it has one (R8). -/
def Sys2Proof.Machine.integrationOf (f : Frame) (t : Nat) : Prop :=
  ∃ a b, f.integStart = some a ∧ f.integEnd = some b ∧ t = (b - a).toNat

/-- A stored dark matches a light frame by R105. -/
def Sys2Proof.Machine.Matches (p : DarkParams) (dark light : Frame) : Prop :=
  dark.state = .complete ∧ dark.kind = .dark
    ∧ (∃ td tl, integrationOf dark td ∧ integrationOf light tl ∧ ((td : Int) - tl).natAbs * 8 ≤ p.tolerance * tl)
    ∧ ∃ d l, dark.blacks = some d ∧ light.blacks = some l
      ∧ ∀ c, ((d.level.get c : Int) - l.level.get c).natAbs ≤ p.driftLimit

/-- R105, R106: the reuse search finds a dark if and only if one matches, and of those that match one with the smallest
difference of integration times, the most recently completed among equals. -/
def Obligations.ReuseSearchFindsTheBestMatch : Prop :=
  ∀ (s : State) (p : DarkParams) (k : Fin 16) (tl : Nat), integrationOf (s.frame k) tl →
    (s.reuse p k = none ↔ ∀ j, ¬ Matches p (s.frame j) (s.frame k))
    ∧ (∀ j, s.reuse p k = some j → Matches p (s.frame j) (s.frame k)
      ∧ ∀ i td te, Matches p (s.frame i) (s.frame k) → integrationOf (s.frame j) td → integrationOf (s.frame i) te →
        ((td : Int) - tl).natAbs < ((te : Int) - tl).natAbs
          ∨ (((td : Int) - tl).natAbs = ((te : Int) - tl).natAbs ∧ (s.frame i).age ≤ (s.frame j).age))


/-! ## Steps, resets and invariants of the whole machine -/

/-- A step takes the command at the front of the queue and runs it with the rest of the queue. -/
def Obligations.StepTakesTheFrontCommand : Prop :=
  ∀ (s : State) (c : Instr) (rest : List Instr), step { s with pending := c :: rest } = exec c { s with pending := rest }

/-- A running timer with one microsecond less to run. -/
def Sys2Proof.Machine.Timer.runDown (t : Timer) : Timer := t.map (· - 1)

/-- R26, R29, R32, R49, R52: on an empty queue one microsecond passes. The shot clock advances, each running timer has
one less to run, a run's counted time grows outside blanking while the raw level stays at the run's, and while drive
current flows the short timer, the open-load timer and the cable state follow it. A handoff on its way that does not
arrive now has one microsecond less to go (log 23). Nothing else changes. The model's choices: the step without a
command (log 1), and the cable becoming PRESENT in a PULL_IN that has latched OPEN (log 54). -/
def Obligations.IdleStepIsOneMicrosecond : Prop :=
  ∀ s : State, s.pending = [] → s.Awake → (∀ h ∈ s.handoffs, 1 < h.lag) → ∃ t, step s = .next t
    ∧ t.handoffs = s.handoffs.map (fun h => { h with lag := h.lag - 1 }) ∧ t.lags = s.lags
    ∧ t.clock = s.clock + 1 ∧ t.inReset = false
    ∧ t.seq = { s.seq with
        flushWait := s.seq.flushWait.runDown, startWait := s.seq.startWait.runDown, endWait := s.seq.endWait.runDown
        shot := s.seq.shot.map fun h => { h with
          delayTimer := h.delayTimer.runDown, syncTimer := h.syncTimer.runDown, capTimer := h.capTimer.runDown
          openWait := h.openWait.runDown, tailTimer := h.tailTimer.runDown, windowTimer := h.windowTimer.runDown
          darkTimer := h.darkTimer.runDown } }
    ∧ t.sync = { s.sync with
        rearmed := false, blanking := s.sync.blanking.runDown
        run := s.sync.run.map fun r => { r with
          counted := if s.sync.blanking = none ∧ s.pins.syncClosed = r.closing then r.counted + 1 else r.counted } }
    ∧ t.driver = { s.driver with
        cable := if s.driveFlows = true ∧ 50000 ≤ s.pins.sense then .present else s.driver.cable
        shortTimer := if s.driveFlows = false then s.driver.shortTimer
          else if 3000000 < s.pins.sense then satInc 10 s.driver.shortTimer else 0
        openTimer := if s.driveFlows = true ∧ s.driver.openEval = true ∧ s.driver.rampTimer = none then
            (if s.pins.sense < 50000 then satInc 10000 s.driver.openTimer else 0)
          else s.driver.openTimer
        checkTimer := s.driver.checkTimer.runDown, pullTimer := s.driver.pullTimer.runDown
        holdTimer := s.driver.holdTimer.runDown, bulbTimer := s.driver.bulbTimer.runDown
        rampTimer := s.driver.rampTimer.runDown, chopTimer := s.driver.chopTimer.runDown
        supplyFilter := s.driver.supplyFilter.runDown }
    ∧ t.readout = { s.readout with rowTimer := s.readout.rowTimer.runDown }
    ∧ t.card = { s.card with
        debounce := s.card.debounce.runDown, initLimit := s.card.initLimit.runDown
        transfer := s.card.transfer.map fun x => { x with limit := x.limit.runDown } }
    ∧ (∀ sv w, s.develop.service = some sv → sv.cond = .held w →
      t.develop = { s.develop with service := some { sv with cond := .held w.runDown } })
    ∧ ((∀ sv, s.develop.service = some sv → sv.cond = .computing) → t.develop = s.develop)
    ∧ Keeps [.clock, .sequencer, .sync, .driver, .readout, .card, .develop, .handoffs] s t

/-- The step on an empty queue in which the one handoff on its way arrives answers a next state with a property, in
which the handoffs that it leads to are on their way. -/
def Sys2Proof.Machine.ArrivesLeaving (left : List Handoff) (m : Message) (s : State) (P : State → Prop) : Prop :=
  s.pending = [] → s.handoffs = [⟨m, 1⟩] → ∃ t, step s = .next t ∧ t.handoffs = left ∧ t.clock = s.clock + 1
    ∧ t.inReset = false ∧ t.pending = [] ∧ P t

/-- The same with no handoff left on its way. -/
def Sys2Proof.Machine.Arrives : Message → State → (State → Prop) → Prop := ArrivesLeaving []

/-- The levels of the outside lines after a command, each line's own command being the one that changes it. -/
def Sys2Proof.Machine.linesAfter (i : Instr) (p : Pins) : Pins :=
  match i with
  | .syncRawEdge closed => { p with syncClosed := closed }
  | .detectLineChange cardIn protect => { p with detectIn := cardIn, wprot := protect }
  | .supplyComparatorChange low => { p with supplyLow := low }
  | .currentSenseChange current => { p with sense := current }
  | _ => p

/-- R209, R24, R39, R54, R142, R145, R166, R189, R202: power-on reset puts every block in its power-on state and leaves
DRAM. At its end the shot clock begins at 0, the contact and the detect line are sampled for the first time, and the
mirrors and the status page are written, each with its change count at 1; a supply that is then low is filtered from
that moment. The model's choices: while it is applied an outside line may take a new level and nothing else but its end
has an effect (log 31); the pages are written within the step of the reset's end (log 48); the values that the manual
states for no reset are those of log 12. -/
def Obligations.PowerOnResetAndItsEnd : Prop :=
  ∀ (r : State) (contact cardIn : Bool), ∃ p, exec .powerOnReset r = .next p
    ∧ p = { State.reset with inReset := true, pins := r.pins, lags := r.lags, dram := r.dram, pending := r.pending }
    ∧ (∀ (pins : Pins) i t, i ≠ .powerOnReset → (∀ a b, i ≠ .resetEnd a b) →
      exec i { p with pins := pins } = .next t → t = { p with pins := linesAfter i pins })
    ∧ (∀ pins : Pins, r.dram.wf = true → Yields (.resetEnd contact cardIn) { p with pins := pins } fun t =>
      t.clock = 0 ∧ t.inReset = false ∧ t.pins = { pins with syncClosed := contact, detectIn := cardIn }
        ∧ t.sync = { State.reset.sync with run := if contact then some ⟨true, 0, 0, 200⟩ else none }
        ∧ t.driver = { State.reset.driver with supplyFilter := if pins.supplyLow then some 100 else none }
        ∧ t.card = { State.reset.card with
            debounce := if cardIn then some 25000 else none, pageCount := 1, mirrorDue := false }
        ∧ (∀ k, t.frame k = Frame.free 1) ∧ t.store.mirrorDue = [] ∧ t.req = { State.reset.req with
            pageCount := 1, statusDue := false }
        ∧ (∀ k : Fin 16, t.dram.readBytes (0x3000 + k.val * 128) 128
            = leBytes 4 1 ++ (Frame.free 0).entryBody k.val 0 ++ leBytes 4 1)
        ∧ t.dram.readBytes 0x2000 4 = leBytes 4 1 ∧ t.dram.readBytes 0x2FFC 4 = leBytes 4 1
        ∧ t.dram.readBytes 0x4000 1036 = List.replicate 1024 0 ++ leBytes 4 1 ++ leBytes 4 0 ++ leBytes 4 1
        ∧ (∀ a, (a < 0x2000 ∨ 0x440C ≤ a) → t.dram.read a = r.dram.read a)
        ∧ t.path.Idle ∧ t.pending = r.pending
        ∧ Keeps [.clock, .pins, .records, .sync, .driver, .card, .path, .counts, .dram, .pending, .due] State.reset t)

/-- How many of a view's two pins are on record `j`. -/
def Sys2Proof.Machine.pinsOn (s : State) (frame dark : Option Word) (j : Fin 16) : Nat :=
  (if frame.bind s.find = some j then 1 else 0) + if dark.bind s.find = some j then 1 else 0

/-- The pins that the OPEN views which `which` names hold on record `k` (R11). -/
def Sys2Proof.Machine.openPins (s : State) (which : View → Bool) (k : Fin 16) : Nat :=
  (viewIndices.map fun v =>
    if (s.view v).state = .open ∧ which (s.view v) = true then pinsOn s (s.view v).frame (s.view v).dark k else 0).sum

/-- A sector of the open transfer is in progress: SENDING, AWAITING_TOKEN, BUSY or RECEIVING (R160). -/
def Sys2Proof.Machine.State.sectorRuns (s : State) : Bool :=
  s.card.transfer.any fun x => [SectorCond.sending, .awaitingToken, .busy, .receiving].contains x.cond

/-- A WRITE_FRAME job on record `k` that RESTART ends at once: a queued one, or an active one with no sector in progress
(R167). -/
def Sys2Proof.Machine.State.restartEnds (s : State) (k : Fin 16) (j : Job) : Bool :=
  j.kind == .writeFrame && s.find j.frame == some k && !(j.active && s.sectorRuns)

/-- What RESTART leaves of record `k` (R25): its state changes only if it is in flight; the light frame of an AUTO job
becomes MISSING; the pins of OPEN views and of the jobs that end at once are released; everything else stays. -/
def Sys2Proof.Machine.Restarted (s : State) (k : Fin 16) (g : Frame) : Prop :=
  let f := s.frame k
  let lost := ∃ j light, s.dark.job = some j ∧ j.light = some light ∧ s.find light = some k
  g.id = f.id ∧ g.kind = f.kind ∧ g.origin = f.origin ∧ g.shotMode = f.shotMode ∧ g.release = f.release
    ∧ g.integStart = f.integStart ∧ g.syncClose = f.syncClose ∧ g.syncOpen = f.syncOpen ∧ g.integEnd = f.integEnd
    ∧ g.bounce = f.bounce ∧ g.blacks = f.blacks ∧ g.darkUsers = f.darkUsers ∧ g.keep = f.keep ∧ g.settled = f.settled
    ∧ g.age = f.age ∧ g.changeCount = f.changeCount
    ∧ (f.inFlight = false → g.state = f.state ∧ g.spoil = f.spoil)
    ∧ ((∀ r, s.readout.frame = some r → s.find r.id ≠ some k) →
      g.rowsStored = f.rowsStored ∧ g.badRows = f.badRows ∧ g.firstBad = f.firstBad)
    ∧ (¬lost → g.darkState = f.darkState ∧ g.awaitDark = f.awaitDark ∧ g.flags = f.flags)
    ∧ (lost → g.darkState = .missing ∧ g.awaitDark = false ∧ g.flags = f.flags ||| Flag.darkMissing.bit)
    ∧ g.viewPins = f.viewPins - openPins s (fun _ => true) k
    ∧ ((∀ j ∈ s.card.jobs.tail, j.active = false) →
      g.cardPins = f.cardPins - (s.card.jobs.filter (s.restartEnds k)).length)

/-- R187 with R25, R39, R57, R84, R101, R115, R143, R167, R168: RESTART is accepted in every state. The drive is off,
faults and cable state stay; the sequencer is IDLE, or UNSET without an accepted sensor setup, with its false-start
count; a trip edge that awaits its answer is gone; the frame in flight is SPOILED RESTART; every view is closed, an
aperture read in service completes and a pass-through read goes on as it was; the queue is RUNNING with at most its
active job, its mirror to be written before the answer; the readout unit is IDLE; no dark job is left and its light
frame is MISSING. With no frame in flight the cause set is empty. Of every record, the id, the keep and settled marks,
the age rank and all that no block changes on its way to idle stay, and pins are released as views and jobs end. Setup
records, outside lines, post counts and mask stay. That the operands say in which order the spoil reaches the views and
the card is the model's choice (log 9). -/
def Obligations.RestartStopsEveryBlock : Prop :=
  ∀ (s : State) (a b : Bool), s.Awake → s.asks (.restart a b) = true → Yields (.restart a b) s fun t =>
    t.req.answer = some .ok
      ∧ t.seq = ⟨if s.setup.accepted then .idle else .unset, false, none, false, none, s.seq.falseStarts, none, none, none⟩
      ∧ t.sync.target = none ∧ t.sync.expect = .none ∧ t.sync.listening = false ∧ t.sync.qualified = s.sync.qualified
      ∧ t.sync.run = s.sync.run ∧ t.sync.missed = s.sync.missed ∧ t.sync.missedCount = s.sync.missedCount
      ∧ (s.driver.phase.driving = false → t.sync.blanking = s.sync.blanking)
      ∧ t.driver.phase = .off ∧ t.driver.checkTimer = none ∧ t.driver.pendingCheck = none ∧ t.driver.params = none
      ∧ t.driver.openEval = false ∧ t.driver.cable = s.driver.cable ∧ t.driver.faultShort = s.driver.faultShort
      ∧ t.driver.faultOpen = s.driver.faultOpen
      ∧ (∀ k, (s.frame k).inFlight = true → (∀ j, j ≠ k → (s.frame j).inFlight = false) →
        (t.frame k).state = .spoiled ∧ (t.frame k).spoil = some .restart
          ∧ t.req.causes.getLsbD Cause.shotSpoiled.position = true)
      ∧ ((∀ k, (s.frame k).inFlight = false) → t.req.causes = 0)
      ∧ (∀ k, Restarted s k (t.frame k)) ∧ Awaits s t
      ∧ t.handoffs = s.handoffs.filter (fun h => match h.message with
          | .tripEdge _ _ _ => false
          | _ => true)
      ∧ t.lags = s.lags ∧ t.card.mirrorDue = true ∧ t.req.waitsQueue = true
      ∧ (∀ v, (t.view v).state = .closed ∧ (t.view v).late = (s.view v).late ∧ (t.view v).form = (s.view v).form)
      ∧ (s.develop.service = none → t.develop.service = none)
      ∧ (∀ sv, s.develop.service = some sv →
        let aperture := ∃ a, sv.addr ≤ a ∧ a < sv.addr + sv.len ∧ 0x80000000 ≤ a
        (aperture → s.path.port = [] → t.develop.service = none)
          ∧ (¬ aperture → t.develop.service = some sv ∧ t.path.port = s.path.port))
      ∧ t.card.halted = false ∧ (∀ j ∈ t.card.jobs, j.active = true) ∧ t.card.state = s.card.state
      ∧ t.card.capacity = s.card.capacity
      ∧ t.readout.frame = none ∧ (s.readout.frame ≠ none → t.readout.rowTimer = none) ∧ t.readout.history = s.readout.history
      ∧ t.dark.job = none
      ∧ (∀ j light k, s.dark.job = some j → j.light = some light → s.find light = some k →
        (t.frame k).darkState = .missing ∧ (t.frame k).awaitDark = false
          ∧ hasFlag (t.frame k).flags .darkMissing = true)
      ∧ t.store.layout = s.store.layout ∧ t.store.nextId = s.store.nextId
      ∧ Keeps [.records, .store, .sync, .driver, .sequencer, .readout, .darkUnit, .develop, .card, .path, .answer,
          .causes, .dram, .sent, .handoffs] s t

/-- The memory has its canonical form, transactions wait only behind a read (R171), P runs at most 16 ahead of C and a
request in hand is one of those posted (R176, R177), no frame id to give is 0 (R4), and the bounded lists keep their
bounds (R98, R154, R164). -/
def Sys2Proof.Machine.State.Sound (s : State) : Prop :=
  s.dram.wf = true ∧ s.PortServed ∧ s.PostsInRange ∧ s.store.nextId ≠ 0 ∧ s.ListsBounded

/-- Every step keeps the canonical form of DRAM, the order at the processor port, the distance of P from C, a frame id
counter other than 0, and the bounds of the card queue, the completion list and the black history; and every step keeps
trip listening off outside ARMED (R59, R77). -/
def Obligations.EveryStepKeepsTheStateSound : Prop :=
  (∀ (s t : State), s.Sound → step s = .next t → t.Sound)
    ∧ ∀ (s t : State), s.ListensInArmed → step s = .next t → t.ListensInArmed

/-- R48: every step keeps the output lock. A drive is on only under the drive permission, which is on exactly in
WAIT_SYNC and OPEN of a shot whose origin is RELEASE; drive current flows only then, and only while no SHORT is latched.
-/
def Obligations.EveryStepKeepsTheDriveLocked : Prop :=
  (∀ s : State, s.permission = true
      ↔ (s.seq.state = .waitSync ∨ s.seq.state = .open) ∧ ∃ h, s.seq.shot = some h ∧ h.origin = .release)
    ∧ (∀ s : State, s.driveFlows = true → s.permission = true ∧ s.driver.faultShort = false)
    ∧ ∀ (s t : State), s.DriveLocked → step s = .next t → t.DriveLocked

/-- An address of the status page, of a mirror or of an aperture. -/
def Sys2Proof.Machine.OwnPage (a : Nat) : Prop := (0x2000 ≤ a ∧ a < 0x5000) ∨ 0x80000000 ≤ a

/-- No write of the processor that has been taken holds a byte of the part's own pages. -/
def Sys2Proof.Machine.State.Fenced (s : State) : Prop :=
  (∀ cells, .write cells ∈ s.path.processor.waiting → ∀ c ∈ cells, ¬ OwnPage c.1)
    ∧ ∀ w, .write w ∈ s.path.port → ∀ c ∈ w.cells, ¬ OwnPage c.1

/-- R169, R170: no processor write that any step takes reaches the status page or a mirror: the writes that wait hold
none of their bytes, and a burst of pass-through that is granted leaves them as they were. -/
def Obligations.NoProcessorWriteReachesThePartsPages : Prop :=
  (∀ (s t : State), s.Fenced → step s = .next t → t.Fenced)
    ∧ ∀ (s : State) (b : Burst) (rest : List Burst), s.Fenced → s.Awake → s.dram.wf = true →
      s.path.readout.waiting = [] → s.path.rotation = .processor → s.path.processor.waiting = b :: rest →
      Yields .arbiterGrant s fun t => t.path.processor.waiting = rest ∧ ∀ a, OwnPage a → t.dram.read a = s.dram.read a

/-- Power-on reset leaves a state that every invariant above holds of: the line, the drive lock, the fence, the
soundness of the state, trip listening and the record table (R4, R5, R6, R11, R13). -/
def Obligations.InvariantsHoldAtReset : Prop :=
  State.reset.LineFollows ∧ State.reset.Sound ∧ State.reset.DriveLocked ∧ State.reset.Fenced
    ∧ State.reset.Tabled ∧ State.reset.ListensInArmed

/-! ## Sync input -/

/-- The qualify time of a run that begins now (R28, R34). -/
def Sys2Proof.Machine.qualifyIn (s : State) (closing : Bool) : Nat :=
  (s.sync.target.map fun g => if closing then g.closeQualify else g.openQualify).getD
    (if closing then s.setup.exposure.closeQualify else s.setup.exposure.openQualify)

/-- The sequencer makes nothing of a close start now: it is no trip edge, and no false-start window can run (R77, R78). -/
def Sys2Proof.Machine.OrdinaryStart (s : State) : Prop :=
  (s.seq.state ≠ .armed ∧ s.seq.state ≠ .tripped)
    ∨ (s.seq.state = .armed ∧ (s.sync.listening = false ∨ s.sync.rearmed = true))

/-- What the abandonment of a closing run does beside ending it (R30, R77, R78): the bounce of the target's frame is
counted, a TRIPPED shot has its false-start window, and a refused trip edge with the run's timestamp is cleared. -/
def Sys2Proof.Machine.AbandonsClose (r : Run) (s t : State) : Prop :=
  (∀ g k, s.sync.target = some g → s.find g.id = some k →
    t.frame k = { s.frame k with bounce := satInc 255 (s.frame k).bounce } ∧ SameBut k s t)
    ∧ ((∀ g, s.sync.target = some g → s.find g.id = none) → ∀ k, t.frame k = s.frame k)
    ∧ t.seq = (if s.seq.state = .tripped then { s.seq with
          shot := s.seq.shot.map fun h => { h with
            windowTimer := some (h.windowTimer.getD (h.params.falseStart * 1000)) } }
        else if s.seq.state = .armed ∧ s.seq.refusedTrip = some r.edge then { s.seq with refusedTrip := none }
        else s.seq)

/-- The next state holds the armed trip of a trip edge taken now (R77): `a` and `cap` are its allocation and its
integration cap, `e` the exposure setup in force at the edge, whose values the frame takes (R37, R199). -/
def Sys2Proof.Machine.Tripped (a : State) (k : Fin 16) (id edge : Word) (e : Exposure) (abandoned : Bool) (cap : Nat)
    (s t : State) : Prop :=
  t.frame k = { a.frame k with integStart := some edge, bounce := if abandoned then 1 else 0 } ∧ SameBut k a t
    ∧ t.store.nextId = a.store.nextId ∧ t.req.causes = a.req.causes ∧ t.sent = [.sensorStart]
    ∧ t.seq.state = .tripped ∧ t.seq.closingFlush = false ∧ t.seq.refusedTrip = none ∧ t.seq.flushWait = none
    ∧ t.seq.startWait = some 1000 ∧ t.seq.stayArmed = s.seq.stayArmed ∧ t.seq.falseStarts = s.seq.falseStarts
    ∧ t.seq.shot = some { newShot id k .light .tripped none 0 s.seq.stayArmed e 0 with
        capTimer := some cap, windowTimer := if abandoned then some (e.falseStart * 1000) else none }
    ∧ t.sync.target = some ⟨id, e.closeQualify, e.openQualify, e.blankTime⟩ ∧ t.sync.expect = .close
    ∧ t.sync.listening = false

/-- R28, R30, R32, R33: a sample that differs from the one before is a raw edge. During blanking it is not taken. Away
from the qualified state it begins a run dated by the shot clock; back to the qualified state it abandons the run in
progress. In TRIPPED a close start stops the false-start window. When the blanking timer expires the contact is sampled:
a suspended run goes on if the sample still differs from the qualified state and is abandoned otherwise; without a run,
a sample that differs marks the target's frame BLANKED_EDGE and begins a run dated at that moment, whose close start
stops the window in TRIPPED and with trip listening on is a trip edge (R37, R77, R78): it starts a TRIPPED frame, or is
a missed shot EARLY with no slot, or is on its way for a time that is a free value of the model (log 23). That a close
start of the moment of a false start is no trip edge is the model's reading of R78 (log 37). A run whose trip edge
awaits its answer (R37) is abandoned as TripEdgeStartsAnArmedTrip says, which has the trip edges of raw edges. -/
def Obligations.EdgesAndBlankingMakeRuns : Prop :=
  ∀ s : State, s.Awake → s.ListensInArmed →
    (∀ closed : Bool,
      let pins := { s.pins with syncClosed := closed }
      let started := some (⟨closed, s.clock, 0, qualifyIn s closed⟩ : Run)
      (closed = s.pins.syncClosed → Yields (.syncRawEdge closed) s (Keeps [] s))
      ∧ (closed ≠ s.pins.syncClosed → s.sync.blanking ≠ none → Yields (.syncRawEdge closed) s fun t =>
        t.pins = pins ∧ Keeps [.pins] s t)
      ∧ (closed ≠ s.pins.syncClosed → s.sync.blanking = none → s.sync.run = none → closed ≠ s.sync.qualified →
        closed = false ∨ OrdinaryStart s → Yields (.syncRawEdge closed) s fun t =>
          t.pins = pins ∧ t.sync = { s.sync with run := started } ∧ Keeps [.pins, .sync] s t)
      ∧ (∀ h, closed ≠ s.pins.syncClosed → s.sync.blanking = none → s.sync.run = none → s.sync.qualified = false →
        closed = true → s.seq.state = .tripped → s.seq.shot = some h →
        Yields (.syncRawEdge closed) s fun t =>
          t.pins = pins ∧ t.sync = { s.sync with run := started }
            ∧ t.seq = { s.seq with shot := some { h with windowTimer := none } } ∧ Keeps [.pins, .sync, .sequencer] s t)
      ∧ (∀ r, closed ≠ s.pins.syncClosed → s.sync.blanking = none → s.sync.run = some r → closed = s.sync.qualified →
        Yields (.syncRawEdge closed) s fun t =>
          t.pins = pins ∧ t.sync = { s.sync with run := none }
            ∧ (r.closing = true → s.tripAwaited r.edge = false →
              AbandonsClose r s t ∧ Keeps [.pins, .sync, .records, .sequencer] s t)
            ∧ (r.closing = false → Keeps [.pins, .sync] s t)))
    ∧ (s.sync.blanking = some 0 →
      let differs := s.pins.syncClosed ≠ s.sync.qualified
      let started := some (⟨s.pins.syncClosed, s.clock, 0, qualifyIn s s.pins.syncClosed⟩ : Run)
      let begun := { s.sync with blanking := none, run := started }
      let marked (t : State) :=
        (∀ g k, s.sync.target = some g → s.find g.id = some k →
          t.frame k = { s.frame k with flags := (s.frame k).flags ||| Flag.blankedEdge.bit } ∧ SameBut k s t)
          ∧ ((∀ g, s.sync.target = some g → s.find g.id = none) → ∀ k, t.frame k = s.frame k)
      (s.sync.run.isSome ∧ differs ∨ s.sync.run = none ∧ ¬differs → Yields .blankingEnd s fun t =>
        t.sync = { s.sync with blanking := none } ∧ Keeps [.sync] s t)
      ∧ (∀ r, s.sync.run = some r → ¬differs → Yields .blankingEnd s fun t =>
        t.sync = { s.sync with blanking := none, run := none }
          ∧ (r.closing = true → s.tripAwaited r.edge = false → AbandonsClose r s t ∧ Keeps [.sync, .records, .sequencer] s t)
          ∧ (r.closing = false → Keeps [.sync] s t))
      ∧ (s.sync.run = none → differs → s.pins.syncClosed = false ∨ OrdinaryStart s → Yields .blankingEnd s fun t =>
        t.sync = begun ∧ marked t ∧ Keeps [.sync, .records] s t)
      ∧ (∀ h, s.sync.run = none → differs → s.pins.syncClosed = true → s.seq.state = .tripped → s.seq.shot = some h →
        Yields .blankingEnd s fun t =>
          t.sync = begun ∧ marked t ∧ t.seq = { s.seq with shot := some { h with windowTimer := none } }
            ∧ Keeps [.sync, .records, .sequencer] s t)
      ∧ (s.sync.run = none → differs → s.pins.syncClosed = true → s.sync.listening = true → s.sync.rearmed = false →
        s.sync.target = none → s.handoffs = [] → s.DriveLocked →
        (∀ a k id, s.store.nextId ≠ 0 → s.lags.headD 0 = 0 → allocate .light .tripped none s = (a, some (k, id)) →
          Yields .blankingEnd s fun t =>
            Tripped a k id s.clock s.setup.exposure false 3600000000 s t ∧ t.sync.run = started ∧ t.sync.blanking = none
              ∧ t.sync.missed = s.sync.missed ∧ t.sync.qualified = s.sync.qualified
              ∧ Keeps [.records, .store, .sync, .sequencer, .causes, .sent] s t)
        ∧ (s.lags.headD 0 = 0 → (∀ g j, ¬ InGroup s g j) → Yields .blankingEnd s fun t =>
          t.seq = { s.seq with refusedTrip := some s.clock }
            ∧ t.sync = { begun with missed := some (s.clock, .early), missedCount := satInc 65535 s.sync.missedCount }
            ∧ t.req.causes = s.req.causes ||| Cause.storeFull.bit ||| Cause.missedShot.bit
            ∧ Keeps [.sync, .sequencer, .causes] s t)
        ∧ (∀ n rest, s.lags = (n + 1) :: rest → Yields .blankingEnd s fun t =>
          t.sync = begun ∧ t.handoffs = [⟨.tripEdge s.clock s.setup.exposure false, n + 1⟩] ∧ t.lags = rest
            ∧ Keeps [.sync, .handoffs] s t)))

/-- R37, R77: a trip edge taken in ARMED allocates a LIGHT frame of origin TRIPPED, dates its integration by the edge,
issues START and leads to TRIPPED with the integration cap running and the close expected. With no allocatable slot it
is a missed shot EARLY and the refused trip edge, and the flush loop goes on; taken outside ARMED it makes no shot.
While its answer is awaited the run's qualification is held; a run abandoned meanwhile has its bounce counted against
the new frame and its close-abandoned event handed on as the answer arrives. The frame takes the exposure setup in force
at the edge, whatever is in force when the edge is taken (R199, R201). How long the answer is awaited is a free value of
the model (log 23). -/
def Obligations.TripEdgeStartsAnArmedTrip : Prop :=
  ∀ s : State, s.Awake → s.DriveLocked →
    (s.store.nextId ≠ 0 → s.seq.state = .armed → s.sync.listening = true →
      s.sync.rearmed = false → s.pins.syncClosed = false → s.sync.blanking = none → s.sync.run = none →
      s.sync.qualified = false → s.handoffs = [] →
      let started := some (⟨true, s.clock, 0, qualifyIn s true⟩ : Run)
      (∀ a k id, s.lags.headD 0 = 0 → allocate .light .tripped none s = (a, some (k, id)) →
        Yields (.syncRawEdge true) s fun t =>
          t.pins = { s.pins with syncClosed := true } ∧ Tripped a k id s.clock s.setup.exposure false 3600000000 s t
            ∧ t.sync.run = started ∧ t.sync.missed = s.sync.missed ∧ t.sync.qualified = false
            ∧ Keeps [.pins, .records, .store, .sync, .sequencer, .causes, .sent] s t)
      ∧ (s.lags.headD 0 = 0 → (∀ g j, ¬ InGroup s g j) → Yields (.syncRawEdge true) s fun t =>
        t.pins = { s.pins with syncClosed := true } ∧ t.seq = { s.seq with refusedTrip := some s.clock }
          ∧ t.sync = { s.sync with
              run := started, missed := some (s.clock, .early), missedCount := satInc 65535 s.sync.missedCount }
          ∧ t.req.causes = s.req.causes ||| Cause.storeFull.bit ||| Cause.missedShot.bit
          ∧ Keeps [.pins, .sync, .sequencer, .causes] s t)
      ∧ (∀ n rest, s.lags = (n + 1) :: rest → Yields (.syncRawEdge true) s fun t =>
        t.pins = { s.pins with syncClosed := true } ∧ t.sync = { s.sync with run := started }
          ∧ t.handoffs = [⟨.tripEdge s.clock s.setup.exposure false, n + 1⟩] ∧ t.lags = rest
          ∧ Keeps [.pins, .sync, .handoffs] s t))
    ∧ (∀ r, s.sync.run = some r → r.closing = true → s.tripAwaited r.edge = true →
      Yields .runQualifies s (Keeps [] s)
      ∧ (s.pins.syncClosed = true → s.sync.qualified = false → s.sync.blanking = none → s.sync.target = none →
        Yields (.syncRawEdge false) s fun t =>
          t.pins = { s.pins with syncClosed := false } ∧ t.sync = { s.sync with run := none }
            ∧ t.handoffs = s.handoffs.map (fun h => match h.message with
                | .tripEdge edge e abandoned =>
                  { h with message := .tripEdge edge e (if edge = r.edge then true else abandoned) }
                | _ => h)
            ∧ Keeps [.pins, .sync, .handoffs] s t))
    ∧ (∀ edge e abandoned, Arrives (.tripEdge edge e abandoned) s fun t =>
      Keeps [.clock, .records, .store, .sync, .sequencer, .driver, .readout, .card, .develop, .causes, .sent, .handoffs]
            s t
        ∧ (∀ a k id, s.store.nextId ≠ 0 → s.seq.state = .armed → allocate .light .tripped none s = (a, some (k, id)) →
          Tripped a k id edge e abandoned (3600000000 - (s.clock + 1 - edge).toNat) s t)
        ∧ (s.seq.state = .armed → (∀ g j, ¬ InGroup s g j) →
          t.seq.state = .armed ∧ t.seq.shot = s.seq.shot.map tickShot
            ∧ t.seq.refusedTrip = (if abandoned then none else some edge)
            ∧ t.sync.missed = some (edge, .early) ∧ t.sync.missedCount = satInc 65535 s.sync.missedCount
            ∧ t.req.causes = s.req.causes ||| Cause.storeFull.bit ||| Cause.missedShot.bit
            ∧ (∀ k, t.frame k = s.frame k))
        ∧ (s.seq.state ≠ .armed → s.seq.state ≠ .tripped →
          t.seq.state = s.seq.state ∧ t.seq.shot = s.seq.shot.map tickShot ∧ t.sync.target = s.sync.target
            ∧ t.sync.missed = s.sync.missed ∧ t.req.causes = s.req.causes ∧ t.sent = []
            ∧ ∀ k, t.frame k = s.frame k))

/-- The run `r` is complete outside blanking, and no trip edge of it awaits its answer (R29, R37). -/
def Sys2Proof.Machine.Qualifies (r : Run) (s : State) : Prop :=
  s.sync.run = some r ∧ s.sync.blanking = none ∧ r.qualify ≤ r.counted
    ∧ (r.closing = true → s.tripAwaited r.edge = false)

/-- R29, R38, R79: a run that qualifies with nothing to record changes the qualified state. A qualified close is a
missed shot NOT_ARMED in UNSET, IDLE, FAULT, ARMED and PREPARING of a dark shot, but nothing in ARMED when it carries
the refused trip edge's timestamp; it is a missed shot READOUT_BUSY in READOUT, and marks the frame EXTRA_SYNC in TAIL.
-/
def Obligations.QualifiedCloseOutsideItsStates : Prop :=
  ∀ (s : State) (r : Run), s.Awake → Qualifies r s → s.sync.expect = .none →
    let sync := { s.sync with qualified := r.closing, run := none }
    let missed (reason : MissedReason) := Yields .runQualifies s fun t =>
      t.sync = { sync with missed := some (r.edge, reason), missedCount := satInc 65535 s.sync.missedCount }
        ∧ t.req.causes = s.req.causes ||| Cause.missedShot.bit ∧ Keeps [.sync, .causes] s t
    (r.closing = false → s.seq.state ≠ .open → Yields .runQualifies s fun t => t.sync = sync ∧ Keeps [.sync] s t)
    ∧ (r.closing = true → s.seq.state = .unset ∨ s.seq.state = .idle ∨ s.seq.state = .fault → missed .notArmed)
    ∧ (r.closing = true → s.seq.state = .armed → s.seq.refusedTrip ≠ some r.edge → missed .notArmed)
    ∧ (r.closing = true → s.seq.state = .armed → s.seq.refusedTrip = some r.edge → Yields .runQualifies s fun t =>
      t.sync = sync ∧ t.seq = { s.seq with refusedTrip := none } ∧ Keeps [.sync, .sequencer] s t)
    ∧ (∀ h, r.closing = true → s.seq.state = .preparing → s.seq.shot = some h → h.kind = .dark → missed .notArmed)
    ∧ (r.closing = true → s.seq.state = .readout → missed .readoutBusy)
    ∧ (∀ h k, r.closing = true → s.seq.state = .tail → s.seq.shot = some h → s.find h.id = some k →
      Yields .runQualifies s fun t =>
        t.sync = sync ∧ t.frame k = { s.frame k with flags := (s.frame k).flags ||| Flag.extraSync.bit }
          ∧ SameBut k s t ∧ Keeps [.sync, .records] s t)

/-- The driver after a drive has gone off for any cause (R47). -/
def Sys2Proof.Machine.Driver.gone (d : Driver) : Driver :=
  { d with phase := .off, params := none, openEval := false, pullTimer := none, holdTimer := none, bulbTimer := none,
           rampTimer := none, chopOn := false, chopTimer := none }

/-- The blanking timer after a release drive phase change (R31). -/
def Sys2Proof.Machine.blankedBy (s : State) : Timer :=
  let time := (s.sync.target.map (·.blankTime)).getD s.setup.exposure.blankTime
  if time = 0 then s.sync.blanking else some time

/-- R35, R67, R68, R69, R71, R78: a close that qualifies in WAIT_SYNC or TRIPPED with the close expected gives the
target's frame its sync close and leads to OPEN; in SYNC_WINDOW it turns the drive off, in TIMED_BULB with the drive off
it starts the open-wait, in TRIPPED it stops the window. An open that qualifies in OPEN with the open expected gives the
frame its sync open and leads to TAIL for the closing tail; with the drive still on it turns it off and marks the frame
EARLY_CLOSE. That this also holds of a run whose trip edge was answered with no shot, because a RELEASE left ARMED or an
earlier trip edge was taken, is the model's choice between R35, R37 and R78 (log 42). -/
def Obligations.QualifiedSyncOfAShotIsRecorded : Prop :=
  ∀ (s : State) (r : Run) (g : Target) (h : Shot) (k : Fin 16), s.Awake → s.DriveLocked → Qualifies r s →
    s.sync.target = some g → s.seq.shot = some h → g.id = h.id → s.find h.id = some k →
      let sync := { s.sync with qualified := r.closing, run := none, listening := false, rearmed := false }
      let bulb := h.mode = some .timedBulb
      let driving := s.driver.phase.driving = true
      (r.closing = true → s.sync.expect = .close → s.seq.state = .waitSync → Yields .runQualifies s fun t =>
        t.frame k = { s.frame k with syncClose := some r.edge } ∧ SameBut k s t
          ∧ t.seq = { s.seq with
              state := .open, refusedTrip := none
              shot := some { h with
                syncTimer := none
                openWait := if bulb ∧ ¬driving then some (h.params.syncTimeout * 1000) else h.openWait } }
          ∧ t.driver = (if driving ∧ ¬bulb then s.driver.gone else s.driver)
          ∧ t.sync = { sync with
              expect := .open, blanking := if driving ∧ ¬bulb then blankedBy s else s.sync.blanking }
          ∧ Keeps [.records, .sync, .driver, .sequencer] s t)
      ∧ (r.closing = true → s.sync.expect = .close → s.seq.state = .tripped → Yields .runQualifies s fun t =>
        t.frame k = { s.frame k with syncClose := some r.edge } ∧ SameBut k s t
          ∧ t.seq = { s.seq with state := .open, refusedTrip := none, shot := some { h with windowTimer := none } }
          ∧ t.sync = { sync with expect := .open } ∧ Keeps [.records, .sync, .sequencer] s t)
      ∧ (r.closing = false → s.sync.expect = .open → s.seq.state = .open → 0 < h.params.closingTail →
        Yields .runQualifies s fun t =>
          t.frame k = { s.frame k with
              syncOpen := some r.edge
              flags := if driving then (s.frame k).flags ||| Flag.earlyClose.bit else (s.frame k).flags }
            ∧ SameBut k s t
            ∧ t.seq = { s.seq with
                state := .tail, refusedTrip := none
                shot := some { h with
                  openWait := none, syncTimer := none, tailTimer := some (h.params.closingTail * 1000) } }
            ∧ t.driver = (if driving then s.driver.gone else s.driver)
            ∧ t.sync = { sync with expect := .none, blanking := if driving then blankedBy s else s.sync.blanking }
            ∧ Keeps [.records, .sync, .driver, .sequencer] s t)
      ∧ (r.closing = false → s.sync.expect = .open → s.seq.state = .open → h.params.closingTail = 0 →
        (s.frame k).state = .exposing → Yields .runQualifies s fun t =>
          (t.frame k).syncOpen = some r.edge ∧ (t.frame k).integEnd = some s.clock ∧ (t.frame k).state = .readout
            ∧ SameBut k s t ∧ t.seq.state = .readout ∧ t.seq.shot = some h.stopped ∧ t.sent = [.sensorEnd]
            ∧ t.driver = (if driving then s.driver.gone else s.driver)
            ∧ Keeps [.records, .sync, .driver, .sequencer, .sent] s t)

/-- R74, R79, R81, R110: a close that qualifies in DELAY or in PREPARING of a released shot spoils it EARLY_SYNC, is a
missed shot EARLY and leads to IDLE. In DARK_RUN it spoils the dark LIGHT_LEAK and is a missed shot DARK_RUN; a taken
dark then ends, and an auto dark is retried in a new slot twice before its light frame is MISSING. -/
def Obligations.EarlySyncAndLightLeakSpoil : Prop :=
  ∀ (s : State) (r : Run) (h : Shot) (k : Fin 16), s.Awake → s.DriveLocked → Qualifies r s → r.closing = true →
    s.sync.expect = .none → s.seq.shot = some h → s.find h.id = some k → (s.frame k).state = .exposing →
      let missed (reason : MissedReason) (t : State) := t.sync.qualified = true ∧ t.sync.run = none
        ∧ t.sync.missed = some (r.edge, reason) ∧ t.sync.missedCount = satInc 65535 s.sync.missedCount
        ∧ t.req.causes.getLsbD Cause.missedShot.position = true
        ∧ t.req.causes.getLsbD Cause.shotSpoiled.position = true
      (h.kind = .light → s.seq.state = .delay ∨ s.seq.state = .preparing → Yields .runQualifies s fun t =>
        missed .early t ∧ SpoiledAs .earlySync s.clock (s.frame k) (t.frame k) ∧ t.seq.state = .idle ∧ t.seq.shot = none
          ∧ t.seq.closingFlush = true ∧ t.sync.target = none ∧ t.sync.listening = false
          ∧ t.driver.phase.driving = false
          ∧ (NoUsers s h.id → SameBut k s t ∧ Keeps [.records, .store, .sequencer, .sync, .driver, .causes, .sent] s t))
      ∧ (∀ j, s.seq.state = .darkRun → h.kind = .dark → s.dark.job = some j → j.light = none →
        Yields .runQualifies s fun t =>
          missed .darkRun t ∧ SpoiledAs .lightLeak s.clock (s.frame k) (t.frame k) ∧ t.dark.job = none
            ∧ t.seq.shot = none ∧ t.seq.state = (if h.returnArmed then .armed else .idle))
      ∧ (∀ j light l, s.seq.state = .darkRun → h.kind = .dark → s.dark.job = some j → j.light = some light →
        s.find light = some l → 2 ≤ j.retry → Yields .runQualifies s fun t =>
          missed .darkRun t ∧ SpoiledAs .lightLeak s.clock (s.frame k) (t.frame k) ∧ t.dark.job = none
            ∧ (t.frame l).darkState = .missing ∧ hasFlag (t.frame l).flags .darkMissing = true
            ∧ t.seq.shot = none ∧ t.seq.state = (if h.returnArmed then .armed else .idle))
      ∧ (∀ j light, s.seq.state = .darkRun → h.kind = .dark → s.dark.job = some j → j.light = some light →
        j.retry < 2 → s.store.nextId ≠ 0 → k.val < s.store.layout.slotCount → (s.frame k).viewPins = 0 →
        (s.frame k).cardPins = 0 → (s.frame k).keep = false → (s.frame k).darkUsers = 0 → (s.frame k).awaitDark = false →
        (s.frame k).darkState ≠ .pending → Yields .runQualifies s fun t =>
          missed .darkRun t ∧ ∃ id, id ≠ 0 ∧ t.dark.job = some { j with dark := id, retry := j.retry + 1 }
            ∧ t.store.lodged = some (id, light)
            ∧ (t.seq.shot.map fun g => (g.id, g.kind, g.duration, g.returnArmed))
                = some (id, .dark, j.duration, h.returnArmed))

/-! ## Release driver -/

/-- The end of a pre-shot check with the cable present goes on with the passes of a released shot (R65). -/
def Sys2Proof.Machine.GoesOn (h : Shot) (k : Fin 16) (s t : State) : Prop :=
  let ready := { h with checking := false }
  (s.seq.closingFlush = true → t.seq = { s.seq with shot := some ready } ∧ Keeps [.driver, .sequencer] s t)
    ∧ (s.seq.closingFlush = false → 0 < h.passesLeft → t.sent = [.sensorFlush]
      ∧ t.seq = { s.seq with shot := some ready, flushWait := some (s.setup.sensor.flushTimeout * 1000) }
      ∧ Keeps [.driver, .sequencer, .sent] s t)
    ∧ (s.seq.closingFlush = false → h.passesLeft = 0 → StartsReleased h k s t)

/-- R42, R43, R44, R55, R65: CHECK_RELEASE begins a check from OFF and is BUSY in every other phase. CLEAR_FAULTS is
accepted in every state. The end of a check sets the cable state by its test current and begins a pending check; the
result of a pre-shot check, with RELEASE_FAULT raised when it is ABSENT, goes on with a shot that waits for it, or
spoils it NO_CABLE, and is ignored when the shot that asked for it is no longer in flight. How long the result is on its
way to the sequencer is a free value of the model (log 23): one that arrives later does the same to the state a
microsecond leads to, and is ignored outside PREPARING of the shot that asked for it. -/
def Obligations.ChecksSetTheCableState : Prop :=
  ∀ s : State, s.Awake → s.DriveLocked →
    (s.asks .checkRelease = true →
      (s.driver.phase = .off → Yields .checkRelease s fun t =>
        t.req.answer = some .ok
          ∧ t.driver = { s.driver with phase := .check, checkTimer := some 2000, checkFor := none }
          ∧ Keeps [.driver, .answer] s t)
      ∧ (s.driver.phase ≠ .off → Yields .checkRelease s fun t => t.req.answer = some .busy ∧ Keeps [.answer] s t))
    ∧ (s.asks .clearFaults = true → Yields .clearFaults s fun t =>
      t.req.answer = some .ok
        ∧ t.driver = { s.driver with
            faultShort := false, faultOpen := false
            cable := if s.driver.cable = .absent then .unknown else s.driver.cable }
        ∧ Keeps [.driver, .answer] s t)
    ∧ (∀ current : Nat, s.driver.phase = .check → s.driver.checkTimer = some 0 →
      let cable := if 500 ≤ current then Cable.present else .absent
      (s.driver.checkFor = none → s.driver.pendingCheck = none → Yields (.checkEnd current) s fun t =>
        t.driver = { s.driver with phase := .off, checkTimer := none, cable := cable } ∧ Keeps [.driver] s t)
      ∧ (∀ p, s.driver.checkFor = none → s.driver.pendingCheck = some p → Yields (.checkEnd current) s fun t =>
        t.driver = { s.driver with checkTimer := some 2000, checkFor := some p, pendingCheck := none, cable := cable }
          ∧ Keeps [.driver] s t)
      ∧ (∀ id p, s.driver.checkFor = some id → s.driver.pendingCheck = some p → s.handoffs = [] →
        let again := { s.driver with checkTimer := some 2000, checkFor := some p, pendingCheck := none, cable := cable }
        let causes := if 500 ≤ current then s.req.causes else s.req.causes ||| Cause.releaseFault.bit
        (s.lags.headD 0 = 0 → (∀ h, s.seq.shot = some h → h.id ≠ id) → Yields (.checkEnd current) s fun t =>
          t.driver = again ∧ t.req.causes = causes ∧ Keeps [.driver, .causes] s t)
        ∧ ∀ n rest, s.lags = (n + 1) :: rest → Yields (.checkEnd current) s fun t =>
          t.driver = again ∧ t.req.causes = causes ∧ t.lags = rest
            ∧ t.handoffs = [⟨.driver (some id) (.checkResult (500 ≤ current)), n + 1⟩]
            ∧ Keeps [.driver, .causes, .handoffs] s t)
      ∧ (∀ id n rest, s.driver.checkFor = some id → s.driver.pendingCheck = none → s.handoffs = [] →
        s.lags = (n + 1) :: rest → Yields (.checkEnd current) s fun t =>
          t.driver = { s.driver with phase := .off, checkTimer := none, checkFor := none, cable := cable }
            ∧ t.handoffs = [⟨.driver (some id) (.checkResult (500 ≤ current)), n + 1⟩] ∧ t.lags = rest
            ∧ t.req.causes = (if 500 ≤ current then s.req.causes else s.req.causes ||| Cause.releaseFault.bit)
            ∧ Keeps [.driver, .causes, .handoffs] s t)
      ∧ ∀ h k, s.Prompt → s.driver.checkFor = some h.id → s.driver.pendingCheck = none → s.seq.state = .preparing →
        s.seq.shot = some h → h.checking = true → h.kind = .light → s.find h.id = some k →
        (500 ≤ current → Yields (.checkEnd current) s fun t => t.driver.cable = .present ∧ GoesOn h k s t)
        ∧ (current < 500 → (s.frame k).state = .exposing → Yields (.checkEnd current) s fun t =>
          t.driver.phase = .off ∧ t.driver.cable = .absent ∧ SpoiledAs .noCable s.clock (s.frame k) (t.frame k)
            ∧ t.req.causes.getLsbD Cause.releaseFault.position = true
            ∧ t.req.causes.getLsbD Cause.shotSpoiled.position = true
            ∧ t.seq.shot = none ∧ t.seq.state = (if h.returnArmed then .armed else .idle)
            ∧ (NoUsers s h.id → SameBut k s t
              ∧ Keeps [.records, .store, .driver, .sequencer, .sync, .causes, .sent] s t)))
    ∧ ∀ id present u, step { s with handoffs := [] } = .next u →
      (∀ h k, s.seq.state = .preparing → s.seq.shot = some h → h.id = id → h.checking = true → h.kind = .light →
        s.find h.id = some k →
        (present = true → Arrives (.driver (some id) (.checkResult present)) s (GoesOn (tickShot h) k u))
        ∧ (present = false → (s.frame k).state = .exposing → Arrives (.driver (some id) (.checkResult present)) s fun t =>
          SpoiledAs .noCable (s.clock + 1) (s.frame k) (t.frame k)
            ∧ t.req.causes.getLsbD Cause.shotSpoiled.position = true
            ∧ t.seq.shot = none ∧ t.seq.state = (if h.returnArmed then .armed else .idle)
            ∧ (NoUsers s h.id → SameBut k u t ∧ Keeps [.records, .store, .driver, .sequencer, .sync, .causes, .sent] u t)))
      ∧ (s.seq.state ≠ .preparing ∨ (∀ h, s.seq.shot = some h → h.id ≠ id ∨ h.checking = false) →
        Arrives (.driver (some id) (.checkResult present)) s (Keeps [] u))

/-- R45, R46, R49, R52, R54: at the end of the pull-in time the driver enters HOLD, a phase change, with the hold limit
of a SYNC_WINDOW drive and a chop period of 64 microseconds with duty times 4 of them on, which at duty 16 has no
off-part; that a phase change with blank time 0 leaves a running blanking timer as it is is the model's inference from
R31 (log 21). The ramp blank ends. A new sensed current sets the cable PRESENT at 50 mA, clears the open-load timer
while it is evaluated, and clears the short timer at 3 A or less, but only while drive current flows. The supply
comparator starts and stops its filter, at whose end the indication follows it. That a change of the sensed current acts
at its own moment, beside the microseconds in which it is sensed, and is given in microamperes, is the model's choice
(log 11), and so is that it sets the cable PRESENT in a PULL_IN that has latched OPEN (log 54). -/
def Obligations.DriverTimersAndSenses : Prop :=
  ∀ s : State, s.Awake →
    (∀ p, s.driver.phase = .pullIn → s.driver.pullTimer = some 0 → s.driver.params = some p → p.duty ≤ 16 →
      Yields .pullInEnd s fun t =>
        t.driver = { s.driver with
            phase := .hold, pullTimer := none
            holdTimer := if p.mode = .syncWindow then some p.holdLimit else none
            chopOn := true, chopTimer := if p.duty = 16 then none else some (p.duty * 4) }
          ∧ t.sync = { s.sync with blanking := blankedBy s } ∧ Keeps [.driver, .sync] s t)
    ∧ (∀ p, s.driver.phase = .hold → s.driver.chopTimer = some 0 → s.driver.params = some p → Yields .holdChop s fun t =>
      t.driver = { s.driver with
          chopOn := !s.driver.chopOn
          chopTimer := some (if s.driver.chopOn then 64 - p.duty * 4 else p.duty * 4) }
        ∧ Keeps [.driver] s t)
    ∧ (s.driver.rampTimer = some 0 → Yields .rampBlankEnd s fun t =>
      t.driver = { s.driver with rampTimer := none } ∧ Keeps [.driver] s t)
    ∧ (∀ current, Yields (.currentSenseChange current) s fun t =>
      t.pins = { s.pins with sense := current }
        ∧ t.driver = (if s.driveFlows = true then { s.driver with
            cable := if 50000 ≤ current then .present else s.driver.cable
            openTimer := if 50000 ≤ current ∧ s.driver.openEval = true ∧ s.driver.rampTimer = none then 0
              else s.driver.openTimer
            shortTimer := if current ≤ 3000000 then 0 else s.driver.shortTimer } else s.driver)
        ∧ Keeps [.pins, .driver] s t)
    ∧ (∀ low, Yields (.supplyComparatorChange low) s fun t =>
      t.pins = { s.pins with supplyLow := low }
        ∧ t.driver = (if low = s.pins.supplyLow then s.driver else { s.driver with
            supplyFilter := if low = s.driver.supplyLow then none else some 100 })
        ∧ Keeps [.pins, .driver] s t)
    ∧ (s.driver.supplyFilter = some 0 →
      s.driver.phase.driving = false ∨ s.pins.supplyLow = false ∨ s.driver.supplyLow = true →
      Yields .lowSupplyIndication s fun t =>
        t.driver = { s.driver with supplyLow := s.pins.supplyLow, supplyFilter := none } ∧ Keeps [.driver] s t)

/-- A drive that ends without spoiling its shot (R41, R47, R69, R70): the driver, as it was but for what the cause
changes, has gone off, a phase change; the frame has the cause's flag; in OPEN of a TIMED_BULB shot the open-wait
starts. -/
def Sys2Proof.Machine.DriveEnded (d : Driver) (flag : Option Flag) (h : Shot) (k : Fin 16) (s t : State) : Prop :=
  t.driver = d.gone ∧ t.sync = { s.sync with blanking := blankedBy s }
    ∧ t.frame k = { s.frame k with flags := (s.frame k).flags ||| (flag.map Flag.bit).getD 0 } ∧ SameBut k s t
    ∧ t.seq = { s.seq with shot := some { h with
        openWait := if s.seq.state = .open ∧ h.mode = some .timedBulb then some (h.params.syncTimeout * 1000)
          else h.openWait } }

/-- A drive whose end spoils the shot in WAIT_SYNC (R70, R74): RELEASE_FAULT, and the shot's return state. -/
def Sys2Proof.Machine.DriveSpoiled (d : Driver) (h : Shot) (k : Fin 16) (s t : State) : Prop :=
  t.driver = d.gone ∧ SpoiledAs .releaseFault s.clock (s.frame k) (t.frame k) ∧ t.seq.shot = none
    ∧ t.seq.state = (if h.returnArmed then .armed else .idle) ∧ t.sync.target = none ∧ t.sync.expect = .none
    ∧ t.req.causes.getLsbD Cause.releaseFault.position = true
    ∧ t.req.causes.getLsbD Cause.shotSpoiled.position = true
    ∧ (NoUsers s h.id → SameBut k s t ∧ Keeps [.records, .store, .driver, .sequencer, .sync, .causes, .sent] s t)

/-- A drive that ends with its report on its way to the sequencer for `lag` microseconds (R41, R47; log 23). -/
def Sys2Proof.Machine.DriveHanded (d : Driver) (report : DriverReport) (lag : Nat) (s t : State) : Prop :=
  t.driver = d.gone ∧ t.sync = { s.sync with blanking := blankedBy s }
    ∧ t.handoffs = [⟨.driver (s.seq.shot.map (·.id)) report, lag⟩] ∧ t.lags = s.lags.tail

/-- The flag that a drive ended report adds (R70). -/
def Sys2Proof.Machine.endFlag : DriveEnd → BitVec 13
  | .openAbort => Flag.openLoad.bit
  | .short => Flag.releaseFaultLate.bit
  | .lowSupply => Flag.lowSupply.bit
  | .bulbEnd => 0
  | .holdLimit => 0

/-- R41, R47, R50, R52, R53, R54, R69, R70: what ends a drive. The bulb end and the hold limit add no flag. A low supply
marks the frame LOW_SUPPLY. An open load is latched with the cable ABSENT and RELEASE_FAULT raised: with ABORT it ends
the drive, spoiling a shot in WAIT_SYNC and marking the frame OPEN_LOAD in OPEN; with CONTINUE it marks the frame and
the drive goes on without open evaluation. A short is latched and ends the drive, spoiling a shot in WAIT_SYNC and
marking the frame RELEASE_FAULT_LATE in OPEN. The report acts by the state in which it is taken, so that one made before
the drive off of a close is taken in OPEN, where the frame is kept and the open-wait of TIMED_BULB runs from the drive
off; in TAIL and READOUT it adds its flag; taken when its shot is no longer in flight it is ignored. That a drive off
with blank time 0 leaves a running blanking timer as it is is the model's inference from R31 (log 21); how long the
report is on its way is a free value of the model (log 23). -/
def Obligations.CausesEndTheDrive : Prop :=
  ∀ (s : State) (h : Shot) (k : Fin 16), s.Awake → s.DriveLocked → s.seq.shot = some h → s.find h.id = some k →
    (s.driver.phase.driving = true →
      let opened := { s.driver with faultOpen := true, cable := .absent }
      let short := { s.driver with faultShort := true }
      let low := { s.driver with supplyLow := true, supplyFilter := none }
      let fault := s.req.causes ||| Cause.releaseFault.bit
      let supplyFell := s.driver.supplyFilter = some 0 ∧ s.pins.supplyLow = true ∧ s.driver.supplyLow = false
      let openLoad (p : DriveParams) := s.driver.openEval = true ∧ s.driver.params = some p ∧ p.deglitch ≤ s.driver.openTimer
      (s.Prompt →
        (s.driver.bulbTimer = some 0 → Yields .bulbEnd s fun t =>
          DriveEnded s.driver none h k s t ∧ Keeps [.driver, .sync, .sequencer] s t)
        ∧ (s.driver.phase = .hold → s.driver.holdTimer = some 0 → Yields .holdLimit s fun t =>
          DriveEnded s.driver none h k s t ∧ Keeps [.driver, .sync, .sequencer] s t)
        ∧ (supplyFell → Yields .lowSupplyIndication s fun t =>
          DriveEnded low (some .lowSupply) h k s t ∧ Keeps [.records, .driver, .sync, .sequencer] s t)
        ∧ (∀ p, openLoad p →
          (p.response = .continue → Yields .openLoadLatch s fun t =>
            t.driver = { opened with openEval := false }
              ∧ t.frame k = { s.frame k with flags := (s.frame k).flags ||| Flag.openLoad.bit } ∧ SameBut k s t
              ∧ t.req.causes = fault ∧ Keeps [.records, .driver, .causes] s t)
          ∧ (p.response = .abort → s.seq.state = .open → Yields .openLoadLatch s fun t =>
            DriveEnded opened (some .openLoad) h k s t ∧ t.req.causes = fault
              ∧ Keeps [.records, .driver, .sync, .sequencer, .causes] s t)
          ∧ (p.response = .abort → s.seq.state = .waitSync → (s.frame k).state = .exposing →
            Yields .openLoadLatch s (DriveSpoiled opened h k s)))
        ∧ (10 ≤ s.driver.shortTimer →
          (s.seq.state = .open → Yields .shortDetected s fun t =>
            DriveEnded short (some .releaseFaultLate) h k s t ∧ t.req.causes = fault
              ∧ Keeps [.records, .driver, .sync, .sequencer, .causes] s t)
          ∧ (s.seq.state = .waitSync → (s.frame k).state = .exposing →
            Yields .shortDetected s (DriveSpoiled short h k s))))
      ∧ ∀ n rest, s.handoffs = [] → s.lags = (n + 1) :: rest →
        (s.driver.bulbTimer = some 0 → Yields .bulbEnd s fun t =>
          DriveHanded s.driver (.driveEnded .bulbEnd s.clock) (n + 1) s t ∧ Keeps [.driver, .sync, .handoffs] s t)
        ∧ (s.driver.phase = .hold → s.driver.holdTimer = some 0 → Yields .holdLimit s fun t =>
          DriveHanded s.driver (.driveEnded .holdLimit s.clock) (n + 1) s t ∧ Keeps [.driver, .sync, .handoffs] s t)
        ∧ (supplyFell → Yields .lowSupplyIndication s fun t =>
          DriveHanded low (.driveEnded .lowSupply s.clock) (n + 1) s t ∧ Keeps [.driver, .sync, .handoffs] s t)
        ∧ (∀ p, openLoad p →
          (p.response = .continue → Yields .openLoadLatch s fun t =>
            t.driver = { opened with openEval := false } ∧ t.handoffs = [⟨.driver (some h.id) .openContinuing, n + 1⟩]
              ∧ t.lags = rest ∧ t.req.causes = fault ∧ Keeps [.driver, .causes, .handoffs] s t)
          ∧ (p.response = .abort → Yields .openLoadLatch s fun t =>
            DriveHanded opened (.driveEnded .openAbort s.clock) (n + 1) s t ∧ t.req.causes = fault
              ∧ Keeps [.driver, .sync, .causes, .handoffs] s t))
        ∧ (10 ≤ s.driver.shortTimer → Yields .shortDetected s fun t =>
          DriveHanded short (.driveEnded .short s.clock) (n + 1) s t ∧ t.req.causes = fault
            ∧ Keeps [.driver, .sync, .causes, .handoffs] s t))
    ∧ (∀ cause off,
      let flagged (t : State) := t.frame k = { s.frame k with flags := (s.frame k).flags ||| endFlag cause }
        ∧ SameBut k s t ∧ t.seq.state = s.seq.state ∧ t.req.causes = s.req.causes
      (s.seq.state = .open → Arrives (.driver (some h.id) (.driveEnded cause off)) s fun t =>
        flagged t ∧ t.seq.shot = some { tickShot h with
          openWait := if h.mode = some .timedBulb then some (h.params.syncTimeout * 1000 - (s.clock + 1 - off).toNat)
            else h.openWait.runDown })
      ∧ (s.seq.state = .tail ∨ s.seq.state = .readout → Arrives (.driver (some h.id) (.driveEnded cause off)) s fun t =>
        flagged t ∧ t.seq.shot = some (tickShot h))
      ∧ (s.seq.state = .waitSync → cause ≠ .openAbort → cause ≠ .short →
        Arrives (.driver (some h.id) (.driveEnded cause off)) s fun t => flagged t ∧ t.seq.shot = some (tickShot h))
      ∧ (s.seq.state = .waitSync → cause = .openAbort ∨ cause = .short → (s.frame k).state = .exposing →
        Arrives (.driver (some h.id) (.driveEnded cause off)) s fun t =>
          SpoiledAs .releaseFault (s.clock + 1) (s.frame k) (t.frame k) ∧ t.seq.shot = none
            ∧ t.seq.state = (if h.returnArmed then .armed else .idle) ∧ t.driver.phase.driving = false
            ∧ t.req.causes.getLsbD Cause.shotSpoiled.position = true))
    ∧ (s.seq.state ∈ [.waitSync, .open, .tail, .readout] → Arrives (.driver (some h.id) .openContinuing) s fun t =>
      t.frame k = { s.frame k with flags := (s.frame k).flags ||| Flag.openLoad.bit } ∧ SameBut k s t
        ∧ t.seq.state = s.seq.state ∧ t.seq.shot = some (tickShot h))
    ∧ ∀ shot report, shot ≠ some h.id → Arrives (.driver shot report) s fun t =>
      (∀ j, t.frame j = s.frame j) ∧ t.seq.state = s.seq.state ∧ t.seq.shot = some (tickShot h)
        ∧ t.req.causes = s.req.causes ∧ t.sent = []


/-! ## Sensor readout and dark reference -/

/-- The bytes of a row in stored order, low byte before high byte (R88). -/
def Sys2Proof.Machine.storedBytes (samples : List Sample) : List Byte :=
  samples.flatMap fun v => [BitVec.extractLsb' 0 8 v, BitVec.extractLsb' 8 8 v]

/-- The read in service lies in the 32-bit address space. -/
def Sys2Proof.Machine.State.ReadInSpace (s : State) : Prop :=
  ∀ sv, s.develop.service = some sv → sv.addr + sv.len ≤ 0x100000000

/-- The read in service is one of view `v`: it found the view OPEN when it was taken, and a byte of it lies in the view's
aperture. -/
def Sys2Proof.Machine.ServedBy (s : State) (v : Fin 4) : Prop :=
  ∃ sv a, s.develop.service = some sv ∧ sv.live.get v = true ∧ sv.addr ≤ a ∧ a < sv.addr + sv.len
    ∧ 0x80000000 + v.val * 0x20000000 ≤ a ∧ a < 0x80000000 + (v.val + 1) * 0x20000000

/-- Every byte of a read that is of a developed pixel is of an available one (R127). -/
def Sys2Proof.Machine.AllReady (s : State) (sv : Service) : Prop :=
  ∀ a, sv.addr ≤ a → a < sv.addr + sv.len → 0x80000000 ≤ a → s.isPixel sv.live a = true → s.pixelReady a = true

/-- R88, R89, R90, R137: a row packet with the expected number and length is taken: its bytes are issued to DRAM at its
row's place in the frame data, its optical black samples are summed by channel, a check value that does not match the
CRC-16 of the stored bytes counts a bad row, and the row timer restarts. When the writes of the oldest row in flight
have reached DRAM, rows stored rises by one and is reported to the record with the bad rows up to it, to the views and
to the card job on the frame; a held read whose pixels are then all available completes with its computed bytes, any
other goes on waiting. The card transfer of a job on the frame that waits for rows takes FETCHING, its sector's fetch
issued, once the new value makes the sector sendable, and a busy one fetches its next sector ahead (R157). With no frame
in readout a packet is ignored (R87). The model's choices: the held read completes before the card's fetch begins (log
43), and a row's writes and a sector's fetch have one burst for each 64-byte block (log 39). -/
def Obligations.RowsAreTakenAndStored : Prop :=
  ∀ (s : State) (f : ReadoutFrame), s.Awake →
    (∀ row samples check, s.readout.frame = none → Yields (.rowPacket row samples check) s (Keeps [] s))
    ∧ (∀ (row : Half) samples check bad, s.readout.frame = some f → s.readout.expected < f.rows →
      row.toNat = s.readout.expected → samples.length = f.rowWidth →
      (bad = true ↔ crc16 (storedBytes samples) ≠ check) → Yields (.rowPacket row samples check) s fun t =>
        let badRows := if bad then satInc 65535 s.readout.badRows else s.readout.badRows
        let firstBad := if bad then some (s.readout.firstBad.getD row.toNat) else s.readout.firstBad
        t.path = { s.path with readout := { s.path.readout with
            waiting := s.path.readout.waiting
              ++ writeBursts (cellsAt (f.base + row.toNat * f.rowWidth * 2) (storedBytes samples)) } }
          ∧ t.readout = { s.readout with
              expected := s.readout.expected + 1, badRows := badRows, firstBad := firstBad
              inFlight := s.readout.inFlight ++ [⟨badRows, firstBad⟩], sums := t.readout.sums
              rowTimer := some f.rowTimeout }
          ∧ (∀ c, t.readout.sums.get c = s.readout.sums.get c
              + (((samples.take f.ob).zipIdx.filter fun x => channelOf f.cfa row.toNat x.2 == c).map
                  fun x => x.1.toNat).sum)
          ∧ Keeps [.path, .readout] s t)
    ∧ (∀ r rest k, s.readout.frame = some f → s.readout.inFlight = r :: rest → s.find f.id = some k →
      Yields .rowStored s fun t =>
        let stored := s.readout.stored + 1
        t.readout = { s.readout with stored := stored, inFlight := rest } ∧ t.path.readout.waiting = []
          ∧ t.frame k = { s.frame k with rowsStored := stored, badRows := r.badRows, firstBad := r.firstBad }
          ∧ SameBut k s t
          ∧ (∀ v, (s.view v).state = .open → (s.view v).frame = some f.id →
            (t.view v).rows = max (s.view v).rows stored)
          ∧ (∀ j, s.card.activeJob = some j → j.kind = .writeFrame → j.frame = f.id →
            t.card.rows = max s.card.rows stored)
          ∧ (∀ j x, s.card.activeJob = some j → j.kind = .writeFrame → j.frame = f.id → s.card.transfer = some x →
            s.card.rows < stored → s.path.card.waiting = [] → s.path.port = [] →
            let ready (i : Nat) :=
              min (j.offset + 512 * (i + 1)) s.store.layout.frameSize ≤ stored * s.store.layout.rowWidth * 2
            (x.cond = .waitingRows →
              t.card.transfer = some { x with
                  cond := if ready x.next then .fetching else .waitingRows, prefetch := .none, limit := none }
                ∧ t.path.card.waiting = (if ready x.next then readBursts (s.sectorAddrs j x.next) else []))
            ∧ (x.cond = .busy → x.write = true → x.prefetch = .none → s.card.pendingEnd = none → x.next + 1 < j.sectors →
              t.card.transfer = some { x with prefetch := if ready (x.next + 1) then .fetching else .none }
                ∧ t.path.card.waiting = (if ready (x.next + 1) then readBursts (s.sectorAddrs j (x.next + 1)) else [])))
          ∧ (∀ sv w, s.develop.service = some sv → sv.cond = .held w → 0x80000000 ≤ sv.addr → s.ReadInSpace →
            s.path.processor = ⟨[], []⟩ → s.path.port = [] →
            (AllReady t sv → t.develop.service = none
              ∧ t.sent = [.readData ((List.range sv.len).map fun i => t.apertureByte sv (sv.addr + i))])
            ∧ (¬ AllReady t sv → t.develop.service = s.develop.service ∧ t.sent = [])
            ∧ ∀ v, (t.view v).late = (s.view v).late)
          ∧ (NoUsers s f.id → s.develop.service = none →
            t.dram = s.path.readout.waiting.foldl burstDram s.dram ∧ Keeps [.records, .readout, .path, .dram] s t))

/-- What the spoil of frame `id` does to the views that show it (R139): each OPEN one becomes BROKEN, gives its pins
back and raises VIEW_BROKEN; a read in service of it completes at once with every byte zero. -/
def Sys2Proof.Machine.ViewsBroken (id : Word) (s t : State) : Prop :=
  let on (v : Fin 4) := (s.view v).state = .open ∧ (s.view v).frame = some id
  (∀ v, on v → (t.view v).state = .broken ∧ (t.view v).frame = some id ∧ (t.view v).dark = (s.view v).dark
      ∧ (t.view v).form = (s.view v).form ∧ (t.view v).settings = (s.view v).settings ∧ (t.view v).late = (s.view v).late
      ∧ t.req.causes.getLsbD Cause.viewBroken.position = true)
    ∧ (∀ v, ¬ on v → t.view v = s.view v)
    ∧ (∀ j, (t.frame j).viewPins = (s.frame j).viewPins - openPins s (fun x => x.frame == some id) j)
    ∧ (∀ v sv, on v → s.ReadInSpace → ServedBy s v → s.develop.service = some sv → 0x80000000 ≤ sv.addr →
      s.path.processor = ⟨[], []⟩ → s.path.port = [] → s.readout.inFlight = [] →
      t.develop.service = none ∧ .readData (List.replicate sv.len 0) ∈ t.sent)

/-- What the spoil of frame `id` does to an active card job that writes it (R160): with no sector in progress it fails
SOURCE_LOST at once, otherwise its pending end is SOURCE_LOST, unless it has one. -/
def Sys2Proof.Machine.SourceLost (id : Word) (k : Fin 16) (s t : State) : Prop :=
  ∀ j rest, s.card.jobs = j :: rest → j.active = true → j.kind = .writeFrame → j.frame = id →
    (s.sectorRuns = false → t.card.jobs = rest ∧ t.card.halted = true ∧ t.card.transfer = none
      ∧ t.card.completions = (⟨j.tag, .failed .sourceLost, j.sectorsDone⟩ :: s.card.completions).take 8
      ∧ t.req.causes.getLsbD Cause.cardHalted.position = true
      ∧ (t.frame k).cardPins = (s.frame k).cardPins - 1)
    ∧ (s.sectorRuns = true → t.card.jobs = s.card.jobs ∧ t.card.halted = s.card.halted ∧ t.sectorRuns = true
      ∧ t.card.pendingEnd = some (s.card.pendingEnd.getD ⟨.sourceLost, false⟩)
      ∧ (t.frame k).cardPins = (s.frame k).cardPins)

/-- What a spoil by the readout unit leaves (R93): the rows taken are finished and reported, the record SPOILED with the
reason, the unit IDLE, and the sequencer in the return state of the shot; views, a card job and the dark job follow. -/
def Sys2Proof.Machine.ReadoutSpoiled (reason : SpoilReason) (f : ReadoutFrame) (k : Fin 16) (s t : State) : Prop :=
  let stored := s.readout.stored + s.readout.inFlight.length
  t.readout.frame = none ∧ t.readout.inFlight = [] ∧ t.readout.rowTimer = none ∧ t.readout.marker = false
    ∧ t.readout.stored = stored ∧ t.readout.history = s.readout.history ∧ t.path.readout.waiting = []
    ∧ (t.frame k).state = .spoiled ∧ (t.frame k).spoil = some reason
    ∧ (t.frame k).rowsStored = (if s.readout.inFlight = [] then (s.frame k).rowsStored else stored)
    ∧ (t.frame k).integEnd = (s.frame k).integEnd
    ∧ t.req.causes.getLsbD Cause.shotSpoiled.position = true
    ∧ ViewsBroken f.id s t ∧ SourceLost f.id k s t
    ∧ ∀ h, s.seq.shot = some h → h.id = f.id →
      t.seq.shot = none ∧ t.seq.state = (if h.returnArmed then .armed else .idle)
        ∧ (h.kind = .dark → DarkFailed f.id k s t)
        ∧ (h.kind = .light → (t.frame k).flags = (s.frame k).flags)
        ∧ (h.kind = .light → NoUsers s f.id → s.develop.service = none → s.DriveLocked → s.seq.state = .readout →
          SameBut k s t
            ∧ Keeps [.records, .store, .readout, .path, .dram, .sequencer, .sync, .causes, .sent] s t)

/-- R91, R92, R93, R111, R139, R160: a row packet out of order, of the wrong length or past the last row, and a
frame-end marker before the last row, spoil the frame in readout LINK_LOST; the row timeout spoils it READOUT_TIMEOUT.
Its views break, a card job that writes it is lost, and a dark job ends with its light frame MISSING. A frame-end marker
after the last row awaits completion; that it stops the row timer itself is the model's choice (log 24). With no frame
in readout it is ignored. That a read across two apertures completes whole when either view breaks is the model's
inference from R139 (log 26); that the unit's rows stored keep their value is its choice (log 55). -/
def Obligations.ReadoutFailuresSpoilTheFrame : Prop :=
  ∀ (s : State) (f : ReadoutFrame) (k : Fin 16), s.Awake →
    (s.readout.frame = none → Yields .frameEndMarker s (Keeps [] s))
    ∧ (s.readout.frame = some f → f.rows ≤ s.readout.expected → Yields .frameEndMarker s fun t =>
      t.readout = { s.readout with marker := true, rowTimer := none } ∧ Keeps [.readout] s t)
    ∧ (s.readout.frame = some f → s.find f.id = some k → (s.frame k).state = .readout →
      (s.readout.expected < f.rows → Yields .frameEndMarker s (ReadoutSpoiled .linkLost f k s))
      ∧ (∀ (row : Half) samples check,
        f.rows ≤ s.readout.expected ∨ row.toNat ≠ s.readout.expected ∨ samples.length ≠ f.rowWidth →
        Yields (.rowPacket row samples check) s (ReadoutSpoiled .linkLost f k s))
      ∧ (s.readout.rowTimer = some 0 → Yields .readoutTimeout s (ReadoutSpoiled .readoutTimeout f k s)))

/-- The measured black of a frame (R96, R97): each channel's level is the mean of its optical black samples rounded half
up, or the pedestal, and the frame mean that of the four levels. -/
def Sys2Proof.Machine.Measured (f : ReadoutFrame) (sums : Four Nat) (b : Blacks) : Prop :=
  let n := f.ob / 2 * (f.rows / 2)
  (∀ c, if f.ob = 0 then b.level.get c = f.pedestal
    else 0 < n → 2 * n * b.level.get c ≤ 2 * sums.get c + n ∧ 2 * sums.get c + n < 2 * n * (b.level.get c + 1))
    ∧ b.mean = (b.level.get 0 + b.level.get 1 + b.level.get 2 + b.level.get 3 + 2) / 4

/-- The drift test of R99. -/
def Sys2Proof.Machine.Drifted (limit mean : Nat) (history : List Nat) : Prop :=
  history ≠ [] ∧ limit < ((mean : Int) - ((history.sum + history.length / 2) / history.length : Nat)).natAbs

/-- The dark decision of the completed light frame in record `k` (R103 to R107, R115): NONE when it needs no dark;
LINKED, the dark gaining a user, when a stored dark matches and it lacks DRIFT; otherwise `ordered`. Of the first two,
`left` holds. -/
def Sys2Proof.Machine.DarkDecided (p : DarkParams) (k : Fin 16) (time : Nat) (s t : State) (left ordered : Prop) : Prop :=
  let g := t.frame k
  let needs := p.autoDark = true
    ∧ ((p.threshold ≠ 0 ∧ p.threshold * 1000 ≤ time) ∨ hasFlag g.flags .highBlack = true)
  let found := hasFlag g.flags .drift = false ∧ ∃ j, Matches p (s.frame j) g
  g.awaitDark = false ∧ (¬needs → g.darkState = .none ∧ left)
    ∧ (needs → found → left ∧ ∃ j, Matches p (s.frame j) g ∧ g.darkState = .linked (s.frame j).id
      ∧ (t.frame j).darkUsers = (s.frame j).darkUsers + 1)
    ∧ (needs → ¬found → ordered)

/-- A new dark is ordered for the light frame `id` of shot `h` (R107): a slot of its own, the light frame PENDING; with
no slot it is MISSING with STORE_FULL raised, and the shot is left. -/
def Sys2Proof.Machine.DarkOrdered (h : Shot) (k : Fin 16) (time : Nat) (left : Prop) (s t : State) : Prop :=
  ((∃ g j, InGroup s g j) → ∃ id, id ≠ 0 ∧ (t.frame k).darkState = .pending
      ∧ t.dark.job = some ⟨some h.id, time, id, 0⟩ ∧ t.store.lodged = some (id, h.id)
      ∧ (t.seq.shot.map fun g => (g.id, g.kind, g.duration, g.returnArmed)) = some (id, .dark, time, h.returnArmed))
    ∧ ((∀ g j, ¬ InGroup s g j) → left ∧ t.dark.job = none ∧ (t.frame k).darkState = .missing
      ∧ hasFlag (t.frame k).flags .darkMissing = true ∧ t.req.causes.getLsbD Cause.storeFull.position = true)

/-- What the readout unit finds of a frame that completes: its black levels (R96, R97) and its flags (R90, R99, R100). -/
def Sys2Proof.Machine.Found (f : ReadoutFrame) (s : State) (b : Blacks) (flags : List Flag) : Prop :=
  Measured f s.readout.sums b
    ∧ (.badRows ∈ flags ↔ 0 < s.readout.badRows)
    ∧ (.drift ∈ flags ↔ f.kind = .light ∧ Drifted f.dark.driftLimit b.mean s.readout.history)
    ∧ (.highBlack ∈ flags ↔ f.kind = .light ∧ f.blackCeiling < b.mean)
    ∧ ∀ x ∈ flags, x = .badRows ∨ x = .drift ∨ x = .highBlack

/-- The readout unit has left a completed frame (R98, R100): the mean of a LIGHT one has joined the black history. -/
def Sys2Proof.Machine.UnitLeft (f : ReadoutFrame) (b : Blacks) (s t : State) : Prop :=
  t.readout.frame = none ∧ t.readout.marker = false
    ∧ t.readout.history = (if f.kind = .light then
        (s.readout.history ++ [b.mean]).drop (s.readout.history.length + 1 - 6) else s.readout.history)

/-- A completed frame's report is on its way to the frame store for `lag` microseconds (R100): the readout unit has left
the frame, whose record is still in READOUT with no cause raised. -/
def Sys2Proof.Machine.CompletionHanded (f : ReadoutFrame) (k : Fin 16) (b : Blacks) (flags : List Flag) (lag : Nat)
    (s t : State) : Prop :=
  UnitLeft f b s t ∧ t.handoffs = [⟨.completion f b flags, lag⟩] ∧ t.lags = s.lags.tail
    ∧ (t.frame k).state = .readout ∧ (t.frame k).blacks = (s.frame k).blacks ∧ (t.frame k).flags = (s.frame k).flags
    ∧ (t.frame k).awaitDark = (s.frame k).awaitDark ∧ (t.frame k).darkState = (s.frame k).darkState
    ∧ t.seq = s.seq ∧ t.dark = s.dark ∧ t.req.causes = s.req.causes ∧ t.store.nextId = s.store.nextId
    ∧ t.store.lodged = s.store.lodged

/-- The record of a completed frame after its report (R100 step 3). -/
def Sys2Proof.Machine.Completed (b : Blacks) (flags : List Flag) (f g : Frame) : Prop :=
  g.state = .complete ∧ g.blacks = some b
    ∧ ∀ x, x ≠ .darkMissing → (hasFlag g.flags x = true ↔ hasFlag f.flags x = true ∨ x ∈ flags)

/-- A completed LIGHT frame awaits its dark decision, to which it is on its way (R13, R100 steps 3 to 5). -/
def Sys2Proof.Machine.AwaitsDecision (b : Blacks) (flags : List Flag) (k : Fin 16) (s t : State) : Prop :=
  Completed b flags (s.frame k) (t.frame k) ∧ t.req.causes.getLsbD Cause.shotDone.position = true
    ∧ (t.frame k).awaitDark = true ∧ (t.frame k).darkState = (s.frame k).darkState ∧ t.dark = s.dark
    ∧ t.store.nextId = s.store.nextId

/-- A LIGHT frame of shot `h` completes and its dark decision is made (R98 to R107). -/
def Sys2Proof.Machine.LightEnds (f : ReadoutFrame) (h : Shot) (b : Blacks) (flags : List Flag) (k : Fin 16) (time : Nat)
    (s t : State) : Prop :=
  let left := t.seq.shot = none ∧ t.seq.state = (if h.returnArmed then .armed else .idle)
  Completed b flags (s.frame k) (t.frame k) ∧ t.req.causes.getLsbD Cause.shotDone.position = true
    ∧ DarkDecided f.dark k time s t left (DarkOrdered h k time left s t)

/-- R98, R99, R100, R103, R104, R106, R107, R115: a LIGHT frame in readout that completes becomes COMPLETE with its
black levels, its flags and SHOT_DONE raised; its mean joins the black history. If it needs no dark its dark state is
NONE; if it needs one and lacks DRIFT a stored dark that matches is linked and gains a user. Otherwise a new dark of its
integration time is ordered in a slot of its own, the light frame PENDING, or, with no slot, it is MISSING with
STORE_FULL raised. Until its decision is made the record awaits it; a decision made once the sequencer has left the shot
orders no dark, and a frame that needs a new one is MISSING. A completion report that finds no record in READOUT is
dropped: the black history entry made before stands, and no record, cause, dark or shot changes. How long the report is
on its way to the frame store, and the frame to its decision, are free values of the model (log 23); that the readout
unit has left the frame meanwhile is its choice (log 49). -/
def Obligations.LightFrameCompletesWithItsDarkDecision : Prop :=
  ∀ (s : State) (f : ReadoutFrame), s.Awake →
    (∀ b flags, (∀ k, s.find f.id = some k → (s.frame k).state ≠ .readout) → Arrives (.completion f b flags) s fun t =>
      t.seq.state = s.seq.state ∧ t.readout.history = s.readout.history
        ∧ Keeps [.clock, .sequencer, .sync, .driver, .readout, .card, .develop, .handoffs] s t)
    ∧ ∀ (k : Fin 16) (time : Nat), s.find f.id = some k → (s.frame k).kind = .light →
      integrationOf (s.frame k) time → (∀ j, (s.frame j).state ≠ .free → s.find (s.frame j).id = some j) →
      (s.ListsBounded → s.readout.marker = true → s.readout.frame = some f → f.kind = .light →
        (s.frame k).state = .readout → s.handoffs = [] → ∃ b flags, Found f s b flags
          ∧ (∀ h, (∀ n ∈ s.lags.take 2, n = 0) → s.store.nextId ≠ 0 → s.seq.shot = some h → h.id = f.id → h.kind = .light →
            Yields .frameComplete s fun t => UnitLeft f b s t ∧ LightEnds f h b flags k time s t)
          ∧ (∀ n rest, s.lags = 0 :: (n + 1) :: rest → Yields .frameComplete s fun t =>
            UnitLeft f b s t ∧ AwaitsDecision b flags k s t ∧ t.seq = s.seq
              ∧ t.handoffs = [⟨.completed f, n + 1⟩] ∧ t.lags = rest)
          ∧ (∀ n rest, s.lags = (n + 1) :: rest → Yields .frameComplete s (CompletionHanded f k b flags (n + 1) s)))
      ∧ (∀ b flags, (s.frame k).state = .readout →
        (∀ h, s.lags.headD 0 = 0 → s.store.nextId ≠ 0 → s.seq.shot = some h → h.id = f.id → h.kind = .light →
          Arrives (.completion f b flags) s fun t =>
            LightEnds f h b flags k time s t ∧ t.readout.history = s.readout.history)
        ∧ ∀ n rest, s.lags = (n + 1) :: rest → ArrivesLeaving [⟨.completed f, n + 1⟩] (.completion f b flags) s fun t =>
          AwaitsDecision b flags k s t ∧ t.lags = rest ∧ t.readout.history = s.readout.history
            ∧ t.seq.state = s.seq.state ∧ t.seq.shot = s.seq.shot.map tickShot)
      ∧ ((s.frame k).state = .complete → (s.frame k).awaitDark = true →
        (∀ h, s.store.nextId ≠ 0 → s.seq.shot = some h → h.id = f.id → h.kind = .light → Arrives (.completed f) s fun t =>
          let left := t.seq.shot = none ∧ t.seq.state = (if h.returnArmed then .armed else .idle)
          DarkDecided f.dark k time s t left (DarkOrdered h k time left s t))
        ∧ ((∀ h, s.seq.shot = some h → h.id ≠ f.id) → Arrives (.completed f) s fun t =>
          DarkDecided f.dark k time s t True ((t.frame k).darkState = .missing
              ∧ hasFlag (t.frame k).flags .darkMissing = true)
            ∧ t.seq.state = s.seq.state ∧ t.seq.shot = s.seq.shot.map tickShot ∧ t.dark = s.dark
            ∧ t.store.nextId = s.store.nextId ∧ t.req.causes = s.req.causes))

/-- A DARK frame of shot `h` completes with its link (R100, R109, R114). -/
def Sys2Proof.Machine.DarkEnds (f : ReadoutFrame) (h : Shot) (b : Blacks) (flags : List Flag) (k : Fin 16)
    (s t : State) : Prop :=
  (t.frame k).state = .complete ∧ (t.frame k).blacks = some b
    ∧ (∀ x, hasFlag (t.frame k).flags x = true ↔ hasFlag (s.frame k).flags x = true ∨ x ∈ flags)
    ∧ t.req.causes.getLsbD Cause.darkDone.position = true
    ∧ t.dark.job = none ∧ t.seq.shot = none ∧ t.seq.state = (if h.returnArmed then .armed else .idle)
    ∧ (∀ light l, s.store.lodged = some (f.id, light) → s.find light = some l → l ≠ k →
      (t.frame k).darkUsers = 1 ∧ (t.frame l).darkState = .linked f.id ∧ (t.frame l).awaitDark = false
        ∧ t.store.lodged = none)
    ∧ ((∀ light, s.store.lodged ≠ some (f.id, light)) → (t.frame k).darkUsers = (s.frame k).darkUsers
      ∧ t.store.lodged = s.store.lodged)

/-- R100, R109, R114: a DARK frame in readout that completes becomes COMPLETE with its black levels and no test, with
DARK_DONE raised and the black history as it was. The light frame that awaits it is linked to it in the same change and
is its one user. The dark job ends and the sequencer enters the return state. How long the completion report is on its
way is a free value of the model (log 23), and that the readout unit has left the frame meanwhile its choice (log 49). -/
def Obligations.DarkFrameCompletesWithItsLink : Prop :=
  ∀ (s : State) (f : ReadoutFrame) (k : Fin 16), s.Awake → f.kind = .dark → s.find f.id = some k →
    (s.frame k).state = .readout → (s.frame k).kind = .dark →
    (s.readout.marker = true → s.readout.frame = some f → s.handoffs = [] → ∃ b flags, Found f s b flags
      ∧ (∀ h, s.lags.headD 0 = 0 → s.seq.shot = some h → h.id = f.id → Yields .frameComplete s fun t =>
        UnitLeft f b s t ∧ DarkEnds f h b flags k s t
          ∧ (NoUsers s f.id → s.develop.service = none → s.DriveLocked → s.seq.state = .readout →
            Keeps [.records, .store, .readout, .path, .dram, .darkUnit, .sequencer, .sync, .causes, .sent] s t))
      ∧ ∀ n rest, s.lags = (n + 1) :: rest → Yields .frameComplete s (CompletionHanded f k b flags (n + 1) s))
    ∧ ∀ b flags h, s.seq.shot = some h → h.id = f.id → Arrives (.completion f b flags) s fun t =>
      DarkEnds f h b flags k s t ∧ t.readout.history = s.readout.history

/-! ## Develop engine -/

/-- The checks of R119, in their order. -/
def Sys2Proof.Machine.viewChecks (s : State) (f : OpenViewFields) : List (Prop × ResultCode) :=
  [(3 < f.view.toNat ∨ 1 < f.form.toNat ∨ 2 < f.darkUse.toNat ∨ 1 < f.tone.toNat ∨ f.clip = 0, .badParam),
   (∀ v : Fin 4, v.val = f.view.toNat → (s.view v).state ≠ .closed, .busy),
   (s.find f.frame = none, .noFrame),
   (∀ k, s.find f.frame = some k → (s.frame k).state ≠ .readout ∧ (s.frame k).state ≠ .complete, .notReady),
   (f.darkUse ≠ 0 ∧ ∀ k, s.find f.frame = some k → (s.frame k).kind = .dark, .badParam),
   (f.darkUse = 2 ∧ ∀ j, s.find f.dark = some j → (s.frame j).state ≠ .complete ∨ (s.frame j).kind ≠ .dark, .badParam)]

/-- The dark that a view opened now uses (R120). -/
def Sys2Proof.Machine.darkUsed (f : OpenViewFields) (frame : Frame) : Option Word :=
  if f.darkUse = 2 then some f.dark
  else if f.darkUse = 1 ∧ frame.kind = .light then frame.darkState.link else none

/-- R119, R120, R121, R122: OPEN_VIEW is refused by the first check that applies, with nothing changed. Otherwise the
view is OPEN on the frame and the dark of its dark use, with the request's settings, late count 0 and rows available as
the frame stands, and each of the two records has one view pin more; the answer waits for the mirror writes of changed
records (R23), as that of CLOSE_VIEW does. CLOSE_VIEW answers BAD_PARAM for an index above 3 and changes nothing in a
CLOSED view. It closes a BROKEN view and an OPEN one, keeping form and late count; an OPEN view gives its pins back, and
a read in service of it completes at once with every byte zero. That this holds of a read across two apertures, whole,
when either of its views closes is the model's inference from R122 (log 26); that a closed view keeps its rows available
is the model's choice (log 52). -/
def Obligations.ViewsPinTheirRecords : Prop :=
  ∀ s : State, s.Awake → s.ReadInSpace →
    (∀ f, s.asks (.openView f) = true →
      (∀ c, FirstOf (viewChecks s f) (some c) → Yields (.openView f) s fun t => t.req.answer = some c ∧ Keeps [.answer] s t)
      ∧ (FirstOf (viewChecks s f) none → ∀ (v : Fin 4) k, v.val = f.view.toNat → s.find f.frame = some k →
        Yields (.openView f) s fun t =>
          let dark := darkUsed f (s.frame k)
          t.req.answer = some .ok
            ∧ t.develop = { s.develop with views := s.develop.views.set v {
                state := .open, frame := some f.frame, dark := dark
                form := if f.form = 1 then .quadRgb8 else .correctedRaw
                settings := some ⟨⟨f.g0, f.g1, f.g2, f.g3⟩, f.clip, f.tone == 1⟩, late := 0
                rows := if (s.frame k).state = .complete then s.height else (s.frame k).rowsStored } }
            ∧ (∀ j, t.frame j = { s.frame j with
                viewPins := (s.frame j).viewPins + pinsOn s (some f.frame) dark j })
            ∧ (∀ j, 0 < pinsOn s (some f.frame) dark j → (t.frame j).blocked = true) ∧ Awaits s t
            ∧ Keeps [.records, .develop, .answer] s t))
    ∧ ∀ i : Half, s.asks (.closeView i) = true →
      (3 < i.toNat → Yields (.closeView i) s fun t => t.req.answer = some .badParam ∧ Keeps [.answer] s t)
      ∧ ∀ v : Fin 4, v.val = i.toNat →
        let x := s.view v
        let views := s.develop.views.set v { x with state := .closed, frame := none, dark := none, settings := none }
        (x.state = .closed → Yields (.closeView i) s fun t => t.req.answer = some .ok ∧ Keeps [.answer] s t)
        ∧ (x.state = .broken → Yields (.closeView i) s fun t =>
          t.req.answer = some .ok ∧ t.develop = { s.develop with views := views } ∧ Keeps [.develop, .answer] s t)
        ∧ (x.state = .open → Yields (.closeView i) s fun t =>
          t.req.answer = some .ok
            ∧ (∀ j, t.frame j = { s.frame j with viewPins := (s.frame j).viewPins - pinsOn s x.frame x.dark j })
            ∧ Awaits s t ∧ t.develop.views = views ∧ t.develop.tone0 = s.develop.tone0 ∧ t.develop.tone1 = s.develop.tone1
            ∧ (¬ ServedBy s v → t.develop.service = s.develop.service ∧ Keeps [.records, .develop, .answer] s t)
            ∧ (∀ sv, ServedBy s v → s.develop.service = some sv → 0x80000000 ≤ sv.addr →
              s.path.processor = ⟨[], []⟩ → s.path.port = [] →
              t.develop.service = none ∧ t.sent = [.readData (List.replicate sv.len 0)]
                ∧ Keeps [.records, .develop, .path, .answer, .sent] s t))

/-- The 65 entries of a tone table in staging memory, clamped (R140). -/
def Sys2Proof.Machine.tableAt (s : State) (addr : Nat) : List Nat :=
  (List.range 65).map fun i => leValue (s.dram.readBytes (addr + 2 * i) 2)

/-- The read in service uses the idle bank of a tone table (R141). -/
def Sys2Proof.Machine.UsesIdleBank (s : State) (table : Bool) : Prop :=
  ∃ sv v g, s.develop.service = some sv ∧ ServedBy s v ∧ (s.view v).state = .open ∧ (s.view v).form = .quadRgb8
    ∧ (s.view v).settings = some g ∧ g.tone = table
    ∧ (if table then sv.toneBank1 ≠ s.develop.tone1.active else sv.toneBank0 ≠ s.develop.tone0.active)

/-- R140, R141: LOAD_TONE is refused BAD_PARAM for a table other than 0 or 1 and for a source that is odd or outside the
staging region. Otherwise its 65 entries are fetched, clamped to 4,095, and the request waits. The bank write puts them
in the idle bank, makes it active and answers, CLAMPED if an entry was clamped; while the read in service uses the idle
bank nothing is written. -/
def Obligations.LoadToneWritesTheIdleBank : Prop :=
  ∀ (s : State), s.Awake → s.ReadInSpace →
    (∀ (table : Half) (addr : Word), s.asks (.loadTone table addr) = true →
      let bad := 1 < table.toNat ∨ addr.toNat % 2 = 1 ∨ addr.toNat < 0x100000 ∨ 0x1000000 < addr.toNat + 130
      (bad → Yields (.loadTone table addr) s fun t => t.req.answer = some .badParam ∧ Keeps [.answer] s t)
      ∧ (¬bad → s.path.Idle → Yields (.loadTone table addr) s fun t =>
        t.develop = { s.develop with toneLoad := some ⟨table == 1, (tableAt s addr.toNat).map (min 4095),
            (tableAt s addr.toNat).any (4095 < ·)⟩ }
          ∧ t.req.answer = none ∧ t.path.Idle ∧ Keeps [.develop, .path, .answer] s t))
    ∧ ∀ l, s.develop.toneLoad = some l →
      (¬ UsesIdleBank s l.table → Yields .toneBankWrite s fun t =>
        let load (x : ToneTable) : ToneTable :=
          if x.active then { x with bank0 := l.entries, active := false } else { x with bank1 := l.entries, active := true }
        t.develop = { s.develop with
            toneLoad := none
            tone0 := if l.table then s.develop.tone0 else load s.develop.tone0
            tone1 := if l.table then load s.develop.tone1 else s.develop.tone1 }
          ∧ t.req.answer = some (if l.clamped then .clamped else .ok) ∧ Keeps [.develop, .answer] s t)
      ∧ (UsesIdleBank s l.table → Yields .toneBankWrite s (Keeps [] s))

/-- View `v` has a pixel of a read that is not available (R138). -/
def Sys2Proof.Machine.LateIn (s : State) (sv : Service) (v : Fin 4) : Prop :=
  ∃ a, sv.addr ≤ a ∧ a < sv.addr + sv.len ∧ 0x80000000 ≤ a ∧ viewOf a = v ∧ s.isPixel sv.live a = true
    ∧ s.pixelReady a = false

/-- The frame row that a pixel at an offset of the image needs last (R124, R125). -/
def Sys2Proof.Machine.lastRow (s : State) (form : Form) (o : Nat) : Nat :=
  match form with
  | .correctedRaw => o / 2 / s.width
  | .quadRgb8 => 2 * (o / 4 / (s.width / 2)) + 1

/-- The aperture byte at an offset of view `v` that the model computes for a read is 0 where the part answers 0: the
view was not OPEN when the read was taken, or is CLOSED or BROKEN now (R117, R123, R139), the offset lies past the image
(R123), or the rows available end at or below a row that the pixel needs (R127, R138). -/
def Sys2Proof.Machine.ZeroBytes (s : State) (sv : Service) : Prop :=
  ∀ (v : Fin 4) (o : Nat), o < 0x20000000 →
    sv.live.get v = false ∨ (s.view v).state ≠ .open ∨ s.imageSize (s.view v).form ≤ o
        ∨ (s.view v).rows ≤ lastRow s (s.view v).form o →
      s.apertureByte sv (0x80000000 + v.val * 0x20000000 + o) = 0

/-- R117, R123, R126, R127, R136, R138, R141, R171: a processor read that finds the port free is taken with the views
then OPEN and the tone banks then active: it computes when all its pixels are available, with their fetches issued, and
is held for the view wait limit otherwise. A read that finds the port busy waits behind. A read that computes completes
with its bytes sent to the processor; one whose wait has run out completes with the available pixels computed and the
late count of each view that has a late pixel one higher. A byte of an unavailable pixel, of no pixel, and of a view
that is not OPEN is 0. The model's choices: a read across two apertures counts late in each of them (log 26), the row
takes reads below 0x80000000 too (log 28), the fetches are one burst of 2 bytes for each sample (log 39), a held read
has none issued while it waits (log 44), and the bytes are computed from DRAM as it stands when the read completes (log
27). -/
def Obligations.ReadsComputeOrAreHeld : Prop :=
  ∀ s : State, s.Awake →
    (∀ (addr : Word) (len : Nat), 0 < len → len ≤ 64 → addr.toNat + len ≤ 0x100000000 →
      let live : Four Bool := ⟨(s.view 0).state == .open, (s.view 1).state == .open, (s.view 2).state == .open,
        (s.view 3).state == .open⟩
      let sv : Service := ⟨addr.toNat, len, live, s.develop.tone0.active, s.develop.tone1.active, .computing⟩
      let below := ((List.range len).map (addr.toNat + ·)).filter (· < 0x80000000)
      let asked := s.path.processor.waiting ++ readBursts below
      (s.portBusy = false → AllReady s sv → Yields (.apertureRead addr len) s fun t =>
        t.develop = { s.develop with service := some sv }
          ∧ t.path = { s.path with
              processor := { s.path.processor with waiting := asked }
              develop := { s.path.develop with waiting := s.path.develop.waiting ++ s.readFetches sv } }
          ∧ Keeps [.develop, .path] s t)
      ∧ (s.portBusy = false → ¬ AllReady s sv → Yields (.apertureRead addr len) s fun t =>
        t.develop = { s.develop with service := some { sv with cond := .held (some (s.setup.exposure.viewWait * 1000)) } }
          ∧ t.path = { s.path with processor := { s.path.processor with waiting := asked } }
          ∧ Keeps [.develop, .path] s t)
      ∧ (s.portBusy = true → Yields (.apertureRead addr len) s fun t =>
        t.path = { s.path with port := s.path.port ++ [.read addr.toNat len] } ∧ Keeps [.path] s t))
    ∧ (∀ sv, s.develop.service = some sv → s.path.Idle → s.path.port = [] → 0x80000000 ≤ sv.addr →
      s.path.processor.got = [] →
      let bytes := (List.range sv.len).map fun i => s.apertureByte sv (sv.addr + i)
      (sv.cond = .computing → Yields .apertureReadComplete s fun t =>
        t.sent = [.readData bytes] ∧ t.develop = { s.develop with service := none } ∧ t.path.Idle
          ∧ Keeps [.develop, .path, .sent] s t)
      ∧ (sv.cond = .held (some 0) → Yields .heldReadExpiry s fun t =>
        t.sent = [.readData bytes] ∧ t.develop.service = none ∧ t.path.Idle
          ∧ (∀ v, LateIn s sv v → t.view v = { s.view v with late := satInc 65535 (s.view v).late })
          ∧ (∀ v, ¬ LateIn s sv v → t.view v = s.view v)
          ∧ Keeps [.develop, .path, .sent] s t))
    ∧ ((∀ sv, s.develop.service = some sv → ∃ w, sv.cond = .held w ∧ w ≠ some 0) →
      Yields .apertureReadComplete s (Keeps [] s) ∧ Yields .heldReadExpiry s (Keeps [] s))
    ∧ ∀ sv, ZeroBytes s sv

/-- The raw sample of a slot at a row and column (R2). -/
def Sys2Proof.Machine.rawSample (s : State) (k : Fin 16) (p : Nat × Nat) : Nat :=
  leValue (s.dram.readBytes (0x1000000 + k.val * s.store.layout.slotSize + (p.1 * s.store.layout.rowWidth + p.2) * 2) 2)

/-- The black level of a record for a channel: the pedestal while it has none (R128). -/
def Sys2Proof.Machine.blackOf (s : State) (k : Fin 16) (c : Fin 4) : Nat :=
  ((s.frame k).blacks.map fun b => b.level.get c).getD s.setup.sensor.pedestal

/-- The developed value of a sample (R128 to R131): black and dark excess subtracted, the gain applied in 4,096ths and
rounded, capped at 65,535, which a sample at the white clip gives at once. -/
def Sys2Proof.Machine.developed (s : State) (g : ViewSettings) (k : Fin 16) (dark : Option (Fin 16)) (p : Nat × Nat) : Nat :=
  let c := channelOf s.setup.sensor.cfa p.1 p.2
  let excess : Int := match dark with
    | some d => if rawSample s d p < g.clip.toNat then (rawSample s d p : Int) - blackOf s d c else 0
    | none => 0
  if g.clip.toNat ≤ rawSample s k p then 65535
  else min 65535 (((max 0 ((rawSample s k p : Int) - blackOf s k c - excess)).toNat * (g.gains.get c).toNat + 2048) / 4096)

/-- A colour byte is the tone level of a value in sixteenths, rounded and capped at 255 (R133, R134): the level lies on
the line between two entries of the table. -/
def Sys2Proof.Machine.IsColour (tone : List Nat) (v byte : Nat) : Prop :=
  ∃ t0 t1 y : Nat, tone[v / 1024]? = some t0 ∧ tone[v / 1024 + 1]? = some t1
    ∧ ((y : Int) - t0) * 1024 ≤ ((t1 : Int) - t0) * (v % 1024 : Nat) + 512
    ∧ ((t1 : Int) - t0) * (v % 1024 : Nat) + 512 < ((y : Int) - t0 + 1) * 1024 ∧ byte = min 255 ((y + 8) / 16)

/-- R123, R124, R125, R128 to R135: the byte at an offset of the aperture of a view that was OPEN when the read was
taken and still is, its pixel available, is a byte of the developed pixel: in CORRECTED_RAW the low or high byte of the
sample's developed value; in QUAD_RGB8 the colour byte of the quad's red sample, of the rounded mean of its two greens
or of its blue, or the mark byte. -/
def Obligations.ApertureBytesAreDevelopedPixels : Prop :=
  ∀ (s : State) (sv : Service) (v : Fin 4) (k : Fin 16) (g : ViewSettings) (id : Word) (o : Nat),
    sv.live.get v = true → (s.view v).state = .open → (s.view v).settings = some g → (s.view v).frame = some id →
    s.find id = some k → o < 0x20000000 →
    let dark := (s.view v).dark.bind s.find
    let byte := s.apertureByte sv (0x80000000 + v.val * 0x20000000 + o)
    let tone := if g.tone then (if sv.toneBank1 then s.develop.tone1.bank1 else s.develop.tone1.bank0)
      else (if sv.toneBank0 then s.develop.tone0.bank1 else s.develop.tone0.bank0)
    ((s.view v).form = .correctedRaw → o < s.width * s.height * 2 → o / 2 / s.width < (s.view v).rows →
      let value := developed s g k dark (o / 2 / s.width, o / 2 % s.width + s.setup.sensor.ob)
      byte = BitVec.ofNat 8 (if o % 2 = 0 then value % 256 else value / 256))
    ∧ ((s.view v).form = .quadRgb8 → o < s.width * s.height → tone.length = 65 → (∀ e ∈ tone, e ≤ 4095) →
      let row := 2 * (o / 4 / (s.width / 2))
      let col := 2 * (o / 4 % (s.width / 2)) + s.setup.sensor.ob
      let quad := [(row, col), (row, col + 1), (row + 1, col), (row + 1, col + 1)]
      let channel (p : Nat × Nat) := channelOf s.setup.sensor.cfa p.1 p.2
      row + 1 < (s.view v).rows → ∃ r g1 g2 b, [r, g1, g2, b].Perm quad ∧ channel r = 0 ∧ channel g1 = 1
        ∧ channel g2 = 2 ∧ channel b = 3
        ∧ (o % 4 = 0 → IsColour tone (developed s g k dark r) byte.toNat)
        ∧ (o % 4 = 1 → IsColour tone ((developed s g k dark g1 + developed s g k dark g2 + 1) / 2) byte.toNat)
        ∧ (o % 4 = 2 → IsColour tone (developed s g k dark b) byte.toNat)
        ∧ (o % 4 = 3 → byte = if ∃ p ∈ quad, g.clip.toNat ≤ rawSample s k p then 1
          else if ∃ d, dark = some d ∧ ∃ p ∈ quad, g.clip.toNat ≤ rawSample s d p then 2 else 0))
    ∧ ((s.view v).form = .correctedRaw → s.width * s.height * 2 ≤ o → byte = 0)
    ∧ ((s.view v).form = .quadRgb8 → s.width * s.height ≤ o → byte = 0)

/-! ## Card engine -/

/-- The active job `j` has failed, `rest` behind it (R159): the transfer closed with the end command, the job in the
completion list with its sectors done, the queue HALTED, CARD_HALTED raised. -/
def Sys2Proof.Machine.JobFailed (reason : FailReason) (j : Job) (rest : List Job) (s t : State) : Prop :=
  t.card.jobs = rest ∧ t.card.halted = true ∧ t.card.transfer = none ∧ t.card.pendingEnd = none
    ∧ t.card.completions = (⟨j.tag, .failed reason, j.sectorsDone⟩ :: s.card.completions).take 8
    ∧ t.req.causes = s.req.causes ||| Cause.cardHalted.bit
    ∧ t.sent = (if s.card.transfer = none then [] else [.cardEnd]) ∧ t.card.state = s.card.state
    ∧ t.card.capacity = s.card.capacity

/-- The records after job `j` has left the queue: the card pin of a WRITE_FRAME is given back, with the settled mark when
`mark` is set (R11, R158). -/
def Sys2Proof.Machine.PinReturned (j : Job) (mark : Bool) (s t : State) : Prop :=
  ∀ k, t.frame k = if j.kind = .writeFrame ∧ s.find j.frame = some k then
      { s.frame k with cardPins := (s.frame k).cardPins - 1, settled := (s.frame k).settled || mark }
    else s.frame k

/-- The head job `j` becomes ACTIVE, `rest` behind it (R155): a read opens its transfer; a write samples the switch and
fails PROTECTED, or opens its transfer and fetches its first sector or waits for its rows; a write of a spoiled frame
fails. -/
def Sys2Proof.Machine.JobStarts (j : Job) (rest : List Job) (s t : State) : Prop :=
  let running := { j with active := true } :: rest
  (j.kind = .readMem → t.card.jobs = running ∧ t.sent = [.cardRead j.start]
    ∧ t.card.transfer = some ⟨false, 0, [], .receiving, .none, some 500000⟩ ∧ t.path = s.path
    ∧ t.req.causes = s.req.causes)
  ∧ (j.kind ≠ .readMem → s.pins.wprot = true →
    JobFailed .writeProtected j rest s t ∧ t.card.wpSample = some true)
  ∧ (j.kind = .writeMem → s.pins.wprot = false → t.card.jobs = running ∧ t.sent = [.cardWrite j.start]
    ∧ t.card.transfer = some ⟨true, 0, [], .fetching, .none, none⟩ ∧ t.card.wpSample = some false
    ∧ t.path = { s.path with card := { s.path.card with
        waiting := s.path.card.waiting ++ readBursts ((List.range 512).map (j.address + ·)) } }
    ∧ t.req.causes = s.req.causes)
  ∧ ∀ k, j.kind = .writeFrame → s.pins.wprot = false → s.find j.frame = some k →
    ((s.frame k).state = .spoiled → JobFailed .sourceLost j rest s t)
    ∧ ((s.frame k).state ≠ .spoiled → t.card.jobs = running ∧ t.sent = [.cardWrite j.start]
      ∧ t.card.wpSample = some false ∧ t.req.causes = s.req.causes
      ∧ (let rows := if (s.frame k).state = .complete then s.height else (s.frame k).rowsStored
        let stored := min (j.offset + 512) s.store.layout.frameSize ≤ rows * s.store.layout.rowWidth * 2
        t.card.rows = rows
          ∧ t.card.transfer = some ⟨true, 0, [], if stored then .fetching else .waitingRows, .none, none⟩))

/-- The checks of R152, in their order. -/
def Sys2Proof.Machine.cardJobChecks (s : State) (f : CardJobFields) : List (Prop × ResultCode) :=
  let length := f.length.toNat
  let address := f.address.toNat
  [(s.card.state ≠ .ready, .noCard), (16 ≤ s.card.jobs.length, .queueFull),
   ((f.kind ≠ 1 ∧ f.kind ≠ 2 ∧ f.kind ≠ 3) ∨ length = 0 ∨ length % 512 ≠ 0 ∨ (f.kind = 1 ∧ f.offset.toNat % 512 ≠ 0)
     ∨ (f.kind ≠ 1 ∧ (address % 512 ≠ 0 ∨ address < 0x100000 ∨ 0x1000000 < address + length))
     ∨ (s.card.capacity.map BitVec.toNat).getD 0 < f.start.toNat + length / 512, .badParam),
   (f.kind ≠ 3 ∧ s.card.wpSample = some true, .writeProtected),
   (f.kind = 1 ∧ s.find f.frame = none, .noFrame),
   (f.kind = 1 ∧ ∀ k, s.find f.frame = some k → (s.frame k).state ≠ .readout ∧ (s.frame k).state ≠ .complete,
     .notReady),
   (f.kind = 1 ∧ (s.store.layout.frameSize + 511) / 512 * 512 < f.offset.toNat + length, .badParam)]

/-- The record an accepted CARD_JOB makes (R153). -/
def Sys2Proof.Machine.jobOf (f : CardJobFields) : Job where
  tag := f.tag
  kind := if f.kind = 1 then .writeFrame else if f.kind = 2 then .writeMem else .readMem
  frame := f.frame
  offset := f.offset.toNat
  address := f.address.toNat
  length := f.length.toNat
  start := f.start
  consign := f.consign
  active := false
  sectorsDone := 0

/-- R152, R153, R155, R162: CARD_JOB is refused by the first check that applies, with nothing changed. Otherwise its job
joins the tail of the queue and pins its frame; it waits behind an active job and in a HALTED queue, and becomes ACTIVE
at once in an empty running one. The answer waits for the mirror entry of its frame and for the card queue mirror, also
when the job fails as it becomes ACTIVE. CARD_RESUME makes a HALTED queue run, its head becoming ACTIVE, and answers
NOT_HALTED otherwise. The model's choices: a sector's fetch has one burst for each 64-byte block (log 39), and a
transfer's sector buffer holds no bytes before its first sector (log 57). -/
def Obligations.CardJobsQueueAndStart : Prop :=
  ∀ (s : State), s.Awake →
    (∀ f, s.asks (.cardJob f) = true →
      let j := jobOf f
      let awaited (t : State) := t.card.mirrorDue = true ∧ t.req.waitsQueue = true ∧ Awaits s t
        ∧ ∀ k, j.kind = .writeFrame → s.find j.frame = some k → k ∈ t.store.mirrorDue ∧ k ∈ t.req.waits
      (∀ c, FirstOf (cardJobChecks s f) (some c) → Yields (.cardJob f) s fun t =>
        t.req.answer = some c ∧ Keeps [.answer] s t)
      ∧ (FirstOf (cardJobChecks s f) none → s.card.halted = true ∨ s.card.activeJob ≠ none → Yields (.cardJob f) s fun t =>
        t.req.answer = some .ok ∧ awaited t ∧ t.card = { s.card with jobs := s.card.jobs ++ [j], mirrorDue := true }
          ∧ (∀ k, t.frame k = if j.kind = .writeFrame ∧ s.find j.frame = some k then
              { s.frame k with cardPins := (s.frame k).cardPins + 1 } else s.frame k)
          ∧ Keeps [.records, .card, .answer] s t)
      ∧ (FirstOf (cardJobChecks s f) none → s.card.halted = false → s.card.jobs = [] → s.card.transfer = none →
        Yields (.cardJob f) s fun t =>
          t.req.answer = some .ok ∧ awaited t ∧ JobStarts j [] s t
            ∧ (∀ k, t.frame k = if j.kind = .writeFrame ∧ s.find j.frame = some k ∧ s.pins.wprot = false then
                { s.frame k with cardPins := (s.frame k).cardPins + 1 } else s.frame k)
            ∧ Keeps [.records, .card, .path, .answer, .causes, .sent] s t))
    ∧ (s.asks .cardResume = true →
      (s.card.halted = false → Yields .cardResume s fun t => t.req.answer = some .notHalted ∧ Keeps [.answer] s t)
      ∧ (s.card.halted = true → s.card.jobs = [] → Yields .cardResume s fun t =>
        t.req.answer = some .ok ∧ t.card = { s.card with halted := false } ∧ Keeps [.card, .answer] s t)
      ∧ (∀ j rest, s.card.halted = true → s.card.jobs = j :: rest → j.active = false → s.card.state = .ready →
        s.card.transfer = none → Yields .cardResume s fun t =>
          t.req.answer = some .ok ∧ t.card.mirrorDue = true ∧ Awaits s t ∧ JobStarts j rest s t
            ∧ (t.card.halted = false → ∀ k, t.frame k = s.frame k)
            ∧ Keeps [.records, .card, .path, .answer, .causes, .sent] s t))

/-- The records after some jobs have left the queue: each of their WRITE_FRAME jobs gives its pin back. -/
def Sys2Proof.Machine.PinsReturned (jobs : List Job) (s t : State) : Prop :=
  ∀ k, t.frame k = { s.frame k with cardPins := (s.frame k).cardPins
    - (jobs.filter fun j => j.kind == .writeFrame && s.find j.frame == some k).length }

/-- R145, R147, R161, R163: CARD_FLUSH cancels every queued job in order and makes the queue RUNNING, the active job
running on; its answer waits for the mirror entries of changed records and for the card queue mirror. A level of the
detect line that differs from the detect state starts its timer, one that agrees stops it. When the timer has run 25 ms,
an insertion starts identification within 1 s, and a removal makes the card ABSENT, fails every job CARD_GONE in order,
empties the queue, schedules its mirror and raises CARD_CHANGE. The model's choices: DETECT_LINE_CHANGE carries the
level of the write-protect switch with it (log 10), and a flush of an empty queue writes no mirror (log 41). -/
def Obligations.FlushAndRemovalEmptyTheQueue : Prop :=
  ∀ s : State, s.Awake →
    (s.asks .cardFlush = true → Yields .cardFlush s fun t =>
      let queued := s.card.jobs.filter fun j => !j.active
      t.req.answer = some .ok ∧ t.card.jobs = s.card.jobs.filter (·.active) ∧ t.card.halted = false
        ∧ t.card.transfer = s.card.transfer ∧ t.card.pendingEnd = s.card.pendingEnd ∧ t.card.state = s.card.state
        ∧ (s.ListsBounded → t.card.completions
            = ((queued.map fun j => (⟨j.tag, .cancelled, j.sectorsDone⟩ : Completion)).reverse ++ s.card.completions).take 8)
        ∧ PinsReturned queued s t ∧ Awaits s t
        ∧ (s.card.jobs ≠ [] → t.card.mirrorDue = true ∧ t.req.waitsQueue = true)
        ∧ (s.card.jobs = [] → t.card.mirrorDue = s.card.mirrorDue ∧ t.req.waitsQueue = false)
        ∧ Keeps [.records, .card, .answer] s t)
    ∧ (∀ cardIn protect, Yields (.detectLineChange cardIn protect) s fun t =>
      t.pins = { s.pins with detectIn := cardIn, wprot := protect }
        ∧ t.card = { s.card with
            debounce := if cardIn = s.card.detectIn then none else some (s.card.debounce.getD 25000) }
        ∧ Keeps [.pins, .card] s t)
    ∧ (s.card.debounce = some 0 →
      (s.pins.detectIn = true → s.card.state = .absent → Yields .detectDebounceExpiry s fun t =>
        t.card = { s.card with
            detectIn := true, debounce := none, state := .initializing, initStage := some .identify
            initLimit := some 1000000 }
          ∧ t.sent = [.cardIdentify] ∧ Keeps [.card, .sent] s t)
      ∧ (s.pins.detectIn = true ∧ s.card.state ≠ .absent ∨ s.pins.detectIn = false ∧ s.card.state = .absent →
        Yields .detectDebounceExpiry s fun t =>
          t.card = { s.card with detectIn := s.pins.detectIn, debounce := none } ∧ Keeps [.card] s t)
      ∧ (s.pins.detectIn = false → s.card.state ≠ .absent → Yields .detectDebounceExpiry s fun t =>
        t.card.detectIn = false ∧ t.card.debounce = none ∧ t.card.state = .absent ∧ t.card.initStage = none
          ∧ t.card.initLimit = none ∧ t.card.capacity = none ∧ t.card.wpSample = none ∧ t.card.jobs = []
          ∧ t.card.halted = false ∧ t.card.transfer = none ∧ t.card.pendingEnd = none ∧ t.card.mirrorDue = true
          ∧ (s.ListsBounded → t.card.completions
              = ((s.card.jobs.map fun j => (⟨j.tag, .failed .cardGone, j.sectorsDone⟩ : Completion)).reverse
                  ++ s.card.completions).take 8)
          ∧ PinsReturned s.card.jobs s t ∧ t.req.causes = s.req.causes ||| Cause.cardChange.bit
          ∧ Keeps [.records, .card, .path, .causes] s t))

/-- R146, R148: the identity block whose CRC-16 matches is followed by Read capacity; a capacity answer whose CRC-16
matches, with a count other than 0, makes the card READY with that capacity and a fresh write-protect sample. A failed
answer, a count of 0 and the initialization limit make it UNUSABLE. Each end raises CARD_CHANGE. An answer that is not
owed is ignored; bytes that are none of an answer stop the machine (log 14). The count's byte order is the model's (log
20). -/
def Obligations.InitializationEndsReadyOrUnusable : Prop :=
  ∀ (s : State) (bytes : List Byte) (check : Half), s.Awake →
    let unusable := { s.card with state := .unusable, initStage := none, initLimit := none }
    let initializing (stage : InitStage) := s.card.state = .initializing ∧ s.card.initStage = some stage
    (bytes.length = 16 → initializing .identify →
      (crc16 bytes = check → Yields (.identifyAnswer bytes check) s fun t =>
        t.card = { s.card with initStage := some .capacity } ∧ t.sent = [.cardReadCapacity] ∧ Keeps [.card, .sent] s t)
      ∧ (crc16 bytes ≠ check → Yields (.identifyAnswer bytes check) s fun t =>
        t.card = unusable ∧ t.req.causes = s.req.causes ||| Cause.cardChange.bit ∧ Keeps [.card, .causes] s t))
    ∧ (bytes.length = 4 → initializing .capacity →
      (∀ count : Word, bytes = leBytes 4 count.toNat → crc16 bytes = check → count ≠ 0 → s.card.jobs = [] →
        Yields (.capacityAnswer bytes check) s fun t =>
          t.card = { s.card with
              state := .ready, initStage := none, initLimit := none, capacity := some count
              wpSample := some s.pins.wprot }
            ∧ t.req.causes = s.req.causes ||| Cause.cardChange.bit ∧ Keeps [.card, .causes] s t)
      ∧ (crc16 bytes ≠ check ∨ bytes = [0, 0, 0, 0] → Yields (.capacityAnswer bytes check) s fun t =>
        t.card = unusable ∧ t.req.causes = s.req.causes ||| Cause.cardChange.bit ∧ Keeps [.card, .causes] s t))
    ∧ (s.card.state = .initializing → s.card.initLimit = some 0 → Yields .cardInitTimeout s fun t =>
      t.card = unusable ∧ t.req.causes = s.req.causes ||| Cause.cardChange.bit ∧ Keeps [.card, .causes] s t)
    ∧ (bytes.length = 16 → ¬ initializing .identify → Yields (.identifyAnswer bytes check) s (Keeps [] s))
    ∧ (bytes.length = 4 → ¬ initializing .capacity → Yields (.capacityAnswer bytes check) s (Keeps [] s))
    ∧ (bytes.length ≠ 16 → exec (.identifyAnswer bytes check) s = .refused .notATransaction)
    ∧ (bytes.length ≠ 4 → exec (.capacityAnswer bytes check) s = .refused .notATransaction)

/-- Every client but the card engine's is idle. -/
def Sys2Proof.Machine.MemPath.CardAlone (p : MemPath) : Prop := ({ p with card := ⟨[], []⟩ } : MemPath).Idle

/-- The head job has left the queue, its transfer closed, and the queue runs on: it is empty, or its next job, `next`,
becomes ACTIVE at once (R155). `list` and `causes` are the completion list and the cause set before that. -/
def Sys2Proof.Machine.QueueRunsOn (rest : List Job) (list : List Completion) (causes : BitVec 14) (s t : State) : Prop :=
  let ended := t.card.completions = list.take 8 ∧ t.req.causes = causes
  (rest = [] → ended ∧ t.card.jobs = [] ∧ t.card.transfer = none ∧ t.sent = [.cardEnd] ∧ t.card.halted = s.card.halted)
    ∧ ∀ next more, rest = next :: more → next.active = false → s.card.halted = false → s.card.state = .ready →
      let running := t.card.jobs = { next with active := true } :: more
      let failed (reason : FailReason) := t.card.jobs = more ∧ t.card.halted = true ∧ t.card.transfer = none
        ∧ t.card.completions = (⟨next.tag, .failed reason, next.sectorsDone⟩ :: list).take 8
        ∧ t.req.causes = causes ||| Cause.cardHalted.bit ∧ t.sent = [.cardEnd]
      let writes := ended ∧ running ∧ t.sent = [.cardEnd, .cardWrite next.start] ∧ t.card.wpSample = some false
      (next.kind = .readMem → ended ∧ running ∧ t.sent = [.cardEnd, .cardRead next.start]
        ∧ t.card.transfer = some ⟨false, 0, [], .receiving, .none, some 500000⟩)
      ∧ (next.kind ≠ .readMem → s.pins.wprot = true → failed .writeProtected)
      ∧ (next.kind = .writeMem → s.pins.wprot = false →
        writes ∧ t.card.transfer = some ⟨true, 0, [], .fetching, .none, none⟩)
      ∧ ∀ k, next.kind = .writeFrame → s.pins.wprot = false → s.find next.frame = some k →
        ((s.frame k).state = .spoiled → failed .sourceLost)
        ∧ ((s.frame k).state ≠ .spoiled →
          let rows := if (s.frame k).state = .complete then s.height else (s.frame k).rowsStored
          let stored := min (next.offset + 512) s.store.layout.frameSize ≤ rows * s.store.layout.rowWidth * 2
          writes ∧ t.card.rows = rows
            ∧ t.card.transfer = some ⟨true, 0, [], if stored then .fetching else .waitingRows, .none, none⟩)

/-- The active job `j` has succeeded, `rest` behind it (R158): DONE in the completion list with all its sectors,
CARD_DONE raised, its pin given back, and the queue runs on. -/
def Sys2Proof.Machine.JobDone (j : Job) (rest : List Job) (s t : State) : Prop :=
  QueueRunsOn rest (⟨j.tag, .done, j.sectorsDone + 1⟩ :: s.card.completions) (s.req.causes ||| Cause.cardDone.bit) s t
    ∧ (rest = [] → PinReturned j j.consign s t)

/-- The active job `j` has ended by a pending end that RESTART made or left standing (R167, R168): FAILED with its
reason and `done` sectors done, the queue not halted and no cause raised, and the queue runs on. -/
def Sys2Proof.Machine.JobEndedQuietly (reason : FailReason) (done : Nat) (j : Job) (rest : List Job) (s t : State) : Prop :=
  QueueRunsOn rest (⟨j.tag, .failed reason, done⟩ :: s.card.completions) s.req.causes s t
    ∧ (rest = [] → PinReturned j false s t)

/-- R149, R156, R157, R158, R159, R160, R167, R168: a fetched sector is sent with its CRC-16, filled up with zeros, and
its limit starts; a token other than ACCEPTED fails the job, ACCEPTED makes the card busy, the next sector's bytes being
fetched once it may be sent; the end of the busy counts the sector, sends or fetches the next one, and after the last
one ends the job DONE; the sector limit fails it BUSY_TIMEOUT. A pending end takes the job once its sector is finished,
counted if the card programmed it: one of its own halts the queue, one of RESTART's does not. Once it is recorded no
further sector is sent. The model's choices: none is then fetched (log 40), a sector that has its bytes is sent and
awaits its token within the same step, its limit running from there (log 19), a fetch has one burst for each 64-byte
block (log 39), rows available stay as they are in a job that writes no frame (log 56), and a transfer's sector buffer
holds no bytes before its first sector (log 57). -/
def Obligations.WriteSectorsRunToTheirEnd : Prop :=
  ∀ (s : State) (j : Job) (rest : List Job) (x : Transfer), s.Awake → s.card.jobs = j :: rest → j.active = true →
    s.card.transfer = some x → x.write = true →
      let failed (reason : FailReason) (i : Instr) := Yields i s fun t =>
        JobFailed reason j rest s t ∧ PinReturned j false s t ∧ Keeps [.records, .card, .path, .causes, .sent] s t
      let counted := { j with sectorsDone := j.sectorsDone + 1 }
      (∀ addrs, x.cond = .fetching → s.sectorAddrs j x.next = addrs → addrs.length ≤ 512 →
        s.path.card = ⟨readBursts addrs, []⟩ → s.path.CardAlone → Yields .sectorFetched s fun t =>
          let bytes := addrs.map s.dram.read ++ List.replicate (512 - addrs.length) 0
          t.sent = [.cardSector bytes (crc16 bytes)]
            ∧ t.card = { s.card with transfer := some { x with
                buffer := bytes, cond := .awaitingToken, prefetch := .none, limit := some 500000 } }
            ∧ t.path.Idle ∧ Keeps [.card, .path, .sent] s t)
      ∧ (∀ addrs, x.cond = .busy → x.prefetch = .fetching → s.sectorAddrs j (x.next + 1) = addrs → addrs.length ≤ 512 →
        s.path.card = ⟨readBursts addrs, []⟩ → s.path.CardAlone → Yields .sectorFetched s fun t =>
          t.card = { s.card with transfer := some { x with
              prefetch := .ready (addrs.map s.dram.read ++ List.replicate (512 - addrs.length) 0) } }
            ∧ t.path.Idle ∧ Keeps [.card, .path] s t)
      ∧ (x.cond = .awaitingToken → s.card.pendingEnd = none →
        failed .crcReject (.cardToken .crcReject) ∧ failed .writeFault (.cardToken .writeFault))
      ∧ (x.cond = .awaitingToken →
        let fetches := s.card.pendingEnd = none ∧ x.next + 1 < j.sectors ∧ x.prefetch = .none
          ∧ s.sendable j (x.next + 1) = true
        (¬fetches → Yields (.cardToken .accepted) s fun t =>
          t.card = { s.card with transfer := some { x with cond := .busy } } ∧ Keeps [.card] s t)
        ∧ (fetches → Yields (.cardToken .accepted) s fun t =>
            t.card = { s.card with transfer := some { x with cond := .busy, prefetch := .fetching } }
              ∧ t.path.card.waiting = s.path.card.waiting ++ readBursts (s.sectorAddrs j (x.next + 1))
              ∧ Keeps [.card, .path] s t))
      ∧ (x.cond = .busy → s.card.pendingEnd = none →
        (∀ bytes, x.next + 1 < j.sectors → x.prefetch = .ready bytes → Yields .cardBusyEnd s fun t =>
          t.card.jobs = counted :: rest ∧ t.sent = [.cardSector bytes (crc16 bytes)]
            ∧ t.card.transfer = some { x with
                next := x.next + 1, buffer := bytes, cond := .awaitingToken, prefetch := .none, limit := some 500000 }
            ∧ Keeps [.card, .sent] s t)
        ∧ (x.next + 1 < j.sectors → x.prefetch = .fetching → Yields .cardBusyEnd s fun t =>
          t.card.jobs = counted :: rest
            ∧ t.card.transfer = some { x with next := x.next + 1, cond := .fetching, prefetch := .none, limit := none }
            ∧ Keeps [.card] s t)
        ∧ (x.next + 1 < j.sectors → x.prefetch = .none → Yields .cardBusyEnd s fun t =>
          let ready := s.sendable j (x.next + 1)
          t.card.jobs = counted :: rest
            ∧ t.card.transfer = some { x with
                next := x.next + 1, cond := if ready then .fetching else .waitingRows, prefetch := .none, limit := none }
            ∧ t.path.card.waiting
                = s.path.card.waiting ++ (if ready then readBursts (s.sectorAddrs j (x.next + 1)) else [])
            ∧ Keeps [.card, .path] s t)
        ∧ (j.sectors ≤ x.next + 1 → Yields .cardBusyEnd s fun t =>
          JobDone j rest s t ∧ (rest = [] → Keeps [.records, .card, .path, .causes, .sent] s t)))
      ∧ (x.limit = some 0 → s.card.pendingEnd = none → failed .busyTimeout .sectorLimitExpiry)
      ∧ ∀ p, s.card.pendingEnd = some p →
        (p.quiet = false →
          (x.cond = .busy → Yields .cardBusyEnd s fun t =>
            JobFailed p.reason counted rest s t ∧ PinReturned j false s t
              ∧ Keeps [.records, .card, .path, .causes, .sent] s t)
          ∧ (x.cond = .awaitingToken → failed p.reason (.cardToken .crcReject) ∧ failed p.reason (.cardToken .writeFault))
          ∧ (x.limit = some 0 → failed p.reason .sectorLimitExpiry))
        ∧ (p.quiet = true →
          (x.cond = .busy → Yields .cardBusyEnd s (JobEndedQuietly p.reason (j.sectorsDone + 1) j rest s))
          ∧ (x.cond = .awaitingToken →
            Yields (.cardToken .crcReject) s (JobEndedQuietly p.reason j.sectorsDone j rest s)
            ∧ Yields (.cardToken .writeFault) s (JobEndedQuietly p.reason j.sectorsDone j rest s))
          ∧ (x.limit = some 0 → Yields .sectorLimitExpiry s (JobEndedQuietly p.reason j.sectorsDone j rest s)))

/-- R150, R158, R159, R160, R167: a read sector whose CRC-16 matches is issued to its place in the staging region, and
the next sector's limit starts; one whose CRC-16 does not match, and the sector limit, fail the job READ_ERROR. Once its
writes have reached DRAM the sector is done, and after the last one the job ends DONE. A sector that follows the last
one of the job is none of it and changes nothing. A pending end takes the job once its sector is stored, and no further
sector is then taken, the one being stored counting as the sector in progress (log 47). A sector that arrives while the
one before is being stored has that one stored first (log 25). Its writes are one burst for each 64-byte block (log 39).
The model's choices too: rows available stay as they are meanwhile (log 56), and a transfer's sector buffer holds no
bytes before its first sector (log 57). Bytes that are no sector stop the machine (log 14). -/
def Obligations.ReadSectorsRunToTheirEnd : Prop :=
  ∀ (s : State) (j : Job) (rest : List Job) (x : Transfer), s.Awake → s.card.jobs = j :: rest → j.active = true →
    s.card.transfer = some x → x.write = false →
      let failed (i : Instr) := Yields i s fun t =>
        JobFailed .readError j rest s t ∧ PinReturned j false s t ∧ Keeps [.records, .card, .path, .causes, .sent] s t
      let counted := { j with sectorsDone := j.sectorsDone + 1 }
      let stored (t : State) := t.dram = s.path.card.waiting.foldl burstDram s.dram
      let writes (bytes : List Byte) := writeBursts (cellsAt (j.address + 512 * x.next) bytes)
      let taken (bytes : List Byte) := some { x with
        buffer := bytes, next := x.next + 1, limit := if x.next + 1 < j.sectors then some 500000 else none }
      (∀ bytes check, bytes.length = 512 → s.card.pendingEnd = none → x.next ≤ j.sectorsDone → x.next < j.sectors →
        (crc16 bytes = check → Yields (.readSectorReceived bytes check) s fun t =>
          t.path = { s.path with card := { s.path.card with waiting := s.path.card.waiting ++ writes bytes } }
            ∧ t.card = { s.card with transfer := taken bytes } ∧ Keeps [.card, .path] s t)
        ∧ (crc16 bytes ≠ check → failed (.readSectorReceived bytes check)))
      ∧ (∀ bytes check, bytes.length = 512 → s.card.pendingEnd = none → x.next = j.sectorsDone + 1 → x.next < j.sectors →
        s.path.CardAlone → crc16 bytes = check → Yields (.readSectorReceived bytes check) s fun t =>
          t.card = { s.card with jobs := counted :: rest, transfer := taken bytes, mirrorDue := true }
            ∧ t.path.card.waiting = writes bytes ∧ stored t ∧ Keeps [.card, .path, .dram] s t)
      ∧ (∀ bytes check, bytes.length = 512 → j.sectors ≤ x.next →
        Yields (.readSectorReceived bytes check) s (Keeps [] s))
      ∧ (∀ bytes check, bytes.length ≠ 512 → exec (.readSectorReceived bytes check) s = .refused .notATransaction)
      ∧ (x.limit = some 0 → s.card.pendingEnd = none → x.next ≤ j.sectorsDone → x.next < j.sectors →
        failed .sectorLimitExpiry)
      ∧ (x.limit = some 0 → j.sectors ≤ x.next → Yields .sectorLimitExpiry s (Keeps [] s))
      ∧ (j.sectorsDone < x.next → s.path.CardAlone →
        (s.card.pendingEnd = none → j.sectorsDone + 1 < j.sectors → Yields .readSectorStored s fun t =>
          t.card.jobs = counted :: rest ∧ t.card.transfer = some x ∧ stored t ∧ t.path.Idle
            ∧ Keeps [.card, .path, .dram] s t)
        ∧ (s.card.pendingEnd = none → j.sectors ≤ j.sectorsDone + 1 → Yields .readSectorStored s fun t =>
          JobDone j rest s t ∧ stored t)
        ∧ ∀ p, s.card.pendingEnd = some p →
          (p.quiet = false → Yields .readSectorStored s fun t =>
            JobFailed p.reason counted rest s t ∧ PinReturned j false s t ∧ stored t)
          ∧ (p.quiet = true → Yields .readSectorStored s fun t =>
            JobEndedQuietly p.reason (j.sectorsDone + 1) j rest s t ∧ stored t))
end

