-- ==== Sys2Proof/Laws/State.lean ====
section
/-! SUPPORT. One lemma for each field of each update of a state, so that no proof unfolds a record update. -/

namespace Sys2Proof.Machine

variable (s : State)

@[simp] theorem State.onPins_inReset (f : Pins → Pins) : (s.onPins f).inReset = s.inReset := rfl
@[simp] theorem State.onPins_clock (f : Pins → Pins) : (s.onPins f).clock = s.clock := rfl
@[simp] theorem State.onPins_pins (f : Pins → Pins) : (s.onPins f).pins = f s.pins := rfl
@[simp] theorem State.onPins_setup (f : Pins → Pins) : (s.onPins f).setup = s.setup := rfl
@[simp] theorem State.onPins_store (f : Pins → Pins) : (s.onPins f).store = s.store := rfl
@[simp] theorem State.onPins_sync (f : Pins → Pins) : (s.onPins f).sync = s.sync := rfl
@[simp] theorem State.onPins_driver (f : Pins → Pins) : (s.onPins f).driver = s.driver := rfl
@[simp] theorem State.onPins_seq (f : Pins → Pins) : (s.onPins f).seq = s.seq := rfl
@[simp] theorem State.onPins_readout (f : Pins → Pins) : (s.onPins f).readout = s.readout := rfl
@[simp] theorem State.onPins_dark (f : Pins → Pins) : (s.onPins f).dark = s.dark := rfl
@[simp] theorem State.onPins_develop (f : Pins → Pins) : (s.onPins f).develop = s.develop := rfl
@[simp] theorem State.onPins_card (f : Pins → Pins) : (s.onPins f).card = s.card := rfl
@[simp] theorem State.onPins_path (f : Pins → Pins) : (s.onPins f).path = s.path := rfl
@[simp] theorem State.onPins_req (f : Pins → Pins) : (s.onPins f).req = s.req := rfl
@[simp] theorem State.onPins_handoffs (f : Pins → Pins) : (s.onPins f).handoffs = s.handoffs := rfl
@[simp] theorem State.onPins_lags (f : Pins → Pins) : (s.onPins f).lags = s.lags := rfl
@[simp] theorem State.onPins_dram (f : Pins → Pins) : (s.onPins f).dram = s.dram := rfl
@[simp] theorem State.onPins_sent (f : Pins → Pins) : (s.onPins f).sent = s.sent := rfl
@[simp] theorem State.onPins_pending (f : Pins → Pins) : (s.onPins f).pending = s.pending := rfl

@[simp] theorem State.onSetup_inReset (f : Setup → Setup) : (s.onSetup f).inReset = s.inReset := rfl
@[simp] theorem State.onSetup_clock (f : Setup → Setup) : (s.onSetup f).clock = s.clock := rfl
@[simp] theorem State.onSetup_pins (f : Setup → Setup) : (s.onSetup f).pins = s.pins := rfl
@[simp] theorem State.onSetup_setup (f : Setup → Setup) : (s.onSetup f).setup = f s.setup := rfl
@[simp] theorem State.onSetup_store (f : Setup → Setup) : (s.onSetup f).store = s.store := rfl
@[simp] theorem State.onSetup_sync (f : Setup → Setup) : (s.onSetup f).sync = s.sync := rfl
@[simp] theorem State.onSetup_driver (f : Setup → Setup) : (s.onSetup f).driver = s.driver := rfl
@[simp] theorem State.onSetup_seq (f : Setup → Setup) : (s.onSetup f).seq = s.seq := rfl
@[simp] theorem State.onSetup_readout (f : Setup → Setup) : (s.onSetup f).readout = s.readout := rfl
@[simp] theorem State.onSetup_dark (f : Setup → Setup) : (s.onSetup f).dark = s.dark := rfl
@[simp] theorem State.onSetup_develop (f : Setup → Setup) : (s.onSetup f).develop = s.develop := rfl
@[simp] theorem State.onSetup_card (f : Setup → Setup) : (s.onSetup f).card = s.card := rfl
@[simp] theorem State.onSetup_path (f : Setup → Setup) : (s.onSetup f).path = s.path := rfl
@[simp] theorem State.onSetup_req (f : Setup → Setup) : (s.onSetup f).req = s.req := rfl
@[simp] theorem State.onSetup_handoffs (f : Setup → Setup) : (s.onSetup f).handoffs = s.handoffs := rfl
@[simp] theorem State.onSetup_lags (f : Setup → Setup) : (s.onSetup f).lags = s.lags := rfl
@[simp] theorem State.onSetup_dram (f : Setup → Setup) : (s.onSetup f).dram = s.dram := rfl
@[simp] theorem State.onSetup_sent (f : Setup → Setup) : (s.onSetup f).sent = s.sent := rfl
@[simp] theorem State.onSetup_pending (f : Setup → Setup) : (s.onSetup f).pending = s.pending := rfl

@[simp] theorem State.onStore_inReset (f : Store → Store) : (s.onStore f).inReset = s.inReset := rfl
@[simp] theorem State.onStore_clock (f : Store → Store) : (s.onStore f).clock = s.clock := rfl
@[simp] theorem State.onStore_pins (f : Store → Store) : (s.onStore f).pins = s.pins := rfl
@[simp] theorem State.onStore_setup (f : Store → Store) : (s.onStore f).setup = s.setup := rfl
@[simp] theorem State.onStore_store (f : Store → Store) : (s.onStore f).store = f s.store := rfl
@[simp] theorem State.onStore_sync (f : Store → Store) : (s.onStore f).sync = s.sync := rfl
@[simp] theorem State.onStore_driver (f : Store → Store) : (s.onStore f).driver = s.driver := rfl
@[simp] theorem State.onStore_seq (f : Store → Store) : (s.onStore f).seq = s.seq := rfl
@[simp] theorem State.onStore_readout (f : Store → Store) : (s.onStore f).readout = s.readout := rfl
@[simp] theorem State.onStore_dark (f : Store → Store) : (s.onStore f).dark = s.dark := rfl
@[simp] theorem State.onStore_develop (f : Store → Store) : (s.onStore f).develop = s.develop := rfl
@[simp] theorem State.onStore_card (f : Store → Store) : (s.onStore f).card = s.card := rfl
@[simp] theorem State.onStore_path (f : Store → Store) : (s.onStore f).path = s.path := rfl
@[simp] theorem State.onStore_req (f : Store → Store) : (s.onStore f).req = s.req := rfl
@[simp] theorem State.onStore_handoffs (f : Store → Store) : (s.onStore f).handoffs = s.handoffs := rfl
@[simp] theorem State.onStore_lags (f : Store → Store) : (s.onStore f).lags = s.lags := rfl
@[simp] theorem State.onStore_dram (f : Store → Store) : (s.onStore f).dram = s.dram := rfl
@[simp] theorem State.onStore_sent (f : Store → Store) : (s.onStore f).sent = s.sent := rfl
@[simp] theorem State.onStore_pending (f : Store → Store) : (s.onStore f).pending = s.pending := rfl

@[simp] theorem State.onSync_inReset (f : SyncInput → SyncInput) : (s.onSync f).inReset = s.inReset := rfl
@[simp] theorem State.onSync_clock (f : SyncInput → SyncInput) : (s.onSync f).clock = s.clock := rfl
@[simp] theorem State.onSync_pins (f : SyncInput → SyncInput) : (s.onSync f).pins = s.pins := rfl
@[simp] theorem State.onSync_setup (f : SyncInput → SyncInput) : (s.onSync f).setup = s.setup := rfl
@[simp] theorem State.onSync_store (f : SyncInput → SyncInput) : (s.onSync f).store = s.store := rfl
@[simp] theorem State.onSync_sync (f : SyncInput → SyncInput) : (s.onSync f).sync = f s.sync := rfl
@[simp] theorem State.onSync_driver (f : SyncInput → SyncInput) : (s.onSync f).driver = s.driver := rfl
@[simp] theorem State.onSync_seq (f : SyncInput → SyncInput) : (s.onSync f).seq = s.seq := rfl
@[simp] theorem State.onSync_readout (f : SyncInput → SyncInput) : (s.onSync f).readout = s.readout := rfl
@[simp] theorem State.onSync_dark (f : SyncInput → SyncInput) : (s.onSync f).dark = s.dark := rfl
@[simp] theorem State.onSync_develop (f : SyncInput → SyncInput) : (s.onSync f).develop = s.develop := rfl
@[simp] theorem State.onSync_card (f : SyncInput → SyncInput) : (s.onSync f).card = s.card := rfl
@[simp] theorem State.onSync_path (f : SyncInput → SyncInput) : (s.onSync f).path = s.path := rfl
@[simp] theorem State.onSync_req (f : SyncInput → SyncInput) : (s.onSync f).req = s.req := rfl
@[simp] theorem State.onSync_handoffs (f : SyncInput → SyncInput) : (s.onSync f).handoffs = s.handoffs := rfl
@[simp] theorem State.onSync_lags (f : SyncInput → SyncInput) : (s.onSync f).lags = s.lags := rfl
@[simp] theorem State.onSync_dram (f : SyncInput → SyncInput) : (s.onSync f).dram = s.dram := rfl
@[simp] theorem State.onSync_sent (f : SyncInput → SyncInput) : (s.onSync f).sent = s.sent := rfl
@[simp] theorem State.onSync_pending (f : SyncInput → SyncInput) : (s.onSync f).pending = s.pending := rfl

@[simp] theorem State.onDriver_inReset (f : Driver → Driver) : (s.onDriver f).inReset = s.inReset := rfl
@[simp] theorem State.onDriver_clock (f : Driver → Driver) : (s.onDriver f).clock = s.clock := rfl
@[simp] theorem State.onDriver_pins (f : Driver → Driver) : (s.onDriver f).pins = s.pins := rfl
@[simp] theorem State.onDriver_setup (f : Driver → Driver) : (s.onDriver f).setup = s.setup := rfl
@[simp] theorem State.onDriver_store (f : Driver → Driver) : (s.onDriver f).store = s.store := rfl
@[simp] theorem State.onDriver_sync (f : Driver → Driver) : (s.onDriver f).sync = s.sync := rfl
@[simp] theorem State.onDriver_driver (f : Driver → Driver) : (s.onDriver f).driver = f s.driver := rfl
@[simp] theorem State.onDriver_seq (f : Driver → Driver) : (s.onDriver f).seq = s.seq := rfl
@[simp] theorem State.onDriver_readout (f : Driver → Driver) : (s.onDriver f).readout = s.readout := rfl
@[simp] theorem State.onDriver_dark (f : Driver → Driver) : (s.onDriver f).dark = s.dark := rfl
@[simp] theorem State.onDriver_develop (f : Driver → Driver) : (s.onDriver f).develop = s.develop := rfl
@[simp] theorem State.onDriver_card (f : Driver → Driver) : (s.onDriver f).card = s.card := rfl
@[simp] theorem State.onDriver_path (f : Driver → Driver) : (s.onDriver f).path = s.path := rfl
@[simp] theorem State.onDriver_req (f : Driver → Driver) : (s.onDriver f).req = s.req := rfl
@[simp] theorem State.onDriver_handoffs (f : Driver → Driver) : (s.onDriver f).handoffs = s.handoffs := rfl
@[simp] theorem State.onDriver_lags (f : Driver → Driver) : (s.onDriver f).lags = s.lags := rfl
@[simp] theorem State.onDriver_dram (f : Driver → Driver) : (s.onDriver f).dram = s.dram := rfl
@[simp] theorem State.onDriver_sent (f : Driver → Driver) : (s.onDriver f).sent = s.sent := rfl
@[simp] theorem State.onDriver_pending (f : Driver → Driver) : (s.onDriver f).pending = s.pending := rfl

@[simp] theorem State.onSeq_inReset (f : Sequencer → Sequencer) : (s.onSeq f).inReset = s.inReset := rfl
@[simp] theorem State.onSeq_clock (f : Sequencer → Sequencer) : (s.onSeq f).clock = s.clock := rfl
@[simp] theorem State.onSeq_pins (f : Sequencer → Sequencer) : (s.onSeq f).pins = s.pins := rfl
@[simp] theorem State.onSeq_setup (f : Sequencer → Sequencer) : (s.onSeq f).setup = s.setup := rfl
@[simp] theorem State.onSeq_store (f : Sequencer → Sequencer) : (s.onSeq f).store = s.store := rfl
@[simp] theorem State.onSeq_sync (f : Sequencer → Sequencer) : (s.onSeq f).sync = s.sync := rfl
@[simp] theorem State.onSeq_driver (f : Sequencer → Sequencer) : (s.onSeq f).driver = s.driver := rfl
@[simp] theorem State.onSeq_seq (f : Sequencer → Sequencer) : (s.onSeq f).seq = f s.seq := rfl
@[simp] theorem State.onSeq_readout (f : Sequencer → Sequencer) : (s.onSeq f).readout = s.readout := rfl
@[simp] theorem State.onSeq_dark (f : Sequencer → Sequencer) : (s.onSeq f).dark = s.dark := rfl
@[simp] theorem State.onSeq_develop (f : Sequencer → Sequencer) : (s.onSeq f).develop = s.develop := rfl
@[simp] theorem State.onSeq_card (f : Sequencer → Sequencer) : (s.onSeq f).card = s.card := rfl
@[simp] theorem State.onSeq_path (f : Sequencer → Sequencer) : (s.onSeq f).path = s.path := rfl
@[simp] theorem State.onSeq_req (f : Sequencer → Sequencer) : (s.onSeq f).req = s.req := rfl
@[simp] theorem State.onSeq_handoffs (f : Sequencer → Sequencer) : (s.onSeq f).handoffs = s.handoffs := rfl
@[simp] theorem State.onSeq_lags (f : Sequencer → Sequencer) : (s.onSeq f).lags = s.lags := rfl
@[simp] theorem State.onSeq_dram (f : Sequencer → Sequencer) : (s.onSeq f).dram = s.dram := rfl
@[simp] theorem State.onSeq_sent (f : Sequencer → Sequencer) : (s.onSeq f).sent = s.sent := rfl
@[simp] theorem State.onSeq_pending (f : Sequencer → Sequencer) : (s.onSeq f).pending = s.pending := rfl

@[simp] theorem State.onReadout_inReset (f : Readout → Readout) : (s.onReadout f).inReset = s.inReset := rfl
@[simp] theorem State.onReadout_clock (f : Readout → Readout) : (s.onReadout f).clock = s.clock := rfl
@[simp] theorem State.onReadout_pins (f : Readout → Readout) : (s.onReadout f).pins = s.pins := rfl
@[simp] theorem State.onReadout_setup (f : Readout → Readout) : (s.onReadout f).setup = s.setup := rfl
@[simp] theorem State.onReadout_store (f : Readout → Readout) : (s.onReadout f).store = s.store := rfl
@[simp] theorem State.onReadout_sync (f : Readout → Readout) : (s.onReadout f).sync = s.sync := rfl
@[simp] theorem State.onReadout_driver (f : Readout → Readout) : (s.onReadout f).driver = s.driver := rfl
@[simp] theorem State.onReadout_seq (f : Readout → Readout) : (s.onReadout f).seq = s.seq := rfl
@[simp] theorem State.onReadout_readout (f : Readout → Readout) : (s.onReadout f).readout = f s.readout := rfl
@[simp] theorem State.onReadout_dark (f : Readout → Readout) : (s.onReadout f).dark = s.dark := rfl
@[simp] theorem State.onReadout_develop (f : Readout → Readout) : (s.onReadout f).develop = s.develop := rfl
@[simp] theorem State.onReadout_card (f : Readout → Readout) : (s.onReadout f).card = s.card := rfl
@[simp] theorem State.onReadout_path (f : Readout → Readout) : (s.onReadout f).path = s.path := rfl
@[simp] theorem State.onReadout_req (f : Readout → Readout) : (s.onReadout f).req = s.req := rfl
@[simp] theorem State.onReadout_handoffs (f : Readout → Readout) : (s.onReadout f).handoffs = s.handoffs := rfl
@[simp] theorem State.onReadout_lags (f : Readout → Readout) : (s.onReadout f).lags = s.lags := rfl
@[simp] theorem State.onReadout_dram (f : Readout → Readout) : (s.onReadout f).dram = s.dram := rfl
@[simp] theorem State.onReadout_sent (f : Readout → Readout) : (s.onReadout f).sent = s.sent := rfl
@[simp] theorem State.onReadout_pending (f : Readout → Readout) : (s.onReadout f).pending = s.pending := rfl

@[simp] theorem State.onDark_inReset (f : DarkUnit → DarkUnit) : (s.onDark f).inReset = s.inReset := rfl
@[simp] theorem State.onDark_clock (f : DarkUnit → DarkUnit) : (s.onDark f).clock = s.clock := rfl
@[simp] theorem State.onDark_pins (f : DarkUnit → DarkUnit) : (s.onDark f).pins = s.pins := rfl
@[simp] theorem State.onDark_setup (f : DarkUnit → DarkUnit) : (s.onDark f).setup = s.setup := rfl
@[simp] theorem State.onDark_store (f : DarkUnit → DarkUnit) : (s.onDark f).store = s.store := rfl
@[simp] theorem State.onDark_sync (f : DarkUnit → DarkUnit) : (s.onDark f).sync = s.sync := rfl
@[simp] theorem State.onDark_driver (f : DarkUnit → DarkUnit) : (s.onDark f).driver = s.driver := rfl
@[simp] theorem State.onDark_seq (f : DarkUnit → DarkUnit) : (s.onDark f).seq = s.seq := rfl
@[simp] theorem State.onDark_readout (f : DarkUnit → DarkUnit) : (s.onDark f).readout = s.readout := rfl
@[simp] theorem State.onDark_dark (f : DarkUnit → DarkUnit) : (s.onDark f).dark = f s.dark := rfl
@[simp] theorem State.onDark_develop (f : DarkUnit → DarkUnit) : (s.onDark f).develop = s.develop := rfl
@[simp] theorem State.onDark_card (f : DarkUnit → DarkUnit) : (s.onDark f).card = s.card := rfl
@[simp] theorem State.onDark_path (f : DarkUnit → DarkUnit) : (s.onDark f).path = s.path := rfl
@[simp] theorem State.onDark_req (f : DarkUnit → DarkUnit) : (s.onDark f).req = s.req := rfl
@[simp] theorem State.onDark_handoffs (f : DarkUnit → DarkUnit) : (s.onDark f).handoffs = s.handoffs := rfl
@[simp] theorem State.onDark_lags (f : DarkUnit → DarkUnit) : (s.onDark f).lags = s.lags := rfl
@[simp] theorem State.onDark_dram (f : DarkUnit → DarkUnit) : (s.onDark f).dram = s.dram := rfl
@[simp] theorem State.onDark_sent (f : DarkUnit → DarkUnit) : (s.onDark f).sent = s.sent := rfl
@[simp] theorem State.onDark_pending (f : DarkUnit → DarkUnit) : (s.onDark f).pending = s.pending := rfl

@[simp] theorem State.onDevelop_inReset (f : Develop → Develop) : (s.onDevelop f).inReset = s.inReset := rfl
@[simp] theorem State.onDevelop_clock (f : Develop → Develop) : (s.onDevelop f).clock = s.clock := rfl
@[simp] theorem State.onDevelop_pins (f : Develop → Develop) : (s.onDevelop f).pins = s.pins := rfl
@[simp] theorem State.onDevelop_setup (f : Develop → Develop) : (s.onDevelop f).setup = s.setup := rfl
@[simp] theorem State.onDevelop_store (f : Develop → Develop) : (s.onDevelop f).store = s.store := rfl
@[simp] theorem State.onDevelop_sync (f : Develop → Develop) : (s.onDevelop f).sync = s.sync := rfl
@[simp] theorem State.onDevelop_driver (f : Develop → Develop) : (s.onDevelop f).driver = s.driver := rfl
@[simp] theorem State.onDevelop_seq (f : Develop → Develop) : (s.onDevelop f).seq = s.seq := rfl
@[simp] theorem State.onDevelop_readout (f : Develop → Develop) : (s.onDevelop f).readout = s.readout := rfl
@[simp] theorem State.onDevelop_dark (f : Develop → Develop) : (s.onDevelop f).dark = s.dark := rfl
@[simp] theorem State.onDevelop_develop (f : Develop → Develop) : (s.onDevelop f).develop = f s.develop := rfl
@[simp] theorem State.onDevelop_card (f : Develop → Develop) : (s.onDevelop f).card = s.card := rfl
@[simp] theorem State.onDevelop_path (f : Develop → Develop) : (s.onDevelop f).path = s.path := rfl
@[simp] theorem State.onDevelop_req (f : Develop → Develop) : (s.onDevelop f).req = s.req := rfl
@[simp] theorem State.onDevelop_handoffs (f : Develop → Develop) : (s.onDevelop f).handoffs = s.handoffs := rfl
@[simp] theorem State.onDevelop_lags (f : Develop → Develop) : (s.onDevelop f).lags = s.lags := rfl
@[simp] theorem State.onDevelop_dram (f : Develop → Develop) : (s.onDevelop f).dram = s.dram := rfl
@[simp] theorem State.onDevelop_sent (f : Develop → Develop) : (s.onDevelop f).sent = s.sent := rfl
@[simp] theorem State.onDevelop_pending (f : Develop → Develop) : (s.onDevelop f).pending = s.pending := rfl

@[simp] theorem State.onCard_inReset (f : CardEngine → CardEngine) : (s.onCard f).inReset = s.inReset := rfl
@[simp] theorem State.onCard_clock (f : CardEngine → CardEngine) : (s.onCard f).clock = s.clock := rfl
@[simp] theorem State.onCard_pins (f : CardEngine → CardEngine) : (s.onCard f).pins = s.pins := rfl
@[simp] theorem State.onCard_setup (f : CardEngine → CardEngine) : (s.onCard f).setup = s.setup := rfl
@[simp] theorem State.onCard_store (f : CardEngine → CardEngine) : (s.onCard f).store = s.store := rfl
@[simp] theorem State.onCard_sync (f : CardEngine → CardEngine) : (s.onCard f).sync = s.sync := rfl
@[simp] theorem State.onCard_driver (f : CardEngine → CardEngine) : (s.onCard f).driver = s.driver := rfl
@[simp] theorem State.onCard_seq (f : CardEngine → CardEngine) : (s.onCard f).seq = s.seq := rfl
@[simp] theorem State.onCard_readout (f : CardEngine → CardEngine) : (s.onCard f).readout = s.readout := rfl
@[simp] theorem State.onCard_dark (f : CardEngine → CardEngine) : (s.onCard f).dark = s.dark := rfl
@[simp] theorem State.onCard_develop (f : CardEngine → CardEngine) : (s.onCard f).develop = s.develop := rfl
@[simp] theorem State.onCard_card (f : CardEngine → CardEngine) : (s.onCard f).card = f s.card := rfl
@[simp] theorem State.onCard_path (f : CardEngine → CardEngine) : (s.onCard f).path = s.path := rfl
@[simp] theorem State.onCard_req (f : CardEngine → CardEngine) : (s.onCard f).req = s.req := rfl
@[simp] theorem State.onCard_handoffs (f : CardEngine → CardEngine) : (s.onCard f).handoffs = s.handoffs := rfl
@[simp] theorem State.onCard_lags (f : CardEngine → CardEngine) : (s.onCard f).lags = s.lags := rfl
@[simp] theorem State.onCard_dram (f : CardEngine → CardEngine) : (s.onCard f).dram = s.dram := rfl
@[simp] theorem State.onCard_sent (f : CardEngine → CardEngine) : (s.onCard f).sent = s.sent := rfl
@[simp] theorem State.onCard_pending (f : CardEngine → CardEngine) : (s.onCard f).pending = s.pending := rfl

@[simp] theorem State.onPath_inReset (f : MemPath → MemPath) : (s.onPath f).inReset = s.inReset := rfl
@[simp] theorem State.onPath_clock (f : MemPath → MemPath) : (s.onPath f).clock = s.clock := rfl
@[simp] theorem State.onPath_pins (f : MemPath → MemPath) : (s.onPath f).pins = s.pins := rfl
@[simp] theorem State.onPath_setup (f : MemPath → MemPath) : (s.onPath f).setup = s.setup := rfl
@[simp] theorem State.onPath_store (f : MemPath → MemPath) : (s.onPath f).store = s.store := rfl
@[simp] theorem State.onPath_sync (f : MemPath → MemPath) : (s.onPath f).sync = s.sync := rfl
@[simp] theorem State.onPath_driver (f : MemPath → MemPath) : (s.onPath f).driver = s.driver := rfl
@[simp] theorem State.onPath_seq (f : MemPath → MemPath) : (s.onPath f).seq = s.seq := rfl
@[simp] theorem State.onPath_readout (f : MemPath → MemPath) : (s.onPath f).readout = s.readout := rfl
@[simp] theorem State.onPath_dark (f : MemPath → MemPath) : (s.onPath f).dark = s.dark := rfl
@[simp] theorem State.onPath_develop (f : MemPath → MemPath) : (s.onPath f).develop = s.develop := rfl
@[simp] theorem State.onPath_card (f : MemPath → MemPath) : (s.onPath f).card = s.card := rfl
@[simp] theorem State.onPath_path (f : MemPath → MemPath) : (s.onPath f).path = f s.path := rfl
@[simp] theorem State.onPath_req (f : MemPath → MemPath) : (s.onPath f).req = s.req := rfl
@[simp] theorem State.onPath_handoffs (f : MemPath → MemPath) : (s.onPath f).handoffs = s.handoffs := rfl
@[simp] theorem State.onPath_lags (f : MemPath → MemPath) : (s.onPath f).lags = s.lags := rfl
@[simp] theorem State.onPath_dram (f : MemPath → MemPath) : (s.onPath f).dram = s.dram := rfl
@[simp] theorem State.onPath_sent (f : MemPath → MemPath) : (s.onPath f).sent = s.sent := rfl
@[simp] theorem State.onPath_pending (f : MemPath → MemPath) : (s.onPath f).pending = s.pending := rfl

@[simp] theorem State.onReq_inReset (f : RequestUnit → RequestUnit) : (s.onReq f).inReset = s.inReset := rfl
@[simp] theorem State.onReq_clock (f : RequestUnit → RequestUnit) : (s.onReq f).clock = s.clock := rfl
@[simp] theorem State.onReq_pins (f : RequestUnit → RequestUnit) : (s.onReq f).pins = s.pins := rfl
@[simp] theorem State.onReq_setup (f : RequestUnit → RequestUnit) : (s.onReq f).setup = s.setup := rfl
@[simp] theorem State.onReq_store (f : RequestUnit → RequestUnit) : (s.onReq f).store = s.store := rfl
@[simp] theorem State.onReq_sync (f : RequestUnit → RequestUnit) : (s.onReq f).sync = s.sync := rfl
@[simp] theorem State.onReq_driver (f : RequestUnit → RequestUnit) : (s.onReq f).driver = s.driver := rfl
@[simp] theorem State.onReq_seq (f : RequestUnit → RequestUnit) : (s.onReq f).seq = s.seq := rfl
@[simp] theorem State.onReq_readout (f : RequestUnit → RequestUnit) : (s.onReq f).readout = s.readout := rfl
@[simp] theorem State.onReq_dark (f : RequestUnit → RequestUnit) : (s.onReq f).dark = s.dark := rfl
@[simp] theorem State.onReq_develop (f : RequestUnit → RequestUnit) : (s.onReq f).develop = s.develop := rfl
@[simp] theorem State.onReq_card (f : RequestUnit → RequestUnit) : (s.onReq f).card = s.card := rfl
@[simp] theorem State.onReq_path (f : RequestUnit → RequestUnit) : (s.onReq f).path = s.path := rfl
@[simp] theorem State.onReq_req (f : RequestUnit → RequestUnit) : (s.onReq f).req = f s.req := rfl
@[simp] theorem State.onReq_handoffs (f : RequestUnit → RequestUnit) : (s.onReq f).handoffs = s.handoffs := rfl
@[simp] theorem State.onReq_lags (f : RequestUnit → RequestUnit) : (s.onReq f).lags = s.lags := rfl
@[simp] theorem State.onReq_dram (f : RequestUnit → RequestUnit) : (s.onReq f).dram = s.dram := rfl
@[simp] theorem State.onReq_sent (f : RequestUnit → RequestUnit) : (s.onReq f).sent = s.sent := rfl
@[simp] theorem State.onReq_pending (f : RequestUnit → RequestUnit) : (s.onReq f).pending = s.pending := rfl


@[simp] theorem State.onHandoffs_inReset (f : List Handoff → List Handoff) : (s.onHandoffs f).inReset = s.inReset := rfl
@[simp] theorem State.onHandoffs_clock (f : List Handoff → List Handoff) : (s.onHandoffs f).clock = s.clock := rfl
@[simp] theorem State.onHandoffs_pins (f : List Handoff → List Handoff) : (s.onHandoffs f).pins = s.pins := rfl
@[simp] theorem State.onHandoffs_setup (f : List Handoff → List Handoff) : (s.onHandoffs f).setup = s.setup := rfl
@[simp] theorem State.onHandoffs_store (f : List Handoff → List Handoff) : (s.onHandoffs f).store = s.store := rfl
@[simp] theorem State.onHandoffs_sync (f : List Handoff → List Handoff) : (s.onHandoffs f).sync = s.sync := rfl
@[simp] theorem State.onHandoffs_driver (f : List Handoff → List Handoff) : (s.onHandoffs f).driver = s.driver := rfl
@[simp] theorem State.onHandoffs_seq (f : List Handoff → List Handoff) : (s.onHandoffs f).seq = s.seq := rfl
@[simp] theorem State.onHandoffs_readout (f : List Handoff → List Handoff) : (s.onHandoffs f).readout = s.readout := rfl
@[simp] theorem State.onHandoffs_dark (f : List Handoff → List Handoff) : (s.onHandoffs f).dark = s.dark := rfl
@[simp] theorem State.onHandoffs_develop (f : List Handoff → List Handoff) : (s.onHandoffs f).develop = s.develop := rfl
@[simp] theorem State.onHandoffs_card (f : List Handoff → List Handoff) : (s.onHandoffs f).card = s.card := rfl
@[simp] theorem State.onHandoffs_path (f : List Handoff → List Handoff) : (s.onHandoffs f).path = s.path := rfl
@[simp] theorem State.onHandoffs_req (f : List Handoff → List Handoff) : (s.onHandoffs f).req = s.req := rfl
@[simp] theorem State.onHandoffs_handoffs (f : List Handoff → List Handoff) : (s.onHandoffs f).handoffs = f s.handoffs := rfl
@[simp] theorem State.onHandoffs_lags (f : List Handoff → List Handoff) : (s.onHandoffs f).lags = s.lags := rfl
@[simp] theorem State.onHandoffs_dram (f : List Handoff → List Handoff) : (s.onHandoffs f).dram = s.dram := rfl
@[simp] theorem State.onHandoffs_sent (f : List Handoff → List Handoff) : (s.onHandoffs f).sent = s.sent := rfl
@[simp] theorem State.onHandoffs_pending (f : List Handoff → List Handoff) : (s.onHandoffs f).pending = s.pending := rfl

@[simp] theorem State.send_inReset (x : Signal) : (s.send x).inReset = s.inReset := rfl
@[simp] theorem State.send_clock (x : Signal) : (s.send x).clock = s.clock := rfl
@[simp] theorem State.send_pins (x : Signal) : (s.send x).pins = s.pins := rfl
@[simp] theorem State.send_setup (x : Signal) : (s.send x).setup = s.setup := rfl
@[simp] theorem State.send_store (x : Signal) : (s.send x).store = s.store := rfl
@[simp] theorem State.send_sync (x : Signal) : (s.send x).sync = s.sync := rfl
@[simp] theorem State.send_driver (x : Signal) : (s.send x).driver = s.driver := rfl
@[simp] theorem State.send_seq (x : Signal) : (s.send x).seq = s.seq := rfl
@[simp] theorem State.send_readout (x : Signal) : (s.send x).readout = s.readout := rfl
@[simp] theorem State.send_dark (x : Signal) : (s.send x).dark = s.dark := rfl
@[simp] theorem State.send_develop (x : Signal) : (s.send x).develop = s.develop := rfl
@[simp] theorem State.send_card (x : Signal) : (s.send x).card = s.card := rfl
@[simp] theorem State.send_path (x : Signal) : (s.send x).path = s.path := rfl
@[simp] theorem State.send_req (x : Signal) : (s.send x).req = s.req := rfl
@[simp] theorem State.send_handoffs (x : Signal) : (s.send x).handoffs = s.handoffs := rfl
@[simp] theorem State.send_lags (x : Signal) : (s.send x).lags = s.lags := rfl
@[simp] theorem State.send_dram (x : Signal) : (s.send x).dram = s.dram := rfl
@[simp] theorem State.send_sent (x : Signal) : (s.send x).sent = s.sent ++ [x] := rfl
@[simp] theorem State.send_pending (x : Signal) : (s.send x).pending = s.pending := rfl

@[simp] theorem State.setFrame_inReset (k : Fin 16) (r : Frame) : (s.setFrame k r).inReset = s.inReset := rfl
@[simp] theorem State.setFrame_clock (k : Fin 16) (r : Frame) : (s.setFrame k r).clock = s.clock := rfl
@[simp] theorem State.setFrame_pins (k : Fin 16) (r : Frame) : (s.setFrame k r).pins = s.pins := rfl
@[simp] theorem State.setFrame_setup (k : Fin 16) (r : Frame) : (s.setFrame k r).setup = s.setup := rfl
@[simp] theorem State.setFrame_sync (k : Fin 16) (r : Frame) : (s.setFrame k r).sync = s.sync := rfl
@[simp] theorem State.setFrame_driver (k : Fin 16) (r : Frame) : (s.setFrame k r).driver = s.driver := rfl
@[simp] theorem State.setFrame_seq (k : Fin 16) (r : Frame) : (s.setFrame k r).seq = s.seq := rfl
@[simp] theorem State.setFrame_readout (k : Fin 16) (r : Frame) : (s.setFrame k r).readout = s.readout := rfl
@[simp] theorem State.setFrame_dark (k : Fin 16) (r : Frame) : (s.setFrame k r).dark = s.dark := rfl
@[simp] theorem State.setFrame_develop (k : Fin 16) (r : Frame) : (s.setFrame k r).develop = s.develop := rfl
@[simp] theorem State.setFrame_card (k : Fin 16) (r : Frame) : (s.setFrame k r).card = s.card := rfl
@[simp] theorem State.setFrame_path (k : Fin 16) (r : Frame) : (s.setFrame k r).path = s.path := rfl
@[simp] theorem State.setFrame_req (k : Fin 16) (r : Frame) : (s.setFrame k r).req = s.req := rfl
@[simp] theorem State.setFrame_handoffs (k : Fin 16) (r : Frame) : (s.setFrame k r).handoffs = s.handoffs := rfl
@[simp] theorem State.setFrame_lags (k : Fin 16) (r : Frame) : (s.setFrame k r).lags = s.lags := rfl
@[simp] theorem State.setFrame_dram (k : Fin 16) (r : Frame) : (s.setFrame k r).dram = s.dram := rfl
@[simp] theorem State.setFrame_sent (k : Fin 16) (r : Frame) : (s.setFrame k r).sent = s.sent := rfl
@[simp] theorem State.setFrame_pending (k : Fin 16) (r : Frame) : (s.setFrame k r).pending = s.pending := rfl
@[simp] theorem State.setFrame_layout (k : Fin 16) (r : Frame) : (s.setFrame k r).store.layout = s.store.layout := rfl
@[simp] theorem State.setFrame_nextId (k : Fin 16) (r : Frame) : (s.setFrame k r).store.nextId = s.store.nextId := rfl
@[simp] theorem State.setFrame_lodged (k : Fin 16) (r : Frame) : (s.setFrame k r).store.lodged = s.store.lodged := rfl
@[simp] theorem State.setFrame_mirrorDue (k : Fin 16) (r : Frame) :
    (s.setFrame k r).store.mirrorDue = s.store.mirrorDue := rfl

/-- A record that has just been replaced. -/
@[simp] theorem State.frame_setFrame_same (k : Fin 16) (r : Frame) : (s.setFrame k r).frame k = r := by
  simp [State.setFrame, State.frame]

/-- Every other record stays. -/
theorem State.frame_setFrame_other (k j : Fin 16) (r : Frame) (h : j ≠ k) : (s.setFrame k r).frame j = s.frame j := by
  have h' : (k : Nat) ≠ (j : Nat) := fun e => h (Fin.ext e.symm)
  simp [State.setFrame, State.frame, h']

/-- A record after one of the sixteen has been replaced. -/
theorem State.frame_setFrame (k j : Fin 16) (r : Frame) :
    (s.setFrame k r).frame j = if j = k then r else s.frame j := by
  split
  · next h => subst h; exact s.frame_setFrame_same j r
  · next h => exact s.frame_setFrame_other k j r h

/-- Records do not depend on what else changes outside the table. -/
theorem State.frame_congr (t : State) (h : s.store.frames = t.store.frames) (k : Fin 16) : s.frame k = t.frame k := by
  simp [State.frame, h]

end Sys2Proof.Machine
end

