-- ==== Sys2Proof/Laws/Commit.lean ====
section
/-! SUPPORT. What every step does around its own effect: one lemma for each part of `settle`, `pump` where no transaction
is released, and the answers of `run`, `runWhen` and `request`. -/

namespace Sys2Proof.Machine

variable (a s : State)

@[simp] theorem settle_inReset : (settle a s).inReset = s.inReset := rfl
@[simp] theorem settle_clock : (settle a s).clock = s.clock := rfl
@[simp] theorem settle_pins : (settle a s).pins = s.pins := rfl
@[simp] theorem settle_setup : (settle a s).setup = s.setup := rfl
@[simp] theorem settle_frame (k : Fin 16) : (settle a s).frame k = s.frame k := rfl
@[simp] theorem settle_frames : (settle a s).store.frames = s.store.frames := rfl
@[simp] theorem settle_layout : (settle a s).store.layout = s.store.layout := rfl
@[simp] theorem settle_nextId : (settle a s).store.nextId = s.store.nextId := rfl
@[simp] theorem settle_lodged : (settle a s).store.lodged = s.store.lodged := rfl
@[simp] theorem settle_sync : (settle a s).sync = s.sync := rfl
@[simp] theorem settle_driver : (settle a s).driver = s.driver := rfl
@[simp] theorem settle_seq : (settle a s).seq = s.seq := rfl
@[simp] theorem settle_readout : (settle a s).readout = s.readout := rfl
@[simp] theorem settle_dark : (settle a s).dark = s.dark := rfl
@[simp] theorem settle_develop : (settle a s).develop = s.develop := rfl
@[simp] theorem settle_path : (settle a s).path = s.path := rfl
@[simp] theorem settle_dram : (settle a s).dram = s.dram := rfl
@[simp] theorem settle_sent : (settle a s).sent = s.sent := rfl
@[simp] theorem settle_pending : (settle a s).pending = s.pending := rfl
@[simp] theorem settle_handoffs : (settle a s).handoffs = s.handoffs := rfl
@[simp] theorem settle_lags : (settle a s).lags = s.lags := rfl
@[simp] theorem settle_post : (settle a s).req.post = s.req.post := rfl
@[simp] theorem settle_consumed : (settle a s).req.consumed = s.req.consumed := rfl
@[simp] theorem settle_hand : (settle a s).req.hand = s.req.hand := rfl
@[simp] theorem settle_answer : (settle a s).req.answer = s.req.answer := rfl
@[simp] theorem settle_waits : (settle a s).req.waits = s.req.waits := rfl
@[simp] theorem settle_waitsQueue : (settle a s).req.waitsQueue = s.req.waitsQueue := rfl
@[simp] theorem settle_causes : (settle a s).req.causes = s.req.causes := rfl
@[simp] theorem settle_mask : (settle a s).req.mask = s.req.mask := rfl
@[simp] theorem settle_pageCount : (settle a s).req.pageCount = s.req.pageCount := rfl
@[simp] theorem settle_attn : (settle a s).req.attn = attention s.req.causes s.req.mask := rfl
@[simp] theorem settle_statusDue :
    (settle a s).req.statusDue = (s.req.statusDue || decide (a.statusView ≠ s.statusView)) := rfl
theorem settle_card :
    (settle a s).card = { s.card with mirrorDue := s.card.mirrorDue || decide (a.card.jobs ≠ s.card.jobs) } := rfl
@[simp] theorem settle_queueDue :
    (settle a s).card.mirrorDue = (s.card.mirrorDue || decide (a.card.jobs ≠ s.card.jobs)) := rfl

/-- Which mirror writes are scheduled after a step: those that were, and those of the records it changed. -/
@[simp] theorem mem_settle_mirrorDue (k : Fin 16) :
    k ∈ (settle a s).store.mirrorDue ↔ k ∈ s.store.mirrorDue ∨ (a.frame k).content ≠ (s.frame k).content := by
  simp [settle, State.onStore, State.onCard, State.onReq, slots, recordChanged]

@[simp] theorem quiet_frame (k : Fin 16) : s.quiet.frame k = s.frame k := rfl
@[simp] theorem quiet_inReset : s.quiet.inReset = s.inReset := rfl
@[simp] theorem quiet_clock : s.quiet.clock = s.clock := rfl
@[simp] theorem quiet_pins : s.quiet.pins = s.pins := rfl
@[simp] theorem quiet_setup : s.quiet.setup = s.setup := rfl
@[simp] theorem quiet_store : s.quiet.store = s.store := rfl
@[simp] theorem quiet_sync : s.quiet.sync = s.sync := rfl
@[simp] theorem quiet_driver : s.quiet.driver = s.driver := rfl
@[simp] theorem quiet_seq : s.quiet.seq = s.seq := rfl
@[simp] theorem quiet_readout : s.quiet.readout = s.readout := rfl
@[simp] theorem quiet_dark : s.quiet.dark = s.dark := rfl
@[simp] theorem quiet_develop : s.quiet.develop = s.develop := rfl
@[simp] theorem quiet_card : s.quiet.card = s.card := rfl
@[simp] theorem quiet_path : s.quiet.path = s.path := rfl
@[simp] theorem quiet_req : s.quiet.req = s.req := rfl
@[simp] theorem quiet_dram : s.quiet.dram = s.dram := rfl
@[simp] theorem quiet_sent : s.quiet.sent = [] := rfl
@[simp] theorem quiet_pending : s.quiet.pending = s.pending := rfl
@[simp] theorem quiet_handoffs : s.quiet.handoffs = s.handoffs := rfl
@[simp] theorem quiet_lags : s.quiet.lags = s.lags := rfl

@[simp] theorem beginDecision_inReset : (beginDecision s).inReset = s.inReset := rfl
@[simp] theorem beginDecision_clock : (beginDecision s).clock = s.clock := rfl
@[simp] theorem beginDecision_pins : (beginDecision s).pins = s.pins := rfl
@[simp] theorem beginDecision_setup : (beginDecision s).setup = s.setup := rfl
@[simp] theorem beginDecision_store : (beginDecision s).store = s.store := rfl
@[simp] theorem beginDecision_sync : (beginDecision s).sync = s.sync := rfl
@[simp] theorem beginDecision_driver : (beginDecision s).driver = s.driver := rfl
@[simp] theorem beginDecision_seq : (beginDecision s).seq = s.seq := rfl
@[simp] theorem beginDecision_readout : (beginDecision s).readout = s.readout := rfl
@[simp] theorem beginDecision_dark : (beginDecision s).dark = s.dark := rfl
@[simp] theorem beginDecision_develop : (beginDecision s).develop = s.develop := rfl
@[simp] theorem beginDecision_card : (beginDecision s).card = s.card := rfl
@[simp] theorem beginDecision_path : (beginDecision s).path = s.path := rfl
@[simp] theorem beginDecision_dram : (beginDecision s).dram = s.dram := rfl
@[simp] theorem beginDecision_sent : (beginDecision s).sent = s.sent := rfl
@[simp] theorem beginDecision_pending : (beginDecision s).pending = s.pending := rfl
@[simp] theorem beginDecision_handoffs : (beginDecision s).handoffs = s.handoffs := rfl
@[simp] theorem beginDecision_lags : (beginDecision s).lags = s.lags := rfl
@[simp] theorem beginDecision_post : (beginDecision s).req.post = s.req.post := rfl
@[simp] theorem beginDecision_consumed : (beginDecision s).req.consumed = s.req.consumed := rfl
@[simp] theorem beginDecision_hand : (beginDecision s).req.hand = s.req.hand := rfl
@[simp] theorem beginDecision_answer : (beginDecision s).req.answer = s.req.answer := rfl
@[simp] theorem beginDecision_causes : (beginDecision s).req.causes = s.req.causes := rfl
@[simp] theorem beginDecision_mask : (beginDecision s).req.mask = s.req.mask := rfl
@[simp] theorem beginDecision_attn : (beginDecision s).req.attn = s.req.attn := rfl
@[simp] theorem beginDecision_pageCount : (beginDecision s).req.pageCount = s.req.pageCount := rfl
@[simp] theorem beginDecision_statusDue : (beginDecision s).req.statusDue = s.req.statusDue := rfl
@[simp] theorem beginDecision_waits : (beginDecision s).req.waits = [] := rfl
@[simp] theorem beginDecision_frame (k : Fin 16) : (beginDecision s).frame k = s.frame k := rfl
@[simp] theorem beginDecision_find (id : Word) : (beginDecision s).find id = s.find id := rfl
@[simp] theorem quiet_find (id : Word) : s.quiet.find id = s.find id := rfl
@[simp] theorem quiet_asks (i : Instr) : s.quiet.asks i = s.asks i := rfl

variable (r : State × Option ResultCode)

@[simp] theorem endDecision_inReset : (endDecision a r).inReset = r.1.inReset := rfl
@[simp] theorem endDecision_clock : (endDecision a r).clock = r.1.clock := rfl
@[simp] theorem endDecision_pins : (endDecision a r).pins = r.1.pins := rfl
@[simp] theorem endDecision_setup : (endDecision a r).setup = r.1.setup := rfl
@[simp] theorem endDecision_store : (endDecision a r).store = r.1.store := rfl
@[simp] theorem endDecision_sync : (endDecision a r).sync = r.1.sync := rfl
@[simp] theorem endDecision_driver : (endDecision a r).driver = r.1.driver := rfl
@[simp] theorem endDecision_seq : (endDecision a r).seq = r.1.seq := rfl
@[simp] theorem endDecision_readout : (endDecision a r).readout = r.1.readout := rfl
@[simp] theorem endDecision_dark : (endDecision a r).dark = r.1.dark := rfl
@[simp] theorem endDecision_develop : (endDecision a r).develop = r.1.develop := rfl
@[simp] theorem endDecision_card : (endDecision a r).card = r.1.card := rfl
@[simp] theorem endDecision_path : (endDecision a r).path = r.1.path := rfl
@[simp] theorem endDecision_dram : (endDecision a r).dram = r.1.dram := rfl
@[simp] theorem endDecision_sent : (endDecision a r).sent = r.1.sent := rfl
@[simp] theorem endDecision_pending : (endDecision a r).pending = r.1.pending := rfl
@[simp] theorem endDecision_handoffs : (endDecision a r).handoffs = r.1.handoffs := rfl
@[simp] theorem endDecision_lags : (endDecision a r).lags = r.1.lags := rfl
@[simp] theorem endDecision_post : (endDecision a r).req.post = r.1.req.post := rfl
@[simp] theorem endDecision_consumed : (endDecision a r).req.consumed = r.1.req.consumed := rfl
@[simp] theorem endDecision_hand : (endDecision a r).req.hand = r.1.req.hand := rfl
@[simp] theorem endDecision_causes : (endDecision a r).req.causes = r.1.req.causes := rfl
@[simp] theorem endDecision_mask : (endDecision a r).req.mask = r.1.req.mask := rfl
@[simp] theorem endDecision_attn : (endDecision a r).req.attn = r.1.req.attn := rfl
@[simp] theorem endDecision_pageCount : (endDecision a r).req.pageCount = r.1.req.pageCount := rfl
@[simp] theorem endDecision_statusDue : (endDecision a r).req.statusDue = r.1.req.statusDue := rfl
@[simp] theorem endDecision_frame (k : Fin 16) : (endDecision a r).frame k = r.1.frame k := rfl
@[simp] theorem endDecision_answer : (endDecision a r).req.answer = r.2 := rfl
@[simp] theorem endDecision_waitsQueue :
    (endDecision a r).req.waitsQueue = (r.1.req.waitsQueue || decide (a.card.jobs ≠ r.1.card.jobs)) := rfl

/-- The mirror writes a decision's result waits for. -/
@[simp] theorem mem_endDecision_waits (k : Fin 16) :
    k ∈ (endDecision a r).req.waits ↔ k ∈ r.1.req.waits ∨ (a.frame k).content ≠ (r.1.frame k).content := by
  simp [endDecision, slots, recordChanged, State.onReq]

/-- With a read in service, or with no transaction waiting, nothing is taken from the port. -/
theorem pump_of_served (h : s.develop.service = none → s.path.port = []) : pump s = s := by
  unfold pump
  split
  · rfl
  · next hn =>
    obtain ⟨_, _, _, _, _, _, _, _, _, _, _, _, ⟨_, _, _, _, _, _, _, _, port, _⟩, _, _, _, _, _, _⟩ := s
    obtain rfl : port = [] := h hn
    rfl

/-- Outside power-on reset a step answers its effect, settled. -/
theorem run_of_awake {f : State → State} {s : State} (hr : s.inReset = false) :
    run f s = .next (settle s (pump (f s.quiet))) := by
  simp [run, hr]

/-- An effect that neither ends a read nor makes a transaction wait leaves the port alone. -/
theorem run_of_served {f : State → State} {s : State} (hr : s.inReset = false)
    (h : (f s.quiet).develop.service = none → (f s.quiet).path.port = []) :
    run f s = .next (settle s (f s.quiet)) := by
  rw [run_of_awake hr, pump_of_served _ h]

/-- Outside power-on reset a step of an outside line has its effect. -/
theorem runLine_of_awake {level : Pins → Pins} {f : State → State} {s : State} (hr : s.inReset = false) :
    runLine level f s = run f s := by
  simp [runLine, hr]

/-- During power-on reset the line takes its new level, and nothing else happens (R209). -/
theorem runLine_in_reset {level : Pins → Pins} {f : State → State} {s : State} (hr : s.inReset = true) :
    runLine level f s = .next (s.quiet.onPins level) := by
  simp [runLine, hr]

/-- A row that is due has its effect. -/
theorem runWhen_of_due {due : State → Bool} {f : State → State} {s : State} (hr : s.inReset = false)
    (hd : due s.quiet = true) (h : (f s.quiet).develop.service = none → (f s.quiet).path.port = []) :
    runWhen due f s = .next (settle s (f s.quiet)) := by
  rw [runWhen, run_of_served hr] <;> simp only [hd, if_true]
  exact h

/-- A row that is not due changes nothing. -/
theorem runWhen_of_idle {due : State → Bool} {f : State → State} {s : State} (hr : s.inReset = false)
    (hp : s.develop.service = none → s.path.port = []) (hd : due s.quiet = false) :
    runWhen due f s = .next (settle s s.quiet) := by
  rw [runWhen, run_of_served hr] <;> simp [hd]
  exact hp

/-- A request that is asked is decided: the step answers what its owner decides. -/
theorem request_of_asks {i : Instr} {d : State → State × Option ResultCode} {s : State} (hr : s.inReset = false)
    (ha : s.asks i = true)
    (h : (d (beginDecision s.quiet)).1.develop.service = none → (d (beginDecision s.quiet)).1.path.port = []) :
    request i d s = .next (settle s (endDecision (beginDecision s.quiet) (d (beginDecision s.quiet)))) :=
  runWhen_of_due (f := decideWith d) hr ha h

/-- A step with an effect that leaves the read in service and the waiting transactions alone. -/
theorem run_keeps_port {f : State → State} {s : State} (hs : s.Awake)
    (h1 : (f s.quiet).develop.service = s.develop.service) (h2 : (f s.quiet).path.port = s.path.port) :
    run f s = .next (settle s (f s.quiet)) :=
  run_of_served hs.1 (by rw [h1, h2]; exact hs.2)

/-- A row that is due, with an effect that leaves the port alone. -/
theorem runWhen_keeps_port {due : State → Bool} {f : State → State} {s : State} (hs : s.Awake)
    (hd : due s.quiet = true) (h1 : (f s.quiet).develop.service = s.develop.service)
    (h2 : (f s.quiet).path.port = s.path.port) : runWhen due f s = .next (settle s (f s.quiet)) :=
  runWhen_of_due hs.1 hd (by rw [h1, h2]; exact hs.2)

/-- A request that is asked, with a decision that leaves the port alone. -/
theorem request_keeps_port {i : Instr} {d : State → State × Option ResultCode} {s : State} (hs : s.Awake)
    (ha : s.asks i = true) (h1 : (d (beginDecision s.quiet)).1.develop.service = s.develop.service)
    (h2 : (d (beginDecision s.quiet)).1.path.port = s.path.port) :
    request i d s = .next (settle s (endDecision (beginDecision s.quiet) (d (beginDecision s.quiet)))) :=
  request_of_asks hs.1 ha (by rw [h1, h2]; exact hs.2)

end Sys2Proof.Machine
end

