-- ==== Sys2Proof/Laws/Handoffs.lean ====
section
/-! SUPPORT. The handoffs on their way (log 23): when a message is taken within its row, when it is on its way, what a
microsecond brings, and which edges of a run await their answer. -/

namespace Sys2Proof.Machine

/-- With no handoff on its way the next lag alone decides. -/
theorem lagOf_nil {s : State} (m : Message) (h : s.handoffs = []) : s.lagOf m = s.lags.headD 0 := by
  simp [State.lagOf, h]

/-- A handoff is never on its way for less than its own lag, so that it does not overtake one that goes the same way. -/
theorem le_lagOf (s : State) (m : Message) : s.lags.headD 0 ≤ s.lagOf m := by
  unfold State.lagOf
  generalize s.lags.headD 0 = n
  generalize (s.handoffs.filter fun h => h.message.sameWay m) = l
  induction l generalizing n with
  | nil => exact Nat.le_refl n
  | cons a l ih => exact Nat.le_trans (Nat.le_max_left n a.lag) (ih (max n a.lag))

/-- With no handoff on its way and a lag of 0 a message is taken at once. -/
theorem handTo_prompt {s : State} (take : State → State) (m : Message) (h : s.handoffs = []) (g : s.lags.headD 0 = 0) :
    handTo take m s = take { s with lags := s.lags.tail } := by
  simp only [handTo, lagOf_nil m h, g, if_true]

/-- With no handoff on its way and a lag of at least 1 a message goes on its way, and nothing else happens. -/
theorem handTo_lag {s : State} (take : State → State) (m : Message) (n : Nat) (rest : List Nat) (h : s.handoffs = [])
    (g : s.lags = (n + 1) :: rest) : handTo take m s = { s with handoffs := [⟨m, n + 1⟩], lags := rest } := by
  simp [handTo, lagOf_nil m h, g, State.onHandoffs, h]

/-- What a handoff that may be on its way can do: it is taken, or it joins the list. -/
theorem handTo_cases (take : State → State) (m : Message) (s : State) :
    handTo take m s = take { s with lags := s.lags.tail }
      ∨ ∃ n, s.lags.headD 0 ≤ n + 1
          ∧ handTo take m s = { s with handoffs := s.handoffs ++ [⟨m, n + 1⟩], lags := s.lags.tail } := by
  have h := le_lagOf s m
  cases g : s.lagOf m with
  | zero => exact .inl (by simp [handTo, g])
  | succ n => exact .inr ⟨n, by omega, by simp [handTo, g, State.onHandoffs]⟩

/-- A completion report that finds no record in READOUT is dropped (R6, R9, R100). -/
theorem takeCompletion_dropped {s : State} {f : ReadoutFrame} (b : Blacks) (flags : List Flag)
    (h : ∀ k, s.find f.id = some k → (s.frame k).state ≠ .readout) : takeCompletion f b flags s = s := by
  unfold takeCompletion
  cases g : s.find f.id with
  | none => rfl
  | some k => simp [Option.filter, h k g]

/-- A microsecond in which no handoff arrives brings each of them one microsecond nearer. -/
theorem takeArrived_none {s : State} (h : ∀ x ∈ s.handoffs, 1 < x.lag) :
    takeArrived s = s.onHandoffs fun _ => s.handoffs.map fun x => { x with lag := x.lag - 1 } := by
  have a : (s.handoffs.filter fun x => decide (x.lag ≤ 1)) = [] :=
    List.filter_eq_nil_iff.2 fun x m => by have := h x m; simp; omega
  have b : (s.handoffs.filter fun x => decide (1 < x.lag)) = s.handoffs := List.filter_eq_self.2 fun x m => by simp [h x m]
  simp [takeArrived, a, b]

/-- A microsecond in which the one handoff on its way arrives takes it, and what it changes schedules its writes. -/
theorem takeArrived_one {s : State} (m : Message) (h : s.handoffs = [⟨m, 1⟩]) :
    takeArrived s = settle (s.onHandoffs fun _ => []) (takeMessage m (s.onHandoffs fun _ => [])) := by
  simp [takeArrived, h]

/-- A mirror write once scheduled stays scheduled: a record that one handoff changes has its write due though another
that arrives with it change it back (R22). -/
theorem settle_keeps_mirrorDue (a s : State) (k : Fin 16) (h : k ∈ s.store.mirrorDue) :
    k ∈ (settle a s).store.mirrorDue := (mem_settle_mirrorDue a s k).2 (.inl h)

/-- No edge of a run awaits its answer once every trip edge is dropped (R39, R84). -/
theorem dropTrips_tripAwaited (edge : Word) (s : State) : (dropTrips s).tripAwaited edge = false := by
  simp only [dropTrips, State.tripAwaited, State.onHandoffs, List.any_eq_false, List.mem_filter]
  rintro ⟨m, n⟩ ⟨-, h⟩
  cases m <;> simp_all [Message.awaits]

/-- Once its run is marked abandoned an edge no longer holds a qualification. -/
theorem markAbandoned_tripAwaited (edge : Word) (s : State) : (markAbandoned edge s).tripAwaited edge = false := by
  simp only [markAbandoned, State.tripAwaited, State.onHandoffs, List.any_eq_false, List.mem_map]
  rintro _ ⟨⟨m, n⟩, -, rfl⟩
  cases m <;> simp +contextual [Message.awaits, Message.abandon]

end Sys2Proof.Machine
end

