-- ==== Sys2Proof/Laws/Memory.lean ====
section
/-! SUPPORT. DRAM: a write changes its own byte and no other, and every operation keeps the canonical form. -/

namespace Sys2Proof.Machine

/-- Below the first address a canonical form may list, every byte reads as unwritten. -/
theorem Memory.read_below {m : Memory} {lo a : Nat} (h : Memory.wfFrom lo m = true) (ha : a < lo) :
    m.read a = Config.unwrittenByte := by
  cases m with
  | nil => rfl
  | cons c rest =>
    obtain ⟨k, v⟩ := c
    simp only [Memory.wfFrom, Bool.and_eq_true, decide_eq_true_eq] at h
    have h1 : k ≠ a := by omega
    have h2 : a < k := by omega
    simp [Memory.read, h1, h2]

/-- A canonical form may be read with a smaller bound. -/
theorem Memory.wfFrom_le {m : Memory} {lo lo' : Nat} (h : Memory.wfFrom lo m = true) (hl : lo' ≤ lo) :
    Memory.wfFrom lo' m = true := by
  cases m with
  | nil => rfl
  | cons c rest =>
    obtain ⟨k, v⟩ := c
    simp only [Memory.wfFrom, Bool.and_eq_true, decide_eq_true_eq] at h ⊢
    exact ⟨⟨⟨by omega, h.1.1.2⟩, h.1.2⟩, h.2⟩

/-- The inserted byte reads back. -/
theorem Memory.read_insert_same {m : Memory} {lo : Nat} (h : Memory.wfFrom lo m = true) (a : Nat) (b : Byte) :
    (m.insert a b).read a = b := by
  induction m generalizing lo with
  | nil =>
    by_cases hb : b = Config.unwrittenByte <;> simp [Memory.insert, Memory.read, hb]
  | cons c rest ih =>
    obtain ⟨k, v⟩ := c
    have hw := h
    simp only [Memory.wfFrom, Bool.and_eq_true, decide_eq_true_eq] at h
    simp only [Memory.insert]
    split
    · next hlt =>
      split
      · next hb =>
        have : k ≠ a := by omega
        simp [Memory.read, this, hlt, hb]
      · simp [Memory.read]
    · split
      · next heq =>
        subst heq
        split
        · next hb => rw [Memory.read_below h.2 (by omega), hb]
        · simp [Memory.read]
      · next h1 h2 =>
        have hk : k ≠ a := fun e => h2 e.symm
        simp only [Memory.read, hk, h1, if_false]
        exact ih h.2

/-- Every other byte reads as before. -/
theorem Memory.read_insert_other {m : Memory} {lo : Nat} (h : Memory.wfFrom lo m = true) {a c : Nat} (b : Byte)
    (hne : c ≠ a) : (m.insert a b).read c = m.read c := by
  induction m generalizing lo with
  | nil =>
    by_cases hb : b = Config.unwrittenByte
    · simp [Memory.insert, hb]
    · have : a ≠ c := fun e => hne e.symm
      simp [Memory.insert, Memory.read, hb, this]
  | cons e rest ih =>
    obtain ⟨k, v⟩ := e
    simp only [Memory.wfFrom, Bool.and_eq_true, decide_eq_true_eq] at h
    have hac : a ≠ c := fun e => hne e.symm
    simp only [Memory.insert]
    split
    · next hlt =>
      split
      · rfl
      · simp only [Memory.read, hac, if_false]
        by_cases hca : c < a
        · have h1 : k ≠ c := by omega
          have h2 : c < k := by omega
          simp [hca, h1, h2]
        · simp [hca]
    · split
      · next heq =>
        subst heq
        split
        · simp only [Memory.read, hac, if_false]
          split
          · next hlt => rw [Memory.read_below h.2 (by omega)]
          · rfl
        · simp only [Memory.read, hac, if_false]
      · simp only [Memory.read]
        rw [ih h.2]

/-- Insertion keeps the canonical form. -/
theorem Memory.wfFrom_insert {m : Memory} {lo a : Nat} {b : Byte} (h : Memory.wfFrom lo m = true) (hlo : lo ≤ a)
    (ha : a < dramSize) : Memory.wfFrom lo (m.insert a b) = true := by
  induction m generalizing lo with
  | nil => by_cases hb : b = Config.unwrittenByte <;> simp [Memory.insert, Memory.wfFrom, hb, hlo, ha]
  | cons c rest ih =>
    obtain ⟨k, v⟩ := c
    have hw := h
    simp only [Memory.wfFrom, Bool.and_eq_true, decide_eq_true_eq] at h
    simp only [Memory.insert]
    split
    · next hlt =>
      split
      · exact hw
      · next hb =>
        simp only [Memory.wfFrom, Bool.and_eq_true, decide_eq_true_eq]
        exact ⟨⟨⟨hlo, ha⟩, hb⟩, ⟨⟨by omega, h.1.1.2⟩, h.1.2⟩, h.2⟩
    · split
      · next heq =>
        subst heq
        split
        · exact Memory.wfFrom_le h.2 (by omega)
        · next hb =>
          simp only [Memory.wfFrom, Bool.and_eq_true, decide_eq_true_eq]
          exact ⟨⟨⟨hlo, ha⟩, hb⟩, h.2⟩
      · simp only [Memory.wfFrom, Bool.and_eq_true, decide_eq_true_eq]
        exact ⟨h.1, ih h.2 (by omega)⟩

/-- A write keeps the canonical form. -/
theorem Memory.wf_write {m : Memory} (h : m.wf = true) (a : Nat) (b : Byte) : (m.write a b).wf = true := by
  unfold Memory.write
  split
  · next ha => exact Memory.wfFrom_insert h (Nat.zero_le _) ha
  · exact h

/-- A written byte reads back. -/
theorem Memory.read_write_same {m : Memory} (h : m.wf = true) {a : Nat} (b : Byte) (ha : a < dramSize) :
    (m.write a b).read a = b := by
  simp only [Memory.write, ha, if_true]
  exact Memory.read_insert_same h a b

/-- A write leaves every other byte alone. -/
theorem Memory.read_write_other {m : Memory} (h : m.wf = true) {a c : Nat} (b : Byte) (hne : c ≠ a) :
    (m.write a b).read c = m.read c := by
  unfold Memory.write
  split
  · exact Memory.read_insert_other h b hne
  · rfl

/-- Writing several bytes keeps the canonical form. -/
theorem Memory.wf_writeCells {m : Memory} (h : m.wf = true) (cells : List Host.Cell) :
    (m.writeCells cells).wf = true := by
  induction cells generalizing m with
  | nil => exact h
  | cons c rest ih => exact ih (Memory.wf_write h c.1 c.2)

/-- Bytes at no written address stay. -/
theorem Memory.read_writeCells_other {m : Memory} (h : m.wf = true) (cells : List Host.Cell) {a : Nat}
    (hne : ∀ c ∈ cells, c.1 ≠ a) : (m.writeCells cells).read a = m.read a := by
  induction cells generalizing m with
  | nil => rfl
  | cons c rest ih =>
    have h1 : a ≠ c.1 := fun e => hne c (by simp) e.symm
    have h2 := ih (Memory.wf_write h c.1 c.2) (fun d hd => hne d (by simp [hd]))
    exact h2.trans (Memory.read_write_other h c.2 h1)

/-- A burst keeps the canonical form. -/
theorem burstDram_wf {m : Memory} (h : m.wf = true) (b : Burst) : (burstDram m b).wf = true := by
  cases b with
  | write cells => exact Memory.wf_writeCells h cells
  | read a n => exact h

end Sys2Proof.Machine
end

