-- ==== Sys2Proof/Laws/Store.lean ====
section
/-! SUPPORT. The frame store's shared operations: what a report, a raised cause, a freed record and an allocation
leave alone, and which record an id or an allocation finds. -/

namespace Sys2Proof.Machine

variable (s : State)

@[simp] theorem raise_inReset (c : Cause) : (raise c s).inReset = s.inReset := rfl
@[simp] theorem raise_clock (c : Cause) : (raise c s).clock = s.clock := rfl
@[simp] theorem raise_pins (c : Cause) : (raise c s).pins = s.pins := rfl
@[simp] theorem raise_setup (c : Cause) : (raise c s).setup = s.setup := rfl
@[simp] theorem raise_sync (c : Cause) : (raise c s).sync = s.sync := rfl
@[simp] theorem raise_driver (c : Cause) : (raise c s).driver = s.driver := rfl
@[simp] theorem raise_seq (c : Cause) : (raise c s).seq = s.seq := rfl
@[simp] theorem raise_readout (c : Cause) : (raise c s).readout = s.readout := rfl
@[simp] theorem raise_dark (c : Cause) : (raise c s).dark = s.dark := rfl
@[simp] theorem raise_develop (c : Cause) : (raise c s).develop = s.develop := rfl
@[simp] theorem raise_card (c : Cause) : (raise c s).card = s.card := rfl
@[simp] theorem raise_path (c : Cause) : (raise c s).path = s.path := rfl
@[simp] theorem raise_dram (c : Cause) : (raise c s).dram = s.dram := rfl
@[simp] theorem raise_sent (c : Cause) : (raise c s).sent = s.sent := rfl
@[simp] theorem raise_pending (c : Cause) : (raise c s).pending = s.pending := rfl
@[simp] theorem raise_store (c : Cause) : (raise c s).store = s.store := rfl
@[simp] theorem raise_post (c : Cause) : (raise c s).req.post = s.req.post := rfl
@[simp] theorem raise_consumed (c : Cause) : (raise c s).req.consumed = s.req.consumed := rfl
@[simp] theorem raise_hand (c : Cause) : (raise c s).req.hand = s.req.hand := rfl
@[simp] theorem raise_answer (c : Cause) : (raise c s).req.answer = s.req.answer := rfl
@[simp] theorem raise_waits (c : Cause) : (raise c s).req.waits = s.req.waits := rfl
@[simp] theorem raise_waitsQueue (c : Cause) : (raise c s).req.waitsQueue = s.req.waitsQueue := rfl
@[simp] theorem raise_mask (c : Cause) : (raise c s).req.mask = s.req.mask := rfl
@[simp] theorem raise_attn (c : Cause) : (raise c s).req.attn = s.req.attn := rfl
@[simp] theorem raise_pageCount (c : Cause) : (raise c s).req.pageCount = s.req.pageCount := rfl
@[simp] theorem raise_statusDue (c : Cause) : (raise c s).req.statusDue = s.req.statusDue := rfl
@[simp] theorem raise_causes (c : Cause) : (raise c s).req.causes = s.req.causes ||| c.bit := rfl
@[simp] theorem raise_frame (c : Cause) (k : Fin 16) : (raise c s).frame k = s.frame k := rfl

@[simp] theorem report_inReset (id : Word) (f : Frame → Frame) : (report id f s).inReset = s.inReset := by
  unfold report; split <;> rfl
@[simp] theorem report_clock (id : Word) (f : Frame → Frame) : (report id f s).clock = s.clock := by
  unfold report; split <;> rfl
@[simp] theorem report_pins (id : Word) (f : Frame → Frame) : (report id f s).pins = s.pins := by
  unfold report; split <;> rfl
@[simp] theorem report_setup (id : Word) (f : Frame → Frame) : (report id f s).setup = s.setup := by
  unfold report; split <;> rfl
@[simp] theorem report_sync (id : Word) (f : Frame → Frame) : (report id f s).sync = s.sync := by
  unfold report; split <;> rfl
@[simp] theorem report_driver (id : Word) (f : Frame → Frame) : (report id f s).driver = s.driver := by
  unfold report; split <;> rfl
@[simp] theorem report_seq (id : Word) (f : Frame → Frame) : (report id f s).seq = s.seq := by
  unfold report; split <;> rfl
@[simp] theorem report_readout (id : Word) (f : Frame → Frame) : (report id f s).readout = s.readout := by
  unfold report; split <;> rfl
@[simp] theorem report_dark (id : Word) (f : Frame → Frame) : (report id f s).dark = s.dark := by
  unfold report; split <;> rfl
@[simp] theorem report_develop (id : Word) (f : Frame → Frame) : (report id f s).develop = s.develop := by
  unfold report; split <;> rfl
@[simp] theorem report_card (id : Word) (f : Frame → Frame) : (report id f s).card = s.card := by
  unfold report; split <;> rfl
@[simp] theorem report_path (id : Word) (f : Frame → Frame) : (report id f s).path = s.path := by
  unfold report; split <;> rfl
@[simp] theorem report_dram (id : Word) (f : Frame → Frame) : (report id f s).dram = s.dram := by
  unfold report; split <;> rfl
@[simp] theorem report_sent (id : Word) (f : Frame → Frame) : (report id f s).sent = s.sent := by
  unfold report; split <;> rfl
@[simp] theorem report_pending (id : Word) (f : Frame → Frame) : (report id f s).pending = s.pending := by
  unfold report; split <;> rfl
@[simp] theorem report_req (id : Word) (f : Frame → Frame) : (report id f s).req = s.req := by
  unfold report; split <;> rfl
@[simp] theorem report_layout (id : Word) (f : Frame → Frame) : (report id f s).store.layout = s.store.layout := by
  unfold report; split <;> rfl
@[simp] theorem report_nextId (id : Word) (f : Frame → Frame) : (report id f s).store.nextId = s.store.nextId := by
  unfold report; split <;> rfl
@[simp] theorem report_lodged (id : Word) (f : Frame → Frame) : (report id f s).store.lodged = s.store.lodged := by
  unfold report; split <;> rfl
@[simp] theorem report_mirrorDue (id : Word) (f : Frame → Frame) : (report id f s).store.mirrorDue = s.store.mirrorDue := by
  unfold report; split <;> rfl

/-- The record that a report changes, and no other. -/
theorem frame_report (id : Word) (f : Frame → Frame) (k : Fin 16) :
    (report id f s).frame k = if s.find id = some k then f (s.frame k) else s.frame k := by
  unfold report
  split
  · next j hj =>
    rw [State.frame_setFrame, hj]
    by_cases h : k = j
    · subst h; simp
    · have : ¬ some j = some k := fun e => h (Option.some.inj e).symm
      simp [h, this]
  · next hn => simp [hn]

/-- A named record is not FREE and holds the id, which is not 0 (R4). -/
theorem find_spec {s : State} {id : Word} {k : Fin 16} (h : s.find id = some k) :
    id ≠ 0 ∧ (s.frame k).state ≠ .free ∧ (s.frame k).id = id := by
  unfold State.find at h
  split at h
  · cases h
  · next h0 =>
    have := List.find?_some h
    simp only [Bool.and_eq_true, bne_iff_ne, beq_iff_eq] at this
    exact ⟨h0, this.1, this.2⟩

/-- An id that names no record is held by none. -/
theorem find_none {s : State} {id : Word} (h : s.find id = none) (h0 : id ≠ 0) (k : Fin 16)
    (hk : (s.frame k).state ≠ .free) : (s.frame k).id ≠ id := by
  unfold State.find at h
  rw [if_neg h0, List.find?_eq_none] at h
  have := h k (by simp [slots])
  simpa [hk] using this

@[simp] theorem dropLink_inReset (d : DarkState) : (dropLink d s).inReset = s.inReset := by
  cases d <;> simp [dropLink]
@[simp] theorem dropLink_clock (d : DarkState) : (dropLink d s).clock = s.clock := by
  cases d <;> simp [dropLink]
@[simp] theorem dropLink_pins (d : DarkState) : (dropLink d s).pins = s.pins := by
  cases d <;> simp [dropLink]
@[simp] theorem dropLink_setup (d : DarkState) : (dropLink d s).setup = s.setup := by
  cases d <;> simp [dropLink]
@[simp] theorem dropLink_sync (d : DarkState) : (dropLink d s).sync = s.sync := by
  cases d <;> simp [dropLink]
@[simp] theorem dropLink_driver (d : DarkState) : (dropLink d s).driver = s.driver := by
  cases d <;> simp [dropLink]
@[simp] theorem dropLink_seq (d : DarkState) : (dropLink d s).seq = s.seq := by
  cases d <;> simp [dropLink]
@[simp] theorem dropLink_readout (d : DarkState) : (dropLink d s).readout = s.readout := by
  cases d <;> simp [dropLink]
@[simp] theorem dropLink_dark (d : DarkState) : (dropLink d s).dark = s.dark := by
  cases d <;> simp [dropLink]
@[simp] theorem dropLink_develop (d : DarkState) : (dropLink d s).develop = s.develop := by
  cases d <;> simp [dropLink]
@[simp] theorem dropLink_card (d : DarkState) : (dropLink d s).card = s.card := by
  cases d <;> simp [dropLink]
@[simp] theorem dropLink_path (d : DarkState) : (dropLink d s).path = s.path := by
  cases d <;> simp [dropLink]
@[simp] theorem dropLink_dram (d : DarkState) : (dropLink d s).dram = s.dram := by
  cases d <;> simp [dropLink]
@[simp] theorem dropLink_sent (d : DarkState) : (dropLink d s).sent = s.sent := by
  cases d <;> simp [dropLink]
@[simp] theorem dropLink_pending (d : DarkState) : (dropLink d s).pending = s.pending := by
  cases d <;> simp [dropLink]
@[simp] theorem dropLink_req (d : DarkState) : (dropLink d s).req = s.req := by
  cases d <;> simp [dropLink]
@[simp] theorem dropLink_layout (d : DarkState) : (dropLink d s).store.layout = s.store.layout := by
  cases d <;> simp [dropLink]
@[simp] theorem dropLink_nextId (d : DarkState) : (dropLink d s).store.nextId = s.store.nextId := by
  cases d <;> simp [dropLink]
@[simp] theorem dropLink_lodged (d : DarkState) : (dropLink d s).store.lodged = s.store.lodged := by
  cases d <;> simp [dropLink]
@[simp] theorem dropLink_mirrorDue (d : DarkState) : (dropLink d s).store.mirrorDue = s.store.mirrorDue := by
  cases d <;> simp [dropLink]

@[simp] theorem closeRanks_inReset (a : Nat) : (closeRanks a s).inReset = s.inReset := rfl
@[simp] theorem closeRanks_clock (a : Nat) : (closeRanks a s).clock = s.clock := rfl
@[simp] theorem closeRanks_pins (a : Nat) : (closeRanks a s).pins = s.pins := rfl
@[simp] theorem closeRanks_setup (a : Nat) : (closeRanks a s).setup = s.setup := rfl
@[simp] theorem closeRanks_sync (a : Nat) : (closeRanks a s).sync = s.sync := rfl
@[simp] theorem closeRanks_driver (a : Nat) : (closeRanks a s).driver = s.driver := rfl
@[simp] theorem closeRanks_seq (a : Nat) : (closeRanks a s).seq = s.seq := rfl
@[simp] theorem closeRanks_readout (a : Nat) : (closeRanks a s).readout = s.readout := rfl
@[simp] theorem closeRanks_dark (a : Nat) : (closeRanks a s).dark = s.dark := rfl
@[simp] theorem closeRanks_develop (a : Nat) : (closeRanks a s).develop = s.develop := rfl
@[simp] theorem closeRanks_card (a : Nat) : (closeRanks a s).card = s.card := rfl
@[simp] theorem closeRanks_path (a : Nat) : (closeRanks a s).path = s.path := rfl
@[simp] theorem closeRanks_dram (a : Nat) : (closeRanks a s).dram = s.dram := rfl
@[simp] theorem closeRanks_sent (a : Nat) : (closeRanks a s).sent = s.sent := rfl
@[simp] theorem closeRanks_pending (a : Nat) : (closeRanks a s).pending = s.pending := rfl
@[simp] theorem closeRanks_req (a : Nat) : (closeRanks a s).req = s.req := rfl
@[simp] theorem closeRanks_layout (a : Nat) : (closeRanks a s).store.layout = s.store.layout := rfl
@[simp] theorem closeRanks_nextId (a : Nat) : (closeRanks a s).store.nextId = s.store.nextId := rfl
@[simp] theorem closeRanks_lodged (a : Nat) : (closeRanks a s).store.lodged = s.store.lodged := rfl
@[simp] theorem closeRanks_mirrorDue (a : Nat) : (closeRanks a s).store.mirrorDue = s.store.mirrorDue := rfl

@[simp] theorem freeRecord_inReset (k : Fin 16) : (freeRecord k s).inReset = s.inReset := by
  simp [freeRecord]
@[simp] theorem freeRecord_clock (k : Fin 16) : (freeRecord k s).clock = s.clock := by
  simp [freeRecord]
@[simp] theorem freeRecord_pins (k : Fin 16) : (freeRecord k s).pins = s.pins := by
  simp [freeRecord]
@[simp] theorem freeRecord_setup (k : Fin 16) : (freeRecord k s).setup = s.setup := by
  simp [freeRecord]
@[simp] theorem freeRecord_sync (k : Fin 16) : (freeRecord k s).sync = s.sync := by
  simp [freeRecord]
@[simp] theorem freeRecord_driver (k : Fin 16) : (freeRecord k s).driver = s.driver := by
  simp [freeRecord]
@[simp] theorem freeRecord_seq (k : Fin 16) : (freeRecord k s).seq = s.seq := by
  simp [freeRecord]
@[simp] theorem freeRecord_readout (k : Fin 16) : (freeRecord k s).readout = s.readout := by
  simp [freeRecord]
@[simp] theorem freeRecord_dark (k : Fin 16) : (freeRecord k s).dark = s.dark := by
  simp [freeRecord]
@[simp] theorem freeRecord_develop (k : Fin 16) : (freeRecord k s).develop = s.develop := by
  simp [freeRecord]
@[simp] theorem freeRecord_card (k : Fin 16) : (freeRecord k s).card = s.card := by
  simp [freeRecord]
@[simp] theorem freeRecord_path (k : Fin 16) : (freeRecord k s).path = s.path := by
  simp [freeRecord]
@[simp] theorem freeRecord_dram (k : Fin 16) : (freeRecord k s).dram = s.dram := by
  simp [freeRecord]
@[simp] theorem freeRecord_sent (k : Fin 16) : (freeRecord k s).sent = s.sent := by
  simp [freeRecord]
@[simp] theorem freeRecord_pending (k : Fin 16) : (freeRecord k s).pending = s.pending := by
  simp [freeRecord]
@[simp] theorem freeRecord_req (k : Fin 16) : (freeRecord k s).req = s.req := by
  simp [freeRecord]
@[simp] theorem freeRecord_layout (k : Fin 16) : (freeRecord k s).store.layout = s.store.layout := by
  simp [freeRecord]
@[simp] theorem freeRecord_nextId (k : Fin 16) : (freeRecord k s).store.nextId = s.store.nextId := by
  simp [freeRecord]
@[simp] theorem freeRecord_lodged (k : Fin 16) : (freeRecord k s).store.lodged = s.store.lodged := by
  simp [freeRecord]
@[simp] theorem freeRecord_mirrorDue (k : Fin 16) : (freeRecord k s).store.mirrorDue = s.store.mirrorDue := by
  simp [freeRecord]

theorem getElem_mapFrames (f : Frame → Frame) (v : Vector Frame 16) (k : Fin 16) : (mapFrames f v)[k] = f v[k] := by
  simp [mapFrames]

/-- Closing ranks changes each record by itself. -/
@[simp] theorem frame_closeRanks (a : Nat) (k : Fin 16) : (closeRanks a s).frame k = (s.frame k).closeRank a :=
  getElem_mapFrames _ _ _

/-- Giving up a link changes the linked record alone. -/
theorem frame_dropLink (d : DarkState) (k : Fin 16) :
    (dropLink d s).frame k = if d.link.bind s.find = some k then (s.frame k).loseUser else s.frame k := by
  cases d with
  | linked d => exact frame_report s d Frame.loseUser k
  | _ => rfl

/-- The record that becomes FREE. -/
@[simp] theorem frame_freeRecord_same (k : Fin 16) : (freeRecord k s).frame k = Frame.free (s.frame k).changeCount := by
  simp [freeRecord]

/-- Every other record, when one becomes FREE. -/
theorem frame_freeRecord_other (k j : Fin 16) (h : j ≠ k) :
    (freeRecord k s).frame j =
      (if (s.frame k).darkState.link.bind s.find = some j then (s.frame j).loseUser else s.frame j).closeRank
        (s.frame k).age := by
  simp [freeRecord, State.frame_setFrame_other _ _ _ _ h, frame_dropLink]

end Sys2Proof.Machine
end

