-- ==== Sys2Proof/Laws/Sequencer.lean ====
section
/-! SUPPORT. The shared operations of the driver, the sync input and the sequencer, each as one update of the state: what it
writes, and by omission what it leaves alone. -/

namespace Sys2Proof.Machine

/-- The driver once a drive in progress has gone off. -/
def Driver.offNow (d : Driver) : Driver :=
  if d.phase.driving then
    { d with phase := .off, params := none, openEval := false, pullTimer := none, holdTimer := none, bulbTimer := none,
             rampTimer := none, chopOn := false, chopTimer := none }
  else d

/-- The blanking timer after a phase change. -/
def State.blankNow (s : State) : Timer :=
  if (s.sync.target.map (·.blankTime)).getD s.setup.exposure.blankTime = 0 then s.sync.blanking
  else some ((s.sync.target.map (·.blankTime)).getD s.setup.exposure.blankTime)

/-- A phase change touches the blanking timer alone. -/
theorem phaseChange_eq (s : State) : phaseChange s = { s with sync := { s.sync with blanking := s.blankNow } } := by
  unfold phaseChange State.blankNow
  dsimp only
  split
  · rfl
  · rfl

/-- Drive off touches the driver and, if a drive was on, the blanking timer. -/
theorem driveOff_eq (s : State) : driveOff s =
    { s with driver := s.driver.offNow
             sync := { s.sync with blanking := if s.driver.phase.driving then s.blankNow else s.sync.blanking } } := by
  unfold driveOff Driver.offNow
  split
  · rw [phaseChange_eq]; rfl
  · rfl

/-- After drive off no drive is on. -/
@[simp] theorem Driver.offNow_driving (d : Driver) : d.offNow.phase.driving = false := by
  unfold Driver.offNow; split
  · rfl
  · simp_all

/-- Entering a state touches the sequencer, the sync input's listening and, where the permission is lost, the drive. -/
theorem seqEnter_eq (st : SeqState) (s : State) : seqEnter st s =
    { s with
      seq := { s.seq with state := st, refusedTrip := if st = .armed then s.seq.refusedTrip else none }
      sync := { s.sync with
        listening := st == .armed, rearmed := s.sync.rearmed && st == .armed
        blanking := if ((st == .waitSync || st == .open) && s.seq.shot.any fun h => h.origin == .release) = false
            ∧ s.driver.phase.driving then s.blankNow else s.sync.blanking }
      driver := if ((st == .waitSync || st == .open) && s.seq.shot.any fun h => h.origin == .release) then s.driver
        else s.driver.offNow } := by
  unfold seqEnter
  dsimp only [State.permission, State.onSync, State.onSeq]
  split
  · next h => simp [h]
  · next h => rw [driveOff_eq]; simp [h]; rfl

/-- A report touches the frame table alone. -/
theorem report_eq (id : Word) (f : Frame → Frame) (s : State) : report id f s =
    { s with store := { s.store with frames := match s.find id with
        | some k => s.store.frames.set k (f s.store.frames[k])
        | none => s.store.frames } } := by
  unfold report
  split
  · simp_all; rfl
  · simp_all

/-- Entering ARMED starts the flush loop, or takes a pass in progress as its first. -/
theorem enterArmed_eq (s : State) : enterArmed s =
    { seqEnter .armed s with
      seq := { s.seq with state := .armed, closingFlush := false
                          flushWait := if s.seq.flushWait.isSome then s.seq.flushWait
                            else some (ms s.setup.sensor.flushTimeout) }
      sent := if s.seq.flushWait.isSome then s.sent else s.sent ++ [.sensorFlush] } := by
  unfold enterArmed; rw [seqEnter_eq]
  dsimp only [State.onSeq]
  split
  · next h => simp
  · next h => simp [issueFlush, State.onSeq, State.send]

end Sys2Proof.Machine
end

