-- ==== Sys2Proof/Tests/Slice0.lean ====
section
/-! SUPPORT. Small tests of single steps, with values from the manual's worked cases, and a witness for the hypotheses of
every statement that has some. -/

namespace Sys2Proof.Tests

open Sys2Proof.Machine

/-! ## Small states -/

/-- Something of the state after a command. -/
def see {α : Type} (i : Instr) (s : State) (f : State → α) : Option α :=
  match exec i s with
  | .next t => some (f t)
  | _ => none

/-- The reason a command is refused for. -/
def refusal (i : Instr) (s : State) : Option Refusal :=
  match exec i s with
  | .refused r => some r
  | _ => none

/-- The sensor and layout of the slot layout worked case (01), the sequencer IDLE; every handoff taken at once. -/
def idle : State := { State.reset with
  setup := { resetSetup with sensor := ⟨some 11664, some 8750, 64, .rggb, 2048, 2, 20, 50⟩, accepted := true }
  store := { resetStore with layout := ⟨10, 205520896, 11728, 205240000⟩ }
  seq := { resetSequencer with state := .idle }
  lags := [] }

/-- Every view OPEN when a read was taken. -/
def allLive : Four Bool := ⟨true, true, true, true⟩

/-- Something of the state after a microsecond. -/
def wait {α : Type} (s : State) (f : State → α) : Option α :=
  match step s with
  | .next t => some (f t)
  | _ => none

/-- A message that arrives with the next microsecond. -/
def arriving (m : Message) (s : State) : State := s.onHandoffs fun _ => [⟨m, 1⟩]

/-- Record `k` replaced. -/
def put (k : Fin 16) (f : Frame) (s : State) : State := s.onStore fun x => { x with frames := x.frames.set k f }

/-- A record with an id, a kind and a state. -/
def rec_ (id : Word) (kind : FrameKind) (state : FrameState) (age : Nat) : Frame :=
  { Frame.free 0 with id := id, kind := kind, state := state, age := age }

/-- The sequencer in a state. -/
def at_ (st : SeqState) (s : State) : State := s.onSeq fun q => { q with state := st }

/-- Frame 1, LIGHT, in flight in slot 0. -/
def flight : Frame := { rec_ 1 .light .exposing 0 with shotMode := some .syncWindow, integStart := some 100 }

/-- The shot of frame 1. -/
def shot1 : Shot := newShot 1 0 .light .release (some .syncWindow) 10000 false defaultExposure 0

/-- A released shot in a sequencer state. -/
def shooting (st : SeqState) (h : Shot) : State :=
  (put 0 flight (at_ st idle)).onSeq fun q => { q with shot := some h }

/-- The target of frame 1. -/
def aimed (e : Expect) (s : State) : State := s.onSync fun y => { y with target := some ⟨1, 200, 500, 800⟩, expect := e }

/-- A run that is complete. -/
def done (closing : Bool) (s : State) : State :=
  s.onSync fun y => { y with run := some ⟨closing, 77, 500, 500⟩, qualified := !closing }

/-- A drive in PULL_IN. -/
def driving (s : State) : State := s.onDriver fun d => { d with
  phase := .pullIn, params := some ⟨.syncWindow, 0, 30000, 6, 250000, .abort, 2000⟩, openEval := true
  pullTimer := some 30000, rampTimer := some 1000 }

/-- A dark shot of frame 2 in slot 1, for light frame 1. -/
def darkShot : Shot := newShot 2 1 .dark .autoDark none 0 true defaultExposure 5000

/-- Light frame 1 COMPLETE and awaiting dark 2, which is in flight. -/
def darkening (st : SeqState) : State :=
  { put 0 { rec_ 1 .light .complete 0 with darkState := .pending }
      (put 1 { rec_ 2 .dark .exposing 1 with origin := .autoDark, integStart := some 5 } (at_ st idle)) with
    seq := { resetSequencer with state := st, shot := some darkShot }
    dark := ⟨some ⟨some 1, 5000, 2, 0⟩⟩ }.onStore fun x => { x with lodged := some (2, 1) }

/-- A frame in readout, with two rows of four samples, two of them optical black. -/
def rf : ReadoutFrame := ⟨1, 0, .light, 3072, ⟨true, 1000, 1, 48⟩, 0x1000000, 4, 2, 2, .rggb, 2048, 50000⟩

/-- Frame 1 in readout. -/
def reading : State :=
  { put 0 { flight with state := .readout, integEnd := some 2000100 } (at_ .readout idle) with
    seq := { resetSequencer with state := .readout, shot := some shot1 }
    readout := { resetReadout with frame := some rf, rowTimer := some 50000 } }

/-- A card that is READY, with some jobs. -/
def ready (jobs : List Job) (x : Option Transfer) (s : State) : State := s.onCard fun c =>
  { c with state := .ready, detectIn := true, capacity := some 62521344, wpSample := some false, jobs := jobs, transfer := x }

/-- A write of two sectors from the staging region. -/
def memJob : Job := ⟨13, .writeMem, 0, 0, 0x100000, 1024, 2048, false, true, 0⟩

/-- A read of two sectors into the staging region. -/
def readJob : Job := { memJob with kind := .readMem }

/-- Frame 1 COMPLETE in slot 0. -/
def stored : State := put 0 (rec_ 1 .light .complete 0) idle

/-- View 1 OPEN on frame 1. -/
def viewing (form : Form) : State := (put 0 { rec_ 1 .light .complete 0 with viewPins := 1 } idle).setView 1
  { resetView with state := .open, frame := some 1, form := form, settings := some ⟨⟨4096, 4096, 4096, 4096⟩, 65535, false⟩
                   rows := 8750 }

/-! ## The form of commands -/

theorem test_write_of_no_byte_is_ill_formed : (Instr.processorWrite 0 []).wellFormed = false := by decide
theorem test_write_of_65_bytes_is_ill_formed :
    (Instr.processorWrite 0 (List.replicate 65 none)).wellFormed = false := by decide
theorem test_read_of_no_byte_is_ill_formed : (Instr.apertureRead 0 0).wellFormed = false := by decide
theorem test_read_of_65_bytes_is_ill_formed : (Instr.apertureRead 0 65).wellFormed = false := by decide
theorem test_post_without_byte_is_ill_formed : (Instr.postWrite none none).wellFormed = false := by decide
theorem test_clear_without_byte_is_ill_formed : (Instr.causeClearWrite none none none none).wellFormed = false := by decide
theorem test_known_kind_is_no_unknown_request : (Instr.unknownRequest 0x0062).wellFormed = false := by decide
theorem test_short_identity_is_ill_formed : (Instr.identifyAnswer [1] 0).wellFormed = false := by decide
theorem test_short_capacity_is_ill_formed : (Instr.capacityAnswer [1, 2, 3] 0).wellFormed = false := by decide
theorem test_short_sector_is_ill_formed : (Instr.readSectorReceived [] 0).wellFormed = false := by decide
theorem test_write_of_64_bytes_is_well_formed :
    (Instr.processorWrite 0 (List.replicate 64 none)).wellFormed = true := by decide

/-! ## Arithmetic -/

/-- The check value of "123456789" (05 section 5.3). -/
theorem test_crc16 : crc16 [0x31, 0x32, 0x33, 0x34, 0x35, 0x36, 0x37, 0x38, 0x39] = 0x29B1 := by decide +kernel

/-- 01 Table. Slot layout for the worked case. -/
theorem test_slot_layout : layoutOf 11664 8750 64 0 = ⟨10, 205520896, 11728, 205240000⟩ := by decide
theorem test_slot_bases : ((layoutOf 11664 8750 64 0).base 1, (layoutOf 11664 8750 64 0).base 9)
    = (0x0D400000, 0x6F400000) := by decide
/-- The first active sample of row 1 of slot 0 (01 section 1.1). -/
theorem test_sample_address : idle.sampleAddr 0 (1, 64) = 0x01005C20 := by decide

/-- 05 Table. Channel black levels. -/
theorem test_black_levels :
    measure { rf with ob := 64, rows := 8750 } ⟨288412345, 287210000, 286999999, 288700123⟩
      = ⟨⟨2060, 2052, 2050, 2062⟩, 2056⟩ := by decide

/-- 07 Table. The quad's samples: red, the two greens, and a blue sample at the white clip. -/
theorem test_developed_samples :
    (developSample 30000 2060 (darkExcess 2100 2058 65535) 7680 65535,
     developSample 41000 2052 (darkExcess 2049 2051 65535) 4096 65535,
     developSample 40900 2050 (darkExcess 2060 2049 65535) 4096 65535,
     developSample 65535 2062 (darkExcess 2070 2060 65535) 4096 65535) = (52309, 38950, 38839, 65535) := by decide
/-- 07 Table. Tone map of the pixel. -/
theorem test_tone_map :
    [52309, 38895, 65535].map (fun v => colourByte (toneLevel defaultTone v)) = [204, 152, 255] := by decide

/-- 07 Table. Aperture offsets. -/
theorem test_corrected_raw_position :
    (viewing .correctedRaw).positions .correctedRaw (offsetOf 0x858FE3A0) = [(4000, 2064)] := by decide
theorem test_quad_position : (viewing .quadRgb8).positions .quadRgb8 (offsetOf 0xA2C7F9A0)
    = [(4000, 2064), (4000, 2065), (4001, 2064), (4001, 2065)] ∧ viewOf 0xA2C7F9A0 = 1 := by decide

/-! ## Frame store -/

/-- 01 Table. Frame table before the sequence. -/
def table : State :=
  put 0 { rec_ 101 .light .complete 0 with settled := true, darkState := .linked 102 } <|
  put 1 { rec_ 102 .dark .complete 1 with darkUsers := 1 } <|
  put 2 { rec_ 103 .light .complete 2 with cardPins := 1 } <|
  put 3 { rec_ 104 .light .spoiled 3 with spoil := some .falseStart } <|
  put 4 { rec_ 105 .light .complete 4 with settled := true, keep := true } <|
  put 5 (rec_ 106 .dark .complete 5) <|
  put 6 { rec_ 107 .light .complete 6 with viewPins := 1 } <|
  put 7 { rec_ 108 .light .complete 7 with settled := true } <|
  put 8 (rec_ 109 .light .complete 8) <|
  put 9 (rec_ 110 .light .complete 9) <|
  idle.onStore fun x => { x with nextId := 111 }

theorem test_allocatable_count : table.allocatable = 4 := by decide
/-- Step A1 takes slot 3. -/
theorem test_allocation_takes_the_spoiled_slot : (allocate .light .release none table).2 = some (3, 111) := by decide
/-- Step A3: with slots 3 and 5 gone, slot 0 is taken and dark 102 loses its user. -/
theorem test_reclaim_drops_the_link :
    let s := put 3 { rec_ 111 .light .exposing 9 with keep := true } (put 5 { rec_ 112 .dark .complete 8 with keep := true } table)
    let t := allocate .light .release none s
    t.2.map (·.1) = some 0 ∧ (t.1.frame 1).darkUsers = 0 := by decide
theorem test_ranks_close_up :
    let t := (allocate .light .release none table).1
    (t.frame 3).age = 9 ∧ (t.frame 4).age = 3 ∧ (t.frame 9).age = 8 := by decide
theorem test_keep : see (.keep 104) table (fun t => ((t.frame 3).keep, t.req.answer)) = some (true, some .ok) := by decide
theorem test_unkeep : see (.unkeep 105) table (fun t => (t.frame 4).keep) = some false := by decide
theorem test_settle_spoiled : see (.settle 104) table (·.req.answer) = some (some .notReady) := by decide
theorem test_discard_in_use : see (.discard 102) table (·.req.answer) = some (some .inUse) := by decide
theorem test_discard_closes_ranks :
    see (.discard 104) table (fun t => ((t.frame 3).state, (t.frame 9).age)) = some (.free, 8) := by decide
theorem test_mirror_write :
    see (.mirrorWrite 3) table (fun t => (t.dram.readBytes 0x3180 1, (t.frame 3).changeCount)) = some ([1], 1) := by
  decide +kernel

/-! ## Memory path and requests -/

theorem test_write_into_a_protected_slot_is_dropped :
    see (.processorWrite 0x1000000 [some 7]) stored (fun t => (t.path.drops, t.path.processor.waiting))
      = some (1, []) := by decide
theorem test_write_of_the_post_word_waits_as_post :
    see (.processorWrite 0 [some 3]) idle (fun t => t.path.posts) = some [⟨some 3, none, 1⟩] := by decide
theorem test_write_past_the_top_stops : exec (.processorWrite 0xFFFFFFFF [some 1, some 2]) idle
    = .fault .outsideAddressSpace := rfl
theorem test_ill_formed_read_is_refused : refusal (.apertureRead 0 0) idle = some .notATransaction := by decide
/-- 09 Table. Posting and consuming, steps 2 and 4. -/
theorem test_post_across_the_wrap :
    let s := idle.onReq fun q => { q with post := 65534, consumed := 65534 }
    see (.postWrite (some 1) (some 0)) s (·.req.post) = some 1 := by decide
/-- R171, R188: behind a read in service no post reaches the part. -/
theorem test_post_behind_a_read_waits :
    see (.postWrite (some 1) none) (idle.onDevelop fun d =>
      { d with service := some ⟨0x80000000, 1, allLive, false, false, .computing⟩ }) (·.req.post) = some 0 := by decide
theorem test_post_too_far_ahead :
    let s := idle.onReq fun q => { q with post := 1, consumed := 65535 }
    see (.postWrite (some 16) (some 0)) s (fun t => (t.req.post, t.req.causes)) = some (1, Cause.postError.bit) := by
  decide
theorem test_cause_clear : see (.causeClearWrite (some 2) none none none) (idle.onReq fun q => { q with causes := 3 })
    (·.req.causes) = some 1 := by decide
theorem test_fetch_at_the_ring_slot :
    let s := { idle.onReq fun q => { q with post := 65535, consumed := 65534 } with
      dram := [(0x1380, 0x40), (0x1382, 9), (0x1388, 5)] }
    see .requestFetch s (·.req.hand) = some (some ⟨.keep 5, 9⟩) := by decide
theorem test_complete_writes_the_result :
    let s := idle.onReq fun q => { q with post := 65535, consumed := 65534, hand := some ⟨.disarm, 9⟩, answer := some .ok }
    see .requestComplete s (fun t => (t.req.consumed, t.dram.readBytes 0x13BC 2)) = some (65535, [255, 255]) := by decide
theorem test_status_page :
    see .statusPageWrite idle (fun t => (t.dram.readBytes 0x2000 1, t.dram.readBytes 0x2FFC 1)) = some ([1], [1]) := by
  decide +kernel
theorem test_queue_mirror : see .cardQueueMirrorWrite (ready [memJob] none idle) (fun t => t.dram.readBytes 0x4404 1)
    = some [1] := by decide +kernel
theorem test_mask_asserts_the_line :
    see (.setMask 0x4001) (idle.onReq fun q => { q with causes := 1 }) (fun t => (t.req.attn, t.req.mask)) = some (true, 1) := by
  decide
theorem test_unknown_request : see (.unknownRequest 7) idle (·.req.answer) = some (some .unknown) := by decide
theorem test_readout_goes_first :
    let s := idle.onPath fun p => { p with readout := ⟨[.write [(1, 1)]], []⟩, card := ⟨[.write [(2, 2)]], []⟩ }
    see .arbiterGrant s (·.dram) = some [(1, 1)] := by decide

/-! ## Resets and setup -/

theorem test_restart : see (.restart true true) (shooting .waitSync shot1) (fun t => ((t.frame 0).spoil, t.seq.state))
    = some (some .restart, .idle) := by decide
theorem test_power_on_keeps_dram : see .powerOnReset { idle with dram := [(5, 5)] } (fun t => (t.dram, t.inReset))
    = some ([(5, 5)], true) := by decide
theorem test_reset_end_samples_the_contact :
    see (.resetEnd true false) { State.reset with inReset := true } (·.sync.run) = some (some ⟨true, 0, 0, 200⟩) := by decide +kernel
/-- 10 section 10.9, step 3: an odd width. -/
theorem test_setup_sensor_odd_width :
    see (.setupSensor { wa := some 11665, h := some 8750 }) State.reset (fun t => (t.req.answer, t.seq.state))
      = some (some .badParam, .unset) := by decide
/-- Step 4. -/
theorem test_setup_sensor :
    see (.setupSensor { wa := some 11664, h := some 8750 }) State.reset
      (fun t => (t.req.answer, t.seq.state, t.store.layout.slotCount)) = some (some .ok, .idle, 10) := by decide
/-- Step 2. -/
theorem test_setup_store_clamps : see (.setupStore { slotLimit := some 20 }) State.reset
    (fun t => (t.req.answer, t.setup.slotLimit, t.store.layout.slotCount)) = some (some .clamped, 16, 0) := by decide
/-- Step 1. -/
theorem test_setup_exposure_clamps :
    see (.setupExposure { syncTimeout := some 3000, holdDuty := some 20, darkThreshold := some 50 }) State.reset
      (fun t => (t.req.answer, t.setup.exposure.syncTimeout, t.setup.exposure.holdDuty, t.setup.exposure.darkThreshold))
      = some (some .clamped, 2000, 16, 100) := by decide

/-! ## Sequencer, driver and contact -/

theorem test_release_begins_the_check :
    see (.release 0 0 0) idle (fun t => (t.req.answer, t.seq.state, t.driver.phase)) = some (some .ok, .preparing, .check) := by
  decide
theorem test_release_with_the_contact_closed :
    see (.release 0 0 0) (idle.onSync fun y => { y with qualified := true }) (·.req.answer) = some (some .syncStuck) := by
  decide
theorem test_check_end_issues_the_first_flush :
    let s := (shooting .preparing { shot1 with checking := true, passesLeft := 2 }).onDriver fun d =>
      { d with phase := .check, checkTimer := some 0, checkFor := some 1 }
    see (.checkEnd 500) s (fun t => (t.driver.cable, t.sent)) = some (.present, [.sensorFlush]) := by decide
theorem test_check_end_without_cable :
    let s := (shooting .preparing { shot1 with checking := true, passesLeft := 2 }).onDriver fun d =>
      { d with phase := .check, checkTimer := some 0, checkFor := some 1 }
    see (.checkEnd 499) s (fun t => ((t.frame 0).spoil, t.seq.state)) = some (some .noCable, .idle) := by decide
/-- 04 Table. Shot timeline, 1,014,000: the last flush-done starts integration and the drive. -/
theorem test_last_flush_starts_integration :
    let s := { aimed .none ((shooting .preparing { shot1 with passesLeft := 1 }).onSeq fun q =>
      { q with flushWait := some 5 }) with clock := 1014000 }
    see .flushDone s (fun t => (t.seq.state, t.driver.phase, t.sync.expect, t.sync.blanking, (t.frame 0).release))
      = some (.waitSync, .pullIn, .close, some 800, some 1014000) := by decide
/-- 1,044,000: HOLD, blanking again. -/
theorem test_pull_in_end :
    let s := aimed .close ((driving (shooting .waitSync shot1)).onDriver fun d => { d with pullTimer := some 0 })
    see .pullInEnd s (fun t => (t.driver.phase, t.driver.chopTimer, t.sync.blanking)) = some (.hold, some 24, some 800) := by
  decide
theorem test_chop : see .holdChop ((driving idle).onDriver fun d => { d with phase := .hold, chopOn := true, chopTimer := some 0 })
    (fun t => (t.driver.chopOn, t.driver.chopTimer)) = some (false, some 40) := by decide
/-- 02 Table. Qualification of a bouncing close: the bounce. -/
theorem test_bounce :
    let s := { aimed .close ((shooting .waitSync shot1).onSync fun y => { y with run := some ⟨true, 1082400, 50, 200⟩ }) with
      pins := { resetPins with syncClosed := true } }
    see (.syncRawEdge false) s (fun t => ((t.frame 0).bounce, t.sync.run)) = some (1, none) := by decide
/-- 1,082,720: the qualified close turns the drive of a SYNC_WINDOW shot off. -/
theorem test_qualified_close :
    see .runQualifies (aimed .close (done true (driving (shooting .waitSync shot1))))
      (fun t => (t.seq.state, t.driver.phase, t.sync.expect, (t.frame 0).syncClose)) = some (.open, .off, .open, some 77) := by
  decide
theorem test_qualified_open :
    see .runQualifies (aimed .open (done false (shooting .open shot1)))
      (fun t => (t.seq.state, (t.frame 0).syncOpen, t.seq.shot.bind (·.tailTimer))) = some (.tail, some 77, some 4000) := by
  decide
/-- 02 Table. Opening edge inside blanking, 2,001,000. -/
theorem test_blanked_edge :
    let s := { aimed .open ((shooting .open shot1).onSync fun y => { y with qualified := true, blanking := some 0 }) with
      clock := 2001000 }
    see .blankingEnd s (fun t => (t.sync.run, hasFlag (t.frame 0).flags .blankedEdge))
      = some (some ⟨false, 2001000, 0, 500⟩, true) := by decide
/-- 04 Table. Armed trips, 5,000,000. -/
theorem test_trip_edge :
    let s := { (at_ .armed idle).onSync fun y => { y with listening := true } with clock := 5000000 }
    see (.syncRawEdge true) s (fun t => (t.seq.state, (t.frame 0).origin, (t.frame 0).integStart, t.sent))
      = some (.tripped, .tripped, some 5000000, [.sensorStart]) := by decide
/-- 5,020,060: the false start. -/
theorem test_false_start :
    let h := { shot1 with origin := .tripped, windowTimer := some 0, returnArmed := true }
    see .falseStartWindowExpiry (shooting .tripped h) (fun t => (t.seq.state, (t.frame 0).spoil, t.seq.falseStarts, t.sent))
      = some (.armed, some .falseStart, 1, [.sensorFlush]) := by decide
theorem test_sync_timeout :
    see .syncTimeout (shooting .waitSync { shot1 with syncTimer := some 0 })
      (fun t => (t.seq.state, hasFlag (t.frame 0).flags .noSync, t.sent)) = some (.readout, true, [.sensorEnd]) := by decide
theorem test_timer_that_still_runs_does_nothing :
    see .tailEnd (shooting .tail { shot1 with tailTimer := some 1 }) (·.seq.state) = some .tail := by decide
theorem test_short_latches :
    see .shortDetected ((driving (shooting .open shot1)).onDriver fun d => { d with shortTimer := 10 })
      (fun t => (t.driver.faultShort, t.driver.phase, hasFlag (t.frame 0).flags .releaseFaultLate)) = some (true, .off, true) := by
  decide
theorem test_open_load_aborts :
    see .openLoadLatch ((driving (shooting .waitSync shot1)).onDriver fun d => { d with openTimer := 2000 })
      (fun t => (t.driver.cable, (t.frame 0).spoil)) = some (.absent, some .releaseFault) := by decide
theorem test_ack_timeout_is_a_fault :
    see .ackTimeout ((shooting .waitSync shot1).onSeq fun q => { q with startWait := some 0 })
      (fun t => (t.seq.state, (t.frame 0).spoil)) = some (.fault, some .sensorFault) := by decide
theorem test_cancel : see .cancel (shooting .waitSync shot1) (fun t => (t.seq.state, (t.frame 0).spoil, t.sent))
    = some (.idle, some .cancelled, [.sensorFlush]) := by decide
theorem test_idle_step_counts : wait { idle with clock := 0xFFFFFFFF } (·.clock) = some 0 := by decide
/-- R37: a trip edge answered two microseconds later, its run abandoned meanwhile. -/
theorem test_trip_edge_awaits_its_answer :
    let s := { (at_ .armed idle).onSync fun y => { y with listening := true } with lags := [2] }
    see (.syncRawEdge true) s (fun t => (t.seq.state, t.handoffs)) = some (.armed, [⟨.tripEdge 0 defaultExposure false, 2⟩]) := by
  decide
theorem test_abandoned_trip_edge_bounces_as_it_is_answered :
    wait (arriving (.tripEdge 0 defaultExposure true) (at_ .armed idle))
      (fun t => (t.seq.state, (t.frame 0).bounce, t.seq.shot.bind (·.windowTimer))) = some (.tripped, 1, some 20000) := by
  decide
/-- R37, R199: a SETUP_EXPOSURE between the trip edge and its answer does not reach the shot. -/
theorem test_tripped_frame_takes_the_exposure_of_its_edge :
    wait (arriving (.tripEdge 0 { defaultExposure with closeQualify := 123, pullIn := 7 } false) (at_ .armed idle))
      (fun t => (t.sync.target.map (·.closeQualify), t.seq.shot.map (·.params.pullIn))) = some (some 123, some 7) := by
  decide
/-- R53: a SHORT report made before the close's drive off is taken in OPEN. -/
theorem test_short_report_taken_in_open :
    wait (arriving (.driver (some 1) (.driveEnded .short 0)) (shooting .open shot1))
      (fun t => (t.seq.state, hasFlag (t.frame 0).flags .releaseFaultLate)) = some (.open, true) := by decide
/-- R115: a light frame whose decision comes after RESTART gets no dark. -/
theorem test_decision_after_restart_is_missing :
    wait (arriving (.completed rf) (put 0 { rec_ 1 .light .complete 0 with
        integStart := some 0, integEnd := some 2000000, awaitDark := true } idle))
      (fun t => ((t.frame 0).darkState, t.store.nextId)) = some (.missing, 1) := by decide
/-- R100: a completion report that RESTART has overtaken is dropped, the history entry standing. -/
theorem test_completion_after_restart_is_dropped :
    let s := { (reading.onReadout fun r => { r with expected := 2, stored := 2, marker := true }) with lags := [3] }
    see .frameComplete s (fun t => (t.readout.frame, t.readout.history, (t.frame 0).state, t.req.causes, t.handoffs.length))
        = some (none, [0], .readout, 0, 1)
      ∧ wait (arriving (.completion rf ⟨⟨0, 0, 0, 0⟩, 0⟩ []) (put 0 (rec_ 1 .light .spoiled 0) idle))
        (fun t => ((t.frame 0).state, t.req.causes, t.handoffs)) = some (.spoiled, 0, []) := by decide +kernel
/-- R22: a dark that one handoff links and another, in the same microsecond, gives back has changed twice. -/
theorem test_two_changes_in_a_microsecond_are_written :
    let b : Blacks := ⟨⟨2050, 2050, 2050, 2050⟩, 2050⟩
    let s := put 0 { rec_ 1 .light .complete 2 with
        integStart := some 0, integEnd := some 2000000, blacks := some b, awaitDark := true } <|
      put 1 { rec_ 2 .dark .complete 0 with
        integStart := some 0, integEnd := some 2000000, blacks := some b, darkUsers := 1 } <|
      put 2 { rec_ 3 .light .complete 1 with settled := true, darkState := .linked 2 } (at_ .armed idle)
    wait ((s.onStore fun x => { x with nextId := 4, mirrorDue := [], layout := { x.layout with slotCount := 3 } }).onHandoffs fun _ =>
        [⟨.completed rf, 1⟩, ⟨.tripEdge 0 defaultExposure false, 1⟩])
      (fun t => ((t.frame 0).darkState, (t.frame 1).darkUsers, (t.frame 2).id, t.store.mirrorDue))
      = some (.linked 2, 1, 4, [0, 1, 2]) := by decide +kernel

/-- R54, R209: a supply that falls during power-on reset is indicated 100 microseconds after its end. -/
theorem test_supply_that_falls_during_reset :
    let s := { State.reset with inReset := true }
    see (.supplyComparatorChange true) s (·.pins.supplyLow) = some true
      ∧ see (.resetEnd false false) { s with pins := { resetPins with supplyLow := true } } (·.driver.supplyFilter)
        = some (some 100) := by decide +kernel
/-- R187: RESTART leaves a pass-through read in service to complete as without it. -/
theorem test_restart_leaves_pass_through :
    let sv (addr : Nat) : Service := ⟨addr, 2, allLive, false, false, .computing⟩
    let s (addr : Nat) := idle.onDevelop fun d => { d with service := some (sv addr) }
    see (.restart false false) (s 0x7FFFFFFE) (fun t => (t.develop.service, t.sent.length)) = some (some (sv 0x7FFFFFFE), 0)
      ∧ see (.restart false false) (s 0x7FFFFFFF) (fun t => (t.develop.service, t.sent.length)) = some (none, 1) := by
  decide +kernel

/-! ## Readout and darks -/

theorem test_row_is_taken :
    see (.rowPacket 0 [1, 2, 3, 4] 0) reading (fun t => (t.readout.expected, t.readout.badRows, t.readout.sums))
      = some (1, 1, ⟨1, 2, 0, 0⟩) := by decide +kernel
theorem test_row_out_of_order : see (.rowPacket 1 [1, 2, 3, 4] 0) reading (fun t => (t.frame 0).spoil)
    = some (some .linkLost) := by decide
theorem test_marker_too_early : see .frameEndMarker reading (fun t => ((t.frame 0).spoil, t.seq.state))
    = some (some .linkLost, .idle) := by decide
/-- 06 Table. Dark records at the decision: dark 207 is chosen. -/
theorem test_reuse_search :
    let dark (id : Word) (age time : Nat) (b : Four Nat) : Frame :=
      { rec_ id .dark .complete age with
        integStart := some 0, integEnd := some (BitVec.ofNat 32 time), blacks := some ⟨b, 0⟩ }
    let s := put 0 { rec_ 220 .light .complete 9 with
        integStart := some 0, integEnd := some 30000000, blacks := some ⟨⟨2060, 2052, 2050, 2062⟩, 2056⟩ } <|
      put 1 (dark 201 2 28000000 ⟨2058, 2051, 2049, 2060⟩) <| put 2 (dark 205 3 33500000 ⟨2110, 2052, 2050, 2062⟩) <|
      put 3 (dark 207 5 32000000 ⟨2063, 2055, 2049, 2064⟩) <| put 4 (dark 209 6 35000000 ⟨2061, 2053, 2051, 2062⟩) <|
      put 5 { rec_ 210 .dark .spoiled 7 with spoil := some .lightLeak } idle
    s.reuse ⟨true, 1000, 1, 48⟩ 0 = some 3 := by decide
/-- 06 Table. Dark job through three leaks: the first leak orders the next dark. -/
theorem test_light_leak_retries :
    see .runQualifies (done true (darkening .darkRun)) (fun t => ((t.frame 1).spoil.isSome, t.dark.job.map (·.retry), t.seq.state))
      = some (true, some 1, .preparing) := by decide
theorem test_third_leak_is_missing :
    see .runQualifies (done true { darkening .darkRun with dark := ⟨some ⟨some 1, 5000, 2, 2⟩⟩ })
      (fun t => ((t.frame 0).darkState, t.dark.job, t.seq.state)) = some (.missing, none, .armed) := by decide
theorem test_take_dark : see (.takeDark 999) idle (fun t => (t.req.answer, t.dark.job.map (·.duration), t.seq.state))
    = some (some .clamped, some 1000, .preparing) := by decide

/-! ## Develop engine and card engine -/

theorem test_open_view : see (.openView ⟨1, 0, 0, 0, 1, 0, 4096, 4096, 4096, 4096, 65535⟩) stored
    (fun t => ((t.view 1).state, (t.frame 0).viewPins)) = some (.open, 1) := by decide
theorem test_close_view : see (.closeView 1) (viewing .quadRgb8) (fun t => ((t.view 1).state, (t.frame 0).viewPins))
    = some (.closed, 0) := by decide
/-- A read beyond the image end returns zeros without fetching (07 section 7.3). -/
theorem test_read_beyond_the_image :
    see (.apertureRead 0xAC2AA040 2) (viewing .correctedRaw) (fun t => t.path.develop.waiting) = some [] := by decide
theorem test_corrected_raw_byte :
    let s := { viewing .correctedRaw with dram := [(0x1000080, 0x10), (0x1000081, 0x08)] }
    s.apertureByte ⟨0xA0000000, 2, allLive, false, false, .computing⟩ 0xA0000000 = 0x10 := by decide
/-- R123: a read taken while the view was not OPEN answers 0. -/
theorem test_byte_of_a_view_opened_later :
    let s := { viewing .correctedRaw with dram := [(0x1000080, 0x10)] }
    s.apertureByte ⟨0xA0000000, 2, ⟨false, false, false, false⟩, false, false, .computing⟩ 0xA0000000 = 0 := by decide
theorem test_load_tone_odd_address : see (.loadTone 0 0x100001) idle (·.req.answer) = some (some .badParam) := by decide
theorem test_tone_bank_write :
    let s := idle.onDevelop fun d => { d with toneLoad := some ⟨true, defaultTone, true⟩ }
    see .toneBankWrite s (fun t => (t.develop.tone1.active, t.req.answer)) = some (true, some .clamped) := by decide
theorem test_card_job_without_card : see (.cardJob ⟨1, 2, false, 0, 0, 0x100000, 512, 0⟩) idle (·.req.answer)
    = some (some .noCard) := by decide
theorem test_card_job_starts : see (.cardJob ⟨13, 2, false, 0, 0, 0x100000, 65536, 2048⟩) (ready [] none idle)
    (fun t => (t.req.answer, t.sent, t.card.jobs.map (·.active))) = some (some .ok, [.cardWrite 2048], [true]) := by decide
/-- R153, R159: a job that fails as it becomes ACTIVE has both mirrors written before the answer. -/
theorem test_protected_job_schedules_its_mirrors :
    let s := { ready [] none stored with pins := { resetPins with wprot := true }, store := { stored.store with mirrorDue := [] } }
    see (.cardJob ⟨13, 1, false, 1, 0, 0, 512, 2048⟩) (s.onCard fun c => { c with mirrorDue := false })
      (fun t => (t.card.jobs.length, t.card.mirrorDue, t.store.mirrorDue, t.req.waits)) = some (0, true, [0], [0]) := by decide
/-- R150: a sector behind the last one of its job is ignored. -/
theorem test_surplus_sector_is_ignored :
    see (.readSectorReceived (List.replicate 512 0) 0)
      (ready [readJob] (some ⟨false, 2, [], .receiving, .none, none⟩) idle) (fun t => (t.card.jobs, t.card.halted))
      = some ([readJob], false) := by decide +kernel
theorem test_write_fault_halts :
    see (.cardToken .writeFault) (ready [memJob] (some ⟨true, 0, [], .awaitingToken, .none, some 5⟩) idle)
      (fun t => (t.card.halted, t.card.completions, t.sent)) = some (true, [⟨13, .failed .writeFault, 0⟩], [.cardEnd]) := by
  decide
theorem test_busy_end_counts_the_sector :
    see .cardBusyEnd (ready [{ memJob with sectorsDone := 1 }] (some ⟨true, 1, [], .busy, .none, some 5⟩) idle)
      (fun t => (t.card.completions, t.sent)) = some ([⟨13, .done, 2⟩], [.cardEnd]) := by decide
theorem test_resume_when_running : see .cardResume (ready [] none idle) (·.req.answer) = some (some .notHalted) := by decide
theorem test_flush_keeps_the_active_job :
    see .cardFlush (ready [memJob, { memJob with tag := 14, active := false }] none idle)
      (fun t => (t.card.jobs.map (·.tag), t.card.completions)) = some ([13], [⟨14, .cancelled, 0⟩]) := by decide
theorem test_removal_fails_the_queue :
    see .detectDebounceExpiry ((ready [memJob] none idle).onCard fun c => { c with debounce := some 0 })
      (fun t => (t.card.state, t.card.completions)) = some (.absent, [⟨13, .failed .cardGone, 0⟩]) := by decide
theorem test_insertion_identifies :
    let s := { idle.onCard fun c => { c with debounce := some 0 } with pins := { resetPins with detectIn := true } }
    see .detectDebounceExpiry s (fun t => (t.card.state, t.sent)) = some (.initializing, [.cardIdentify]) := by decide
theorem test_identity_with_a_bad_check :
    let s := idle.onCard fun c => { c with state := .initializing, initStage := some .identify }
    see (.identifyAnswer (List.replicate 16 0) 0) s (·.card.state) = some .unusable := by decide +kernel

/-! ## The queue of commands -/

theorem test_step_takes_the_front :
    wait { idle with pending := [.arm true, .disarm] } (fun t => (t.seq.state, t.pending)) = some (.armed, [.disarm]) := by
  decide
theorem test_no_word_spells_a_command : decodeTableWord 32 0x12345678 = none := by decide


end Sys2Proof.Tests

/-! ## Witnesses

One theorem for each statement that has hypotheses: concrete states and operands that meet them, clause by clause. -/

namespace Sys2Proof.Tests

open Sys2Proof.Machine

/-- A state with nothing at the port is awake. -/
theorem awake {s : State} (h : s.inReset = false) (g : s.path.port = []) : s.Awake := ⟨h, fun _ => g⟩

/-- A state whose drive is off and whose shot is a released one meets the drive lock. -/
theorem locked {s : State} (h : s.driver.phase.driving = false)
    (g : ∀ x, s.seq.shot = some x → x.kind = .dark ∨ x.origin = .release) : s.DriveLocked :=
  ⟨fun d => absurd d (by simp [h]), fun x hx hk _ => (g x hx).resolve_left (by simp [hk])⟩

/-- A state without a shot and without a drive meets the drive lock. -/
theorem lockedNone {s : State} (h : s.driver.phase.driving = false) (g : s.seq.shot = none) : s.DriveLocked :=
  locked h fun x hx => by simp [g] at hx

/-- A state with a permitted drive meets the drive lock. -/
theorem lockedDriving {s : State} (h : s.permission = true) (g : s.seq.state = .waitSync ∨ s.seq.state = .open) :
    s.DriveLocked :=
  ⟨fun _ => h, fun _ _ _ st => by rcases g with g | g <;> simp [g] at st⟩

/-- A layout without slots has no candidates. -/
theorem noCandidate {s : State} (h : s.store.layout.slotCount = 0) : ∀ g j, ¬ InGroup s g j :=
  fun _ _ c => absurd c.1 (by simp [h])

/-- A frame that no view shows and no active job writes. -/
theorem unused {s : State} {id : Word} (h : ∀ v, (s.view v).state ≠ .open) (g : s.card.activeJob = none) : NoUsers s id :=
  ⟨fun v c => h v c.1, fun j hj => by simp [g] at hj⟩

/-- `s` with no slots. -/
def full (s : State) : State := s.onStore fun x => { x with layout := { x.layout with slotCount := 0 } }

/-- A state with a posted request in hand. -/
def inHand (i : Instr) (s : State) : State := s.onReq fun q => { q with post := 1, hand := some ⟨i, 9⟩ }

theorem witness_KeepAndUnkeepMarkTheRecord :
    stored.Awake ∧ stored.asks (.keep 1) = true ∧ stored.asks (.unkeep 1) = true ∧ stored.find 1 = some 0
      ∧ stored.find 2 = none ∧ stored.asks (.keep 2) = true ∧ stored.asks (.unkeep 2) = true
      ∧ (inHand (.keep 1) stored).asks (.keep 1) = true :=
  ⟨awake rfl rfl, by decide⟩

theorem witness_SettleMarksACompleteRecord :
    stored.Awake ∧ stored.asks (.settle 1) = true ∧ stored.find 1 = some 0 ∧ (stored.frame 0).state = .complete
      ∧ (stored.frame 0).blocked = false ∧ stored.find 2 = none
      ∧ table.asks (.settle 104) = true ∧ table.find 104 = some 3 ∧ (table.frame 3).state ≠ .complete :=
  ⟨awake rfl rfl, by decide⟩

theorem witness_DiscardFreesAnUnheldRecord :
    table.Awake ∧ FirstOf (discardChecks (table.frame 1)) (some .inUse) ∧ FirstOf (discardChecks (table.frame 4)) (some .kept)
      ∧ FirstOf (discardChecks flight) (some .busy) ∧ FirstOf (discardChecks (table.frame 3)) none
      ∧ (∀ id, table.asks (.discard id) = true) ∧ table.find 104 = some 3 ∧ table.find 1 = none := by
  refine ⟨awake rfl rfl, Or.inr ⟨by decide, Or.inl ⟨by decide, rfl⟩⟩,
    Or.inr ⟨by decide, Or.inr ⟨by decide, Or.inl ⟨by decide, rfl⟩⟩⟩, Or.inl ⟨by decide, rfl⟩,
    Or.inr ⟨by decide, Or.inr ⟨by decide, Or.inr ⟨by decide, rfl⟩⟩⟩, fun _ => rfl, by decide, by decide⟩

theorem witness_AllocationTakesTheFirstCandidate :
    (allocate .light .release none table).2 = some (3, 111) ∧ (allocate .light .release none (full table)).2 = none := by
  decide

theorem witness_AllocationGivesANewId :
    table.store.nextId ≠ 0 ∧ (∃ t, allocate .light .release none table = (t, some (3, 111)))
      ∧ ∀ j, (table.frame j).state ≠ .free → (table.frame j).id ≠ table.store.nextId :=
  ⟨by decide, ⟨_, rfl⟩, by decide⟩

theorem witness_ProcessorWriteIsDecodedByteByByte :
    stored.Awake ∧ (Instr.processorWrite 0xFFFFF8 (List.replicate 16 (some 1))).wellFormed = true
      ∧ stored.portBusy = false ∧ Dropped stored 0x1000000 ∧ ¬ Dropped (idle) 0xFFFFF8
      ∧ (Instr.processorWrite 0xFFFFFFFF [some 1]).wellFormed = true ∧ (0xFFFFFFFF : Word).toNat + 1 ≤ 0x100000000
      ∧ (let s := idle.onDevelop fun d => { d with service := some ⟨0x80000000, 1, allLive, false, false, .computing⟩ }
        s.Awake ∧ s.portBusy = true) := by
  refine ⟨awake rfl rfl, by decide, by decide, Or.inr (Or.inr ⟨0, by decide⟩), ?_, by decide, by decide, awake rfl rfl,
    by decide⟩
  simp only [Dropped, not_or, not_exists]
  exact ⟨by decide, by decide, by decide⟩

theorem witness_NoTransactionOutsideThePort :
    ([] : List (Option Byte)).length = 0 ∧ 64 < (List.replicate 65 (none : Option Byte)).length
      ∧ 0x100000000 < (0xFFFFFFFF : Word).toNat + [some (1 : Byte), none].length
      ∧ 0x100000000 < (0xFFFFFFC1 : Word).toNat + 64 := by decide

theorem witness_PostWriteIsTakenWithinSixteen :
    idle.Awake ∧ idle.path.posts = [] ∧ (proposed idle.req.post (some 16) none).toNat = 16
      ∧ (proposed idle.req.post (some 17) none).toNat = 17
      ∧ (inHand .disarm idle).Awake ∧ proposed (inHand .disarm idle).req.post (some 0) none = idle.req.consumed
      ∧ idle.portBusy = false
      ∧ (let s := idle.onPath fun p => { p with
            processor := ⟨[.write [(0, 1)], .write [(0x5000, 1)]], []⟩, posts := [⟨some 1, none, 1⟩, ⟨none, some 2, 2⟩] }
        s.Awake ∧ s.path.posts = ⟨some 1, none, 1⟩ :: [⟨none, some 2, 2⟩] ∧ 1 ≤ s.path.processor.waiting.length)
      ∧ (let s := idle.onDevelop fun d => { d with service := some ⟨0x80000000, 1, allLive, false, false, .computing⟩ }
        s.Awake ∧ s.path.posts = [] ∧ s.portBusy = true) :=
  ⟨awake rfl rfl, by decide, by decide, by decide, awake rfl rfl, by decide, rfl, ⟨awake rfl rfl, rfl, by decide⟩,
    awake rfl rfl, rfl, rfl⟩

theorem witness_CauseClearRemovesTheNamedCauses :
    idle.Awake ∧ idle.path.clears = [] ∧ idle.portBusy = false
      ∧ (let s := idle.onPath fun p => { p with
            processor := ⟨[.write [(7, 1)]], []⟩, clears := [⟨none, none, none, some 1, 1⟩] }
        s.Awake ∧ s.path.clears = ⟨none, none, none, some 1, 1⟩ :: [] ∧ 1 ≤ s.path.processor.waiting.length)
      ∧ (let s := idle.onDevelop fun d => { d with service := some ⟨0x80000000, 1, allLive, false, false, .computing⟩ }
        s.Awake ∧ s.path.clears = [] ∧ s.portBusy = true) :=
  ⟨awake rfl rfl, rfl, rfl, ⟨awake rfl rfl, rfl, by decide⟩, awake rfl rfl, rfl, rfl⟩

theorem witness_ArbiterGrantsInRotation :
    idle.Awake ∧ idle.dram.wf = true ∧ idle.path.readout.waiting = [] ∧ (∀ c, (idle.path.client c).waiting = [])
      ∧ (let s := idle.onPath fun p => { p with readout := ⟨[.write [(1, 1)]], []⟩ }
        s.Awake ∧ s.path.readout.waiting = .write [(1, 1)] :: [])
      ∧ (let s := idle.onPath fun p => { p with record := ⟨[.read 0 1], []⟩ }
        s.Awake ∧ RotClient.record = RotClient.succ^[3] s.path.rotation
          ∧ (∀ j, j < 3 → (s.path.client (RotClient.succ^[j] s.path.rotation)).waiting = [])
          ∧ (s.path.client .record).waiting = .read 0 1 :: []) := by
  refine ⟨awake rfl rfl, rfl, rfl, fun c => by cases c <;> rfl, ⟨awake rfl rfl, rfl⟩, awake rfl rfl, rfl, by decide, rfl⟩

theorem witness_RequestFetchDecodesTheRingSlot :
    let s := idle.onReq fun q => { q with post := 1 }
    s.Awake ∧ s.path.Idle ∧ s.req.post ≠ s.req.consumed ∧ s.req.hand = none ∧ s.develop.toneLoad = none
      ∧ idle.Awake ∧ idle.req.post = idle.req.consumed ∧ (inHand .disarm idle).req.hand ≠ none :=
  ⟨awake rfl rfl, ⟨rfl, rfl, rfl, rfl, rfl, rfl⟩, by decide, rfl, rfl, awake rfl rfl, rfl, by decide⟩

theorem witness_RequestCompleteWritesTheResultWord :
    let s := (inHand .disarm idle).onReq fun q => { q with answer := some .ok }
    s.Awake ∧ s.path.Idle ∧ s.dram.wf = true ∧ s.req.hand = some ⟨.disarm, 9⟩ ∧ s.req.answer = some .ok
      ∧ s.req.waits = [] ∧ s.req.waitsQueue = false :=
  ⟨awake rfl rfl, ⟨rfl, rfl, rfl, rfl, rfl, rfl⟩, rfl, rfl, rfl, rfl, rfl⟩

theorem witness_MirrorWriteShowsTheRecord :
    idle.Awake ∧ idle.path.Idle ∧ idle.dram.wf = true ∧ (0 : Fin 16) ∈ idle.store.mirrorDue
      ∧ (15 : Fin 16) ∈ idle.store.mirrorDue ∧ idle.card.mirrorDue = true ∧ idle.req.statusDue = true
      ∧ (let s := (ready [memJob] none stored).onCard fun c => { c with completions := [⟨13, .done, 2⟩] }
        s.Awake ∧ s.path.Idle ∧ s.dram.wf = true ∧ s.card.mirrorDue = true ∧ s.req.statusDue = true
          ∧ s.card.jobs[0]? = some memJob ∧ s.card.completions[0]? = some ⟨13, .done, 2⟩) :=
  ⟨awake rfl rfl, ⟨rfl, rfl, rfl, rfl, rfl, rfl⟩, rfl, by decide, by decide, rfl, rfl, awake rfl rfl,
    ⟨rfl, rfl, rfl, rfl, rfl, rfl⟩, rfl, rfl, rfl, rfl, rfl⟩

theorem witness_EveryStepKeepsTheRecordTable :
    (darkening .darkRun).Tabled ∧ ∃ t, step (darkening .darkRun) = .next t := by
  have a : (darkening .darkRun).AwaitsDark 1 := ⟨0, by decide⟩
  have n : ∀ j, ((darkening .darkRun).frame j).darkState.link = none := by decide
  have o : ∀ k, ((darkening .darkRun).frame k).inFlight = true → k = 1 := by decide
  have c : ∀ v, ((darkening .darkRun).view v).state ≠ .open := by decide
  refine ⟨⟨⟨by decide, by decide⟩, ?_, ⟨fun k h => ?_, by decide⟩, ⟨by decide, fun v _ h => absurd h (c v), fun _ h => nomatch h⟩,
    ⟨by decide, fun j d _ h => ?_⟩, fun d light h => ?_, fun j light h g => ?_, by decide, fun _ h => nomatch h⟩, _, rfl⟩
  · unfold State.RanksDense
    decide
  · obtain rfl := o k h
    exact ⟨darkShot, rfl, rfl, rfl⟩
  · have m := n j
    rw [h] at m
    exact nomatch m
  · cases h
    exact ⟨a, 1, by decide⟩
  · cases h
    cases g
    exact a

theorem witness_SetMaskAndUnknownRequests :
    idle.Awake ∧ idle.asks (.setMask 0xFFFF) = true ∧ (0x0004 : Half) ∉ knownKinds
      ∧ idle.asks (.unknownRequest 0x0004) = true ∧ (0x0001 : Half) ∈ knownKinds :=
  ⟨awake rfl rfl, by decide⟩

theorem witness_LineFollowsCausesAndMask : idle.LineFollows ∧ ∃ t, step idle = .next t := ⟨rfl, _, rfl⟩

theorem witness_EveryChangeSchedulesItsWrite :
    (let s := { stored with pending := [.keep 1] };
      s.inReset = false ∧ s.pending.head? ≠ some .powerOnReset
        ∧ ∃ t, step s = .next t ∧ (t.frame 0).content ≠ (s.frame 0).content)
      ∧ stored.inReset = false ∧ stored.pending.head? ≠ some .powerOnReset ∧ ∃ t, step stored = .next t :=
  ⟨⟨rfl, by decide, _, rfl, by decide⟩, rfl, by decide, _, rfl⟩

theorem witness_SetupSensorSetsGeometryAndLayout :
    State.reset.Awake ∧ State.reset.DriveLocked ∧ State.reset.asks (.setupSensor {}) = true
      ∧ (State.reset.setup.accepted = false ∧ ({} : SensorFields).wa = none)
      ∧ BadGeometry 2048 12288 (some 12290) ∧ ¬ BadGeometry 2048 12288 (some 12288)
      ∧ (stored.frame 0).state ≠ .free ∧ stored.asks (.setupSensor {}) = true
      ∧ idle.asks (.setupSensor { passes := some 16 }) = true ∧ Outside 0 15 (some (16 : Half))
      ∧ (∀ k, (idle.frame k).state = .free) ∧ idle.seq.state = .idle := by
  refine ⟨awake rfl rfl, lockedNone rfl rfl, by decide, by decide, ⟨_, rfl, by decide⟩, ?_, by decide, by decide, by decide,
    ⟨_, rfl, by decide⟩, by decide, rfl⟩
  rintro ⟨v, hv, h⟩
  cases hv
  exact absurd h (by decide)

theorem witness_SetupStoreSetsRetentionAndLimit :
    idle.Awake ∧ idle.asks (.setupStore { retention := some 2 }) = true ∧ Outside 0 1 (some (2 : Half))
      ∧ stored.Awake ∧ stored.asks (.setupStore { slotLimit := some 8 }) = true
      ∧ inForce 0 16 stored.setup.slotLimit (some (8 : Half)) ≠ stored.setup.slotLimit ∧ (stored.frame 0).state ≠ .free
      ∧ idle.asks (.setupStore { slotLimit := some 17 }) = true ∧ Outside 0 16 (some (17 : Half))
      ∧ inForce 0 16 idle.setup.slotLimit (some (17 : Half)) = 16 ∧ idle.setup.accepted = true :=
  ⟨awake rfl rfl, by decide, ⟨_, rfl, by decide⟩, awake rfl rfl, by decide, by decide, by decide, by decide,
    ⟨_, rfl, by decide⟩, by decide, rfl⟩

theorem witness_SetupExposureClampsItsFields :
    idle.Awake ∧ idle.asks (.setupExposure { autoDark := some 2 }) = true ∧ Outside 0 1 (some (2 : Half))
      ∧ idle.asks (.setupExposure {}) = true ∧ ExposureOutside { holdDuty := some 17 } := by
  refine ⟨awake rfl rfl, by decide, ⟨_, rfl, by decide⟩, by decide, ?_⟩
  unfold ExposureOutside
  have : Outside 1 16 (some (17 : Half)) := ⟨_, rfl, by decide⟩
  tauto

theorem witness_SlotCountLiesInItsRange :
    2048 ≤ 12288 ∧ 1536 ≤ 9216 ∧ 128 ≤ 128 ∧ (layoutOf 12288 9216 128 0).slotCount = 9
      ∧ (layoutOf 2048 1536 0 0).slotCount = 16 ∧ (layoutOf 2048 1536 0 1).slotCount = 1 := by decide

theorem notPending {s : State} (h : s.dark.job = none) : ¬ DarkIsPending s := by simp [DarkIsPending, h]

theorem witness_ReleaseStartsAShot :
    idle.Awake ∧ idle.DriveLocked ∧ idle.asks (.release 1 10 5) = true ∧ FirstOf (releaseChecks idle 2) (some .badParam)
      ∧ FirstOf (releaseChecks (full idle) 1) (some .storeFull) ∧ FirstOf (releaseChecks idle 1) none
      ∧ (allocate .light .release (some .timedBulb) idle).2 = some (0, 1) := by
  have p : ¬ DarkIsPending idle := notPending rfl
  have q : ¬ DarkIsPending (full idle) := notPending rfl
  have c : InGroup idle 1 0 := ⟨by decide, Or.inl ⟨rfl, by decide⟩⟩
  refine ⟨awake rfl rfl, lockedNone rfl rfl, by decide, Or.inl ⟨by decide, rfl⟩, ?_, ?_, by decide⟩
  · simp only [FirstOf, releaseChecks, q]
    exact Or.inr ⟨by decide, Or.inr ⟨by decide, Or.inr ⟨by decide, Or.inr ⟨by decide, Or.inr ⟨by decide, Or.inr
      ⟨by decide, Or.inr ⟨by decide, Or.inr ⟨by decide, Or.inr ⟨by decide, Or.inl ⟨noCandidate rfl, trivial⟩⟩⟩⟩⟩⟩⟩⟩⟩⟩
  · simp only [FirstOf, releaseChecks, p]
    exact Or.inr ⟨by decide, Or.inr ⟨by decide, Or.inr ⟨by decide, Or.inr ⟨by decide, Or.inr ⟨by decide, Or.inr
      ⟨by decide, Or.inr ⟨by decide, Or.inr ⟨by decide, Or.inr ⟨by decide, Or.inr ⟨fun h => h 1 0 c, trivial⟩⟩⟩⟩⟩⟩⟩⟩⟩⟩

/-- The trip delay of a released shot has run out. -/
def delayed (check : Bool) : Shot :=
  { shot1 with delayTimer := some 0, params := { defaultExposure with checkBefore := check } }

theorem shotReleased {st : SeqState} {h : Shot} (g : h.origin = .release) : (shooting st h).DriveLocked :=
  locked rfl fun x hx => Or.inr (by cases hx; exact g)

theorem witness_TripDelayEndPreparesTheShot :
    (∀ check, (shooting .delay (delayed check)).Awake ∧ (shooting .delay (delayed check)).DriveLocked)
      ∧ (shooting .delay (delayed true)).find 1 = some 0 ∧ (shooting .delay (delayed true)).driver.phase = .off
      ∧ (let s := (shooting .delay (delayed false)).onSeq fun q => { q with closingFlush := true }
        s.Awake ∧ s.find 1 = some 0 ∧ s.seq.closingFlush = true)
      ∧ (shooting .delay (delayed false)).seq.closingFlush = false
      ∧ 0 < (shooting .delay (delayed false)).setup.sensor.passes
      ∧ (let s := (shooting .delay (delayed false)).onSetup fun u => { u with sensor := { u.sensor with passes := 0 } }
        s.Awake ∧ s.find 1 = some 0 ∧ s.setup.sensor.passes = 0) :=
  ⟨fun _ => ⟨awake rfl rfl, shotReleased rfl⟩, by decide, rfl, ⟨awake rfl rfl, by decide, rfl⟩, rfl, by decide,
    awake rfl rfl, by decide, rfl⟩

/-- A flush that awaits its answer. -/
def flushing (s : State) : State := s.onSeq fun q => { q with flushWait := some 7 }

theorem witness_SensorAnswersAdvanceTheShot :
    idle.Awake ∧ idle.DriveLocked ∧ idle.seq.flushWait = none ∧ idle.seq.endWait = none
      ∧ (flushing (at_ .armed idle)).Awake ∧ (flushing (at_ .armed idle)).DriveLocked
      ∧ (flushing idle).seq.flushWait ≠ none ∧ (flushing idle).seq.state ≠ .armed ∧ (flushing idle).seq.state ≠ .preparing
      ∧ (flushing (shooting .preparing { shot1 with checking := true })).Awake
      ∧ (flushing (shooting .preparing { shot1 with passesLeft := 2 })).seq.shot = some { shot1 with passesLeft := 2 }
      ∧ (flushing (shooting .preparing { shot1 with passesLeft := 1 })).find 1 = some 0
      ∧ (flushing (darkening .preparing)).Awake ∧ (flushing (darkening .preparing)).DriveLocked
      ∧ (flushing (darkening .preparing)).find 2 = some 1 ∧ 0 < darkShot.duration
      ∧ (let s := (shooting .readout shot1).onSeq fun q => { q with endWait := some 3 }
        s.Awake ∧ s.seq.endWait ≠ none ∧ s.seq.state = .readout ∧ s.seq.shot = some shot1) :=
  ⟨awake rfl rfl, lockedNone rfl rfl, rfl, rfl, awake rfl rfl, lockedNone rfl rfl, by decide, by decide, by decide,
    awake rfl rfl, rfl, by decide, awake rfl rfl, locked rfl fun x hx => Or.inl (by cases hx; rfl), by decide, by decide,
    awake rfl rfl, by decide, rfl, rfl⟩

theorem witness_SensorFaultSpoilsTheShot :
    (let s := (shooting .preparing shot1).onSeq fun q => { q with flushWait := some 0 };
      s.Awake ∧ s.seq.flushWait = some 0 ∧ s.find 1 = some 0 ∧ (s.frame 0).state = .exposing ∧ NoUsers s 1)
      ∧ (let s := (shooting .waitSync shot1).onSeq fun q => { q with startWait := some 0 }
        s.Awake ∧ s.seq.startWait = some 0 ∧ s.find 1 = some 0)
      ∧ (let s := (at_ .idle idle).onSeq fun q => { q with endWait := some 0 }
        s.Awake ∧ s.seq.endWait = some 0 ∧ s.seq.shot = none) :=
  ⟨⟨awake rfl rfl, rfl, by decide, by decide, unused (by decide) rfl⟩, ⟨awake rfl rfl, rfl, by decide⟩, awake rfl rfl, rfl, rfl⟩

theorem witness_ExpiriesEndIntegration :
    (∀ st h, h.origin = .release → h.kind = .light → (shooting st h).Awake ∧ (shooting st h).DriveLocked)
      ∧ (∀ st, (shooting st shot1).find 1 = some 0 ∧ ((shooting st shot1).frame 0).state = .exposing)
      ∧ (let h := { shot1 with syncTimer := some 0, openWait := some 0, tailTimer := some 0, capTimer := some 0 }
        h.origin = .release ∧ h.kind = .light ∧ h.syncTimer = some 0 ∧ h.openWait = some 0 ∧ h.tailTimer = some 0
          ∧ h.capTimer = some 0)
      ∧ (let s := (darkening .darkRun).onSeq fun q => { q with shot := some { darkShot with darkTimer := some 0 } }
        s.Awake ∧ s.DriveLocked ∧ s.find 2 = some 1 ∧ (s.frame 1).state = .exposing ∧ s.seq.state = .darkRun) :=
  ⟨fun _ _ h _ => ⟨awake rfl rfl, shotReleased h⟩, fun _ => ⟨by rfl, rfl⟩, ⟨rfl, rfl, rfl, rfl, rfl, rfl⟩,
    awake rfl rfl, locked rfl fun x hx => Or.inl (by cases hx; rfl), by decide, by decide, rfl⟩

/-- The shot of an armed trip. -/
def tripShot : Shot := { shot1 with origin := .tripped, mode := none, windowTimer := some 0, returnArmed := true }

theorem lockedAway {st : SeqState} {h : Shot} (a : st ≠ .delay) (b : st ≠ .preparing) : (shooting st h).DriveLocked :=
  ⟨fun d => by simp [shooting, put, at_, idle, State.onSeq, State.onStore, State.reset, resetDriver, Phase.driving] at d,
    fun _ _ _ c => (c.elim a b).elim⟩

theorem witness_FalseStartReturnsToArmed :
    let s := shooting .tripped tripShot
    s.Awake ∧ s.DriveLocked ∧ s.seq.state = .tripped ∧ s.seq.shot = some tripShot ∧ tripShot.windowTimer = some 0
      ∧ s.find tripShot.id = some 0 ∧ (s.frame 0).state = .exposing ∧ s.seq.flushWait = none ∧ NoUsers s tripShot.id :=
  ⟨awake rfl rfl, lockedAway (by decide) (by decide), rfl, rfl, rfl, by decide, rfl, rfl, unused (by decide) rfl⟩

theorem witness_ArmStartsTheFlushLoop :
    idle.Awake ∧ idle.DriveLocked ∧ idle.asks (.arm true) = true ∧ State.reset.Awake
      ∧ FirstOf (armChecks State.reset) (some .notReady) ∧ FirstOf (armChecks idle) none := by
  refine ⟨awake rfl rfl, lockedNone rfl rfl, by decide, awake rfl rfl, Or.inl ⟨rfl, rfl⟩, ?_⟩
  have p : ¬ DarkIsPending idle := notPending rfl
  simp only [FirstOf, armChecks, p]
  exact Or.inr ⟨by decide, Or.inr ⟨by decide, Or.inr ⟨by decide, Or.inr ⟨by decide, Or.inr ⟨by decide, trivial⟩⟩⟩⟩⟩

theorem witness_DisarmAndCancelByState :
    (at_ .armed idle).Awake ∧ (at_ .armed idle).DriveLocked ∧ (at_ .armed idle).asks .disarm = true
      ∧ (at_ .armed idle).asks .cancel = true
      ∧ (let s := shooting .tripped tripShot
        s.Awake ∧ s.DriveLocked ∧ s.asks .disarm = true ∧ s.asks .cancel = true ∧ s.find 1 = some 0
          ∧ (s.frame 0).state = .exposing ∧ tripShot.kind = .light)
      ∧ (let s := darkening .darkRun
        s.Awake ∧ s.DriveLocked ∧ s.asks .cancel = true ∧ s.find 2 = some 1 ∧ (s.frame 1).state = .exposing)
      ∧ idle.Awake ∧ idle.asks .disarm = true ∧ idle.asks .cancel = true ∧ idle.seq.state = .idle
      ∧ State.reset.seq.state = .unset ∧ (at_ .fault idle).Awake ∧ (shooting .readout shot1).Awake :=
  ⟨awake rfl rfl, lockedNone rfl rfl, by decide, by decide,
    ⟨awake rfl rfl, lockedAway (by decide) (by decide), by decide, by decide, by decide, rfl, rfl⟩,
    ⟨awake rfl rfl, locked rfl fun x hx => Or.inl (by cases hx; rfl), by decide, by decide, rfl⟩,
    awake rfl rfl, by decide, by decide, rfl, rfl, awake rfl rfl, awake rfl rfl⟩

theorem witness_TakeDarkOrdersADarkShot :
    idle.Awake ∧ idle.DriveLocked ∧ idle.store.nextId ≠ 0 ∧ idle.asks (.takeDark 1000) = true
      ∧ FirstOf (takeDarkChecks State.reset) (some .notReady) ∧ FirstOf (takeDarkChecks (full idle)) (some .storeFull)
      ∧ FirstOf (takeDarkChecks idle) none ∧ (allocate .dark .takenDark none idle).2 = some (0, 1)
      ∧ idle.seq.closingFlush = false ∧ 0 < idle.setup.sensor.passes := by
  have c : InGroup idle 1 0 := ⟨by decide, Or.inl ⟨rfl, by decide⟩⟩
  exact ⟨awake rfl rfl, lockedNone rfl rfl, by decide, by decide, Or.inl ⟨rfl, rfl⟩,
    Or.inr ⟨by decide, Or.inr ⟨by decide, Or.inr ⟨by decide, Or.inl ⟨noCandidate rfl, rfl⟩⟩⟩⟩,
    Or.inr ⟨by decide, Or.inr ⟨by decide, Or.inr ⟨by decide, Or.inr ⟨fun h => h 1 0 c, rfl⟩⟩⟩⟩, by decide, rfl, by decide⟩

theorem witness_ReuseSearchFindsTheBestMatch :
    let dark := { rec_ 2 .dark .complete 1 with
      integStart := some 0, integEnd := some 9000000, blacks := some ⟨⟨2060, 2052, 2050, 2062⟩, 2056⟩ }
    let s := put 1 dark (put 0 { rec_ 1 .light .complete 0 with
      integStart := some 0, integEnd := some 8000000, blacks := some ⟨⟨2060, 2052, 2050, 2062⟩, 2056⟩ } idle)
    integrationOf (s.frame 0) 8000000 ∧ s.reuse ⟨true, 1000, 1, 48⟩ 0 = some 1 ∧ s.reuse ⟨true, 1000, 0, 48⟩ 0 = none :=
  ⟨⟨0, 8000000, rfl, rfl, by decide⟩, by decide, by decide⟩

theorem witness_IdleStepIsOneMicrosecond : idle.pending = [] ∧ idle.Awake ∧ (∀ h ∈ idle.handoffs, 1 < h.lag)
    ∧ (∀ sv, idle.develop.service = some sv → sv.cond = .computing)
    ∧ (let s := idle.onDevelop fun d => { d with service := some ⟨0x80000000, 1, allLive, false, false, .held (some 5)⟩ }
      s.pending = [] ∧ s.Awake ∧ ∃ sv, s.develop.service = some sv ∧ sv.cond = .held (some 5))
    ∧ (let s := idle.onHandoffs fun _ => [⟨.tripEdge 7 defaultExposure false, 3⟩]
      s.pending = [] ∧ s.Awake ∧ ∀ h ∈ s.handoffs, 1 < h.lag) :=
  ⟨rfl, awake rfl rfl, by decide, fun sv h => (by cases h), ⟨rfl, awake rfl rfl, _, rfl, rfl⟩, rfl, awake rfl rfl, by decide⟩

theorem witness_PowerOnResetAndItsEnd : idle.dram.wf = true ∧ Instr.disarm ≠ .powerOnReset
    ∧ (∀ a b, Instr.disarm ≠ .resetEnd a b) ∧ (∃ t, exec .disarm (poweredOn idle) = .next t)
    ∧ ∃ t, exec (.supplyComparatorChange true) (poweredOn idle) = .next t :=
  ⟨rfl, by decide, by decide, ⟨_, rfl⟩, _, rfl⟩

theorem witness_RestartStopsEveryBlock :
    (let s := shooting .waitSync shot1;
      s.Awake ∧ s.asks (.restart true false) = true ∧ (s.frame 0).inFlight = true
        ∧ ∀ j, j ≠ 0 → (s.frame j).inFlight = false)
      ∧ idle.Awake ∧ (∀ k, (idle.frame k).inFlight = false) ∧ idle.path.port = []
      ∧ (let s := darkening .darkRun
        s.Awake ∧ s.dark.job = some ⟨some 1, 5000, 2, 0⟩ ∧ s.find 1 = some 0 ∧ s.readout.frame = none
          ∧ ∀ j ∈ s.card.jobs.tail, j.active = false)
      ∧ (let s := viewing .quadRgb8
        s.Awake ∧ openPins s (fun _ => true) 0 = 1 ∧ s.asks (.restart false true) = true)
      ∧ (∀ addr : Nat, addr = 0x7FFFFFFE ∨ addr = 0x7FFFFFFF →
        let sv : Service := ⟨addr, 2, allLive, false, false, .computing⟩
        let s := idle.onDevelop fun d => { d with service := some sv }
        s.Awake ∧ s.asks (.restart false true) = true ∧ s.develop.service = some sv ∧ s.path.port = []
          ∧ ((∃ a, sv.addr ≤ a ∧ a < sv.addr + sv.len ∧ 0x80000000 ≤ a) ↔ addr = 0x7FFFFFFF)) := by
  refine ⟨⟨awake rfl rfl, by decide, by decide, by decide⟩, awake rfl rfl, by decide, rfl,
    ⟨awake rfl rfl, rfl, by decide, rfl, by decide⟩, ⟨awake rfl rfl, by decide, by decide⟩, ?_⟩
  rintro addr (rfl | rfl)
  · exact ⟨awake rfl rfl, by decide, rfl, rfl, fun ⟨a, h⟩ => absurd h.2.1 (by have := h.2.2; simp; omega),
      fun h => absurd h (by decide)⟩
  · exact ⟨awake rfl rfl, by decide, rfl, rfl, fun _ => rfl, fun _ => ⟨0x80000000, by decide, by decide, by decide⟩⟩

theorem witness_EveryStepKeepsTheStateSound : idle.Sound ∧ (∃ t, step idle = .next t)
    ∧ (let s := (at_ .armed idle).onSync fun y => { y with listening := true }
      s.ListensInArmed ∧ s.sync.listening = true ∧ ∃ t, step s = .next t) :=
  ⟨⟨rfl, fun _ => rfl, ⟨by decide, by decide⟩, by decide, by decide, by decide, by decide⟩, ⟨_, rfl⟩, fun _ => rfl, rfl,
    _, rfl⟩

theorem witness_EveryStepKeepsTheDriveLocked :
    (driving (shooting .waitSync shot1)).DriveLocked ∧ (driving (shooting .waitSync shot1)).driver.phase.driving = true
      ∧ ∃ t, step (driving (shooting .waitSync shot1)) = .next t :=
  ⟨lockedDriving rfl (Or.inl rfl), rfl, _, rfl⟩

theorem witness_NoProcessorWriteReachesThePartsPages :
    idle.Fenced ∧ (∃ t, step idle = .next t)
      ∧ (let s := idle.onPath fun p => { p with processor := ⟨[.write [(0x5000, 1)]], []⟩ }
        s.Fenced ∧ s.Awake ∧ s.dram.wf = true ∧ s.path.readout.waiting = [] ∧ s.path.rotation = .processor
          ∧ s.path.processor.waiting = [.write [(0x5000, 1)]]) := by
  refine ⟨⟨fun _ h => absurd h (by simp [idle, State.reset, resetPath, idleClient]),
    fun _ h => absurd h (by simp [idle, State.reset, resetPath])⟩, ⟨_, rfl⟩, ⟨fun cells h c hc => ?_,
    fun _ h => absurd h (by simp [idle, State.onPath, State.reset, resetPath])⟩, awake rfl rfl, rfl, rfl, rfl, rfl⟩
  have e : cells = [(0x5000, 1)] := by simpa [State.onPath] using h
  subst e
  have e : c = (0x5000, 1) := by simpa using hc
  subst e
  simp [OwnPage]

theorem witness_EdgesAndBlankingMakeRuns :
    idle.Awake ∧ idle.ListensInArmed ∧ idle.pins.syncClosed = false ∧ idle.sync.blanking = none ∧ idle.sync.run = none
      ∧ true ≠ idle.sync.qualified ∧ OrdinaryStart idle
      ∧ (let s := shooting .tripped tripShot
        s.Awake ∧ s.ListensInArmed ∧ s.sync.qualified = false ∧ s.seq.state = .tripped ∧ s.seq.shot = some tripShot)
      ∧ (let s := { idle.onSync fun y => { y with run := some ⟨true, 5, 1, 200⟩ } with pins := { resetPins with syncClosed := true } }
        s.Awake ∧ s.ListensInArmed ∧ false ≠ s.pins.syncClosed ∧ s.sync.blanking = none ∧ false = s.sync.qualified
          ∧ s.tripAwaited 5 = false)
      ∧ (let s := idle.onSync fun y => { y with blanking := some 0 }
        s.Awake ∧ s.ListensInArmed ∧ s.sync.blanking = some 0 ∧ s.sync.run = none ∧ s.pins.syncClosed = s.sync.qualified)
      ∧ (let s := aimed .open ((shooting .open shot1).onSync fun y => { y with blanking := some 0, qualified := true })
        s.Awake ∧ s.ListensInArmed ∧ s.sync.blanking = some 0 ∧ s.sync.run = none ∧ s.pins.syncClosed ≠ s.sync.qualified
          ∧ s.pins.syncClosed = false ∧ s.find 1 = some 0)
      ∧ (let s := { (shooting .tripped tripShot).onSync fun y => { y with blanking := some 0 } with
            pins := { resetPins with syncClosed := true } }
        s.Awake ∧ s.ListensInArmed ∧ s.sync.blanking = some 0 ∧ s.sync.run = none ∧ s.pins.syncClosed ≠ s.sync.qualified
          ∧ s.pins.syncClosed = true ∧ s.seq.state = .tripped ∧ s.seq.shot = some tripShot)
      ∧ (let s := { (at_ .armed idle).onSync fun y => { y with blanking := some 0, listening := true } with
            pins := { resetPins with syncClosed := true } }
        s.Awake ∧ s.ListensInArmed ∧ s.sync.blanking = some 0 ∧ s.sync.run = none ∧ s.pins.syncClosed ≠ s.sync.qualified
          ∧ s.pins.syncClosed = true ∧ s.sync.listening = true ∧ s.sync.rearmed = false ∧ s.sync.target = none
          ∧ s.handoffs = [] ∧ s.DriveLocked ∧ s.store.nextId ≠ 0 ∧ s.lags.headD 0 = 0
          ∧ (allocate .light .tripped none s).2 = some (0, 1) ∧ (∀ g j, ¬ InGroup (full s) g j)
          ∧ { s with lags := [3] }.lags = (2 + 1) :: []) :=
  ⟨awake rfl rfl, fun h => absurd h (by decide), rfl, rfl, rfl, by decide, Or.inl (by decide),
    ⟨awake rfl rfl, fun h => absurd h (by decide), rfl, rfl, rfl⟩,
    ⟨awake rfl rfl, fun h => absurd h (by decide), by decide, rfl, rfl, rfl⟩,
    ⟨awake rfl rfl, fun h => absurd h (by decide), rfl, rfl, rfl⟩,
    ⟨awake rfl rfl, fun h => absurd h (by decide), rfl, rfl, by decide, rfl, by decide⟩,
    ⟨awake rfl rfl, fun h => absurd h (by decide), rfl, rfl, by decide, rfl, rfl, rfl⟩,
    awake rfl rfl, fun _ => rfl, rfl, rfl, by decide, rfl, rfl, rfl, rfl, rfl, lockedNone rfl rfl, by decide, rfl, rfl,
    noCandidate rfl, rfl⟩

theorem witness_TripEdgeStartsAnArmedTrip :
    (let s := (at_ .armed idle).onSync fun y => { y with listening := true };
      s.Awake ∧ s.DriveLocked ∧ s.store.nextId ≠ 0 ∧ s.seq.state = .armed ∧ s.sync.listening = true ∧ s.sync.rearmed = false
        ∧ s.pins.syncClosed = false ∧ s.sync.blanking = none ∧ s.sync.run = none ∧ s.sync.qualified = false
        ∧ s.handoffs = [] ∧ s.lags.headD 0 = 0 ∧ { s with lags := [3] }.lags = (2 + 1) :: []
        ∧ (allocate .light .tripped none s).2 = some (0, 1) ∧ (∀ g j, ¬ InGroup (full s) g j))
      ∧ (let s := { (at_ .armed idle).onSync fun y => { y with run := some ⟨true, 77, 5, 200⟩ } with
            pins := { resetPins with syncClosed := true }, handoffs := [⟨.tripEdge 77 defaultExposure false, 3⟩] }
        s.Awake ∧ s.DriveLocked ∧ s.sync.run = some ⟨true, 77, 5, 200⟩ ∧ s.tripAwaited 77 = true ∧ s.pins.syncClosed = true
          ∧ s.sync.qualified = false ∧ s.sync.blanking = none ∧ s.sync.target = none)
      ∧ ∀ st : SeqState, st = .armed ∨ st = .fault →
        let s := arriving (.tripEdge 77 defaultExposure true) (at_ st idle)
        s.Awake ∧ s.DriveLocked ∧ s.pending = [] ∧ s.handoffs = [⟨.tripEdge 77 defaultExposure true, 1⟩] ∧ s.seq.state = st :=
  ⟨⟨awake rfl rfl, lockedNone rfl rfl, by decide, rfl, rfl, rfl, rfl, rfl, rfl, rfl, rfl, rfl, rfl, by decide,
    noCandidate rfl⟩, ⟨awake rfl rfl, lockedNone rfl rfl, rfl, rfl, rfl, rfl, rfl, rfl⟩,
    fun _ _ => ⟨awake rfl rfl, lockedNone rfl rfl, rfl, rfl, rfl⟩⟩

theorem witness_QualifiedCloseOutsideItsStates :
    (∀ st, (done true (at_ st idle)).Awake ∧ Qualifies ⟨true, 77, 500, 500⟩ (done true (at_ st idle))
        ∧ (done true (at_ st idle)).sync.expect = .none)
      ∧ (done false idle).Awake ∧ Qualifies ⟨false, 77, 500, 500⟩ (done false idle)
      ∧ (at_ .armed idle).seq.refusedTrip ≠ some 77
      ∧ (let s := done true ((at_ .armed idle).onSeq fun q => { q with refusedTrip := some 77 })
        s.Awake ∧ Qualifies ⟨true, 77, 500, 500⟩ s ∧ s.seq.refusedTrip = some 77)
      ∧ (done true (darkening .preparing)).Awake ∧ Qualifies ⟨true, 77, 500, 500⟩ (done true (darkening .preparing))
      ∧ (done true (shooting .tail shot1)).Awake ∧ (done true (shooting .tail shot1)).find 1 = some 0 :=
  ⟨fun _ => ⟨awake rfl rfl, ⟨rfl, rfl, by decide, fun _ => rfl⟩, rfl⟩, awake rfl rfl, ⟨rfl, rfl, by decide, fun _ => rfl⟩, by decide,
    ⟨awake rfl rfl, ⟨rfl, rfl, by decide, fun _ => rfl⟩, rfl⟩, awake rfl rfl, ⟨rfl, rfl, by decide, fun _ => rfl⟩, awake rfl rfl, by decide⟩

theorem witness_QualifiedSyncOfAShotIsRecorded :
    (let s := aimed .close (done true (driving (shooting .waitSync shot1)));
      s.Awake ∧ s.DriveLocked ∧ Qualifies ⟨true, 77, 500, 500⟩ s ∧ s.sync.target = some ⟨1, 200, 500, 800⟩
        ∧ s.seq.shot = some shot1 ∧ s.find 1 = some 0 ∧ s.sync.expect = .close)
      ∧ (let s := aimed .close (done true (shooting .tripped tripShot))
        s.Awake ∧ s.DriveLocked ∧ Qualifies ⟨true, 77, 500, 500⟩ s ∧ s.find tripShot.id = some 0)
      ∧ (let s := aimed .open (done false (shooting .open shot1))
        s.Awake ∧ s.DriveLocked ∧ Qualifies ⟨false, 77, 500, 500⟩ s ∧ 0 < shot1.params.closingTail)
      ∧ (let h := { shot1 with params := { defaultExposure with closingTail := 0 } }
        let s := aimed .open (done false (shooting .open h))
        s.Awake ∧ s.DriveLocked ∧ Qualifies ⟨false, 77, 500, 500⟩ s ∧ s.seq.shot = some h ∧ h.params.closingTail = 0
          ∧ (s.frame 0).state = .exposing) :=
  ⟨⟨awake rfl rfl, lockedDriving rfl (Or.inl rfl), ⟨rfl, rfl, by decide, fun _ => rfl⟩, rfl, rfl, by decide, rfl⟩,
    ⟨awake rfl rfl, ⟨fun d => (by cases d), fun _ _ _ c => (by rcases c with c | c <;> cases c)⟩,
      ⟨rfl, rfl, by decide, fun _ => rfl⟩, by decide⟩,
    ⟨awake rfl rfl, locked rfl fun x hx => Or.inr (by cases hx; rfl), ⟨rfl, rfl, by decide, fun _ => rfl⟩, by decide⟩,
    awake rfl rfl, locked rfl fun x hx => Or.inr (by cases hx; rfl), ⟨rfl, rfl, by decide, fun _ => rfl⟩, rfl, rfl, rfl⟩

theorem witness_EarlySyncAndLightLeakSpoil :
    (let s := done true (shooting .delay shot1);
      s.Awake ∧ s.DriveLocked ∧ Qualifies ⟨true, 77, 500, 500⟩ s ∧ s.sync.expect = .none ∧ s.seq.shot = some shot1
        ∧ s.find 1 = some 0 ∧ (s.frame 0).state = .exposing ∧ shot1.kind = .light ∧ NoUsers s 1)
      ∧ (let s := done true (darkening .darkRun)
        s.Awake ∧ s.DriveLocked ∧ Qualifies ⟨true, 77, 500, 500⟩ s ∧ s.sync.expect = .none ∧ s.seq.shot = some darkShot
          ∧ s.find 2 = some 1 ∧ (s.frame 1).state = .exposing ∧ s.dark.job = some ⟨some 1, 5000, 2, 0⟩
          ∧ s.find 1 = some 0 ∧ s.store.nextId ≠ 0 ∧ (1 : Fin 16).val < s.store.layout.slotCount
          ∧ (s.frame 1).viewPins = 0 ∧ (s.frame 1).cardPins = 0 ∧ (s.frame 1).keep = false ∧ (s.frame 1).darkUsers = 0
          ∧ (s.frame 1).awaitDark = false ∧ (s.frame 1).darkState ≠ .pending)
      ∧ (let s := { done true (darkening .darkRun) with dark := ⟨some ⟨some 1, 5000, 2, 2⟩⟩ }
        s.Awake ∧ Qualifies ⟨true, 77, 500, 500⟩ s ∧ s.find 1 = some 0)
      ∧ (let s := { done true (darkening .darkRun) with dark := ⟨some ⟨none, 5000, 2, 0⟩⟩ }
        s.Awake ∧ Qualifies ⟨true, 77, 500, 500⟩ s ∧ s.find 2 = some 1) :=
  ⟨⟨awake rfl rfl, locked rfl fun x hx => Or.inr (by cases hx; rfl), ⟨rfl, rfl, by decide, fun _ => rfl⟩, rfl, rfl, by decide, rfl, rfl,
      unused (by decide) rfl⟩,
    ⟨awake rfl rfl, locked rfl fun x hx => Or.inl (by cases hx; rfl), ⟨rfl, rfl, by decide, fun _ => rfl⟩, rfl, rfl, by decide⟩,
    ⟨awake rfl rfl, ⟨rfl, rfl, by decide, fun _ => rfl⟩, by decide⟩, awake rfl rfl, ⟨rfl, rfl, by decide, fun _ => rfl⟩, by decide⟩

/-- A check that has run out. -/
def checked (checkFor pending : Option Word) (s : State) : State :=
  s.onDriver fun d => { d with phase := .check, checkTimer := some 0, checkFor := checkFor, pendingCheck := pending }

theorem witness_ChecksSetTheCableState :
    idle.Awake ∧ idle.DriveLocked ∧ idle.asks .checkRelease = true ∧ idle.asks .clearFaults = true ∧ idle.driver.phase = .off
      ∧ (checked none none idle).Awake ∧ (checked none none idle).DriveLocked ∧ (checked none none idle).driver.phase ≠ .off
      ∧ (checked none none idle).asks .checkRelease = true
      ∧ (checked none (some 1) idle).Awake ∧ (checked none (some 1) idle).DriveLocked
      ∧ (let s := checked (some 7) (some 1) idle
        s.Awake ∧ s.DriveLocked ∧ s.driver.checkFor = some 7 ∧ s.driver.pendingCheck = some 1 ∧ s.handoffs = []
          ∧ s.lags.headD 0 = 0 ∧ s.seq.shot = none)
      ∧ (let h := { shot1 with checking := true, passesLeft := 2 }
        let s := checked (some 1) none (shooting .preparing h)
        s.Awake ∧ s.DriveLocked ∧ s.driver.checkFor = some h.id ∧ s.seq.shot = some h ∧ s.find 1 = some 0
          ∧ (s.frame 0).state = .exposing ∧ NoUsers s 1 ∧ s.Prompt ∧ { s with lags := [1] }.lags = (0 + 1) :: [])
      ∧ ∀ st present, let h := { shot1 with checking := true, passesLeft := 2 }
        let s := arriving (.driver (some 1) (.checkResult present)) (shooting st h)
        s.Awake ∧ s.seq.state = st ∧ s.seq.shot = some h ∧ h.id = 1 ∧ s.find h.id = some 0 ∧ (s.frame 0).state = .exposing
          ∧ NoUsers s 1 ∧ s.pending = [] ∧ s.handoffs = [⟨.driver (some 1) (.checkResult present), 1⟩]
          ∧ ∃ u, step { s with handoffs := [] } = .next u :=
  ⟨awake rfl rfl, lockedNone rfl rfl, by decide, by decide, rfl, awake rfl rfl, lockedNone rfl rfl, by decide, by decide,
    awake rfl rfl, lockedNone rfl rfl, ⟨awake rfl rfl, lockedNone rfl rfl, rfl, rfl, rfl, rfl, rfl⟩,
    ⟨awake rfl rfl, locked rfl fun x hx => Or.inr (by cases hx; rfl), rfl, rfl, by decide,
      rfl, unused (by decide) rfl, ⟨rfl, rfl⟩, rfl⟩,
    fun _ _ => ⟨awake rfl rfl, rfl, rfl, rfl, by rfl, rfl,
      unused (by decide : ∀ v, (idle.view v).state ≠ .open) rfl, rfl, rfl, _, rfl⟩⟩

theorem witness_DriverTimersAndSenses :
    (let s := (driving idle).onDriver fun d => { d with pullTimer := some 0, rampTimer := some 0, supplyFilter := some 0 };
      s.Awake ∧ s.driver.phase = .pullIn ∧ s.driver.pullTimer = some 0 ∧ s.driver.rampTimer = some 0
        ∧ (∃ p, s.driver.params = some p ∧ p.duty ≤ 16) ∧ s.driver.supplyFilter = some 0 ∧ s.pins.supplyLow = false)
      ∧ (let s := (driving idle).onDriver fun d => { d with phase := .hold, chopTimer := some 0 }
        s.Awake ∧ s.driver.phase = .hold ∧ s.driver.chopTimer = some 0 ∧ ∃ p, s.driver.params = some p) :=
  ⟨⟨awake rfl rfl, rfl, rfl, rfl, ⟨_, rfl, by decide⟩, rfl, rfl⟩, awake rfl rfl, rfl, rfl, _, rfl⟩

theorem witness_CausesEndTheDrive :
    (∀ st, st = .waitSync ∨ st = .open → (driving (shooting st shot1)).Awake ∧ (driving (shooting st shot1)).DriveLocked
        ∧ (driving (shooting st shot1)).driver.phase.driving = true ∧ (driving (shooting st shot1)).seq.shot = some shot1
        ∧ (driving (shooting st shot1)).find 1 = some 0 ∧ ((driving (shooting st shot1)).frame 0).state = .exposing
        ∧ (driving (shooting st shot1)).Prompt)
      ∧ (let s := { (driving (shooting .open shot1)).onDriver fun d =>
            { d with bulbTimer := some 0, supplyFilter := some 0, openTimer := 2000, shortTimer := 10 } with
          pins := { resetPins with supplyLow := true } }
        s.Awake ∧ s.DriveLocked ∧ s.driver.bulbTimer = some 0 ∧ s.driver.supplyFilter = some 0 ∧ s.pins.supplyLow = true
          ∧ s.driver.supplyLow = false ∧ s.driver.openEval = true ∧ 2000 ≤ s.driver.openTimer ∧ 10 ≤ s.driver.shortTimer)
      ∧ (let s := (driving (shooting .waitSync shot1)).onDriver fun d =>
            { d with phase := .hold, holdTimer := some 0, openTimer := 2000
                     params := d.params.map fun p => { p with response := .continue } }
        s.Awake ∧ s.DriveLocked ∧ s.driver.phase = .hold ∧ s.driver.holdTimer = some 0
          ∧ (∃ p, s.driver.params = some p ∧ p.response = .continue ∧ p.deglitch ≤ s.driver.openTimer)
          ∧ s.handoffs = [] ∧ { s with lags := [2] }.lags = (1 + 1) :: [])
      ∧ (∀ st report, let s := arriving (.driver (some 1) report) (shooting st shot1)
        s.Awake ∧ s.DriveLocked ∧ s.seq.shot = some shot1 ∧ s.find shot1.id = some 0 ∧ s.pending = []
          ∧ s.handoffs = [⟨.driver (some shot1.id) report, 1⟩] ∧ s.seq.state = st ∧ (s.frame 0).state = .exposing)
      ∧ (let s := arriving (.driver none .openContinuing) (shooting .open shot1)
        s.Awake ∧ s.DriveLocked ∧ none ≠ some shot1.id ∧ s.handoffs = [⟨.driver none .openContinuing, 1⟩]) := by
  refine ⟨?_, ⟨awake rfl rfl, lockedDriving rfl (Or.inr rfl), rfl, rfl, rfl, rfl, rfl, by decide, by decide⟩,
    ⟨awake rfl rfl, lockedDriving rfl (Or.inl rfl), rfl, rfl, ⟨_, rfl, rfl, by decide⟩, rfl, rfl⟩,
    fun st report => ⟨awake rfl rfl, ?_, rfl, by rfl, rfl, rfl, rfl, rfl⟩, awake rfl rfl, ?_, by decide, rfl⟩
  · rintro st (rfl | rfl)
    · exact ⟨awake rfl rfl, lockedDriving rfl (Or.inl rfl), rfl, rfl, by decide, rfl, rfl, rfl⟩
    · exact ⟨awake rfl rfl, lockedDriving rfl (Or.inr rfl), rfl, rfl, by decide, rfl, rfl, rfl⟩
  all_goals exact locked rfl fun x hx => Or.inr (by cases hx; rfl)

/-- View 1 OPEN on frame `id`, with a read of it held. -/
def heldRead (id : Word) (s : State) : State := (s.setView 1
  { resetView with state := .open, frame := some id, settings := some ⟨⟨4096, 4096, 4096, 4096⟩, 65535, false⟩ }).onDevelop
  fun d => { d with service := some ⟨0xA0000000, 2, allLive, false, false, .held (some 9)⟩ }

theorem witness_RowsAreTakenAndStored :
    idle.Awake ∧ idle.readout.frame = none
      ∧ reading.Awake ∧ reading.readout.frame = some rf ∧ reading.readout.expected < rf.rows
      ∧ (0 : Half).toNat = reading.readout.expected ∧ ([1, 2, 3, 4] : List Sample).length = rf.rowWidth
      ∧ crc16 (storedBytes [1, 2, 3, 4]) ≠ 0 ∧ crc16 (storedBytes [1, 2, 3, 4]) = crc16 [1, 0, 2, 0, 3, 0, 4, 0]
      ∧ (let s := reading.onReadout fun r => { r with expected := 1, inFlight := [⟨0, none⟩] }
        s.Awake ∧ s.readout.inFlight = [⟨0, none⟩] ∧ s.find rf.id = some 0 ∧ NoUsers s rf.id ∧ s.develop.service = none)
      ∧ (∀ c, c = .waitingRows ∨ c = .busy →
        let j : Job := { memJob with kind := .writeFrame, frame := 1, offset := 0, length := 1024 }
        let s := ready [j] (some ⟨true, 0, [], c, .none, none⟩) (reading.onReadout fun r => { r with inFlight := [⟨0, none⟩] })
        s.Awake ∧ s.readout.inFlight = [⟨0, none⟩] ∧ s.find rf.id = some 0 ∧ s.card.activeJob = some j
          ∧ j.frame = rf.id ∧ s.card.transfer = some ⟨true, 0, [], c, .none, none⟩ ∧ s.card.rows < s.readout.stored + 1
          ∧ s.path.card.waiting = [] ∧ s.path.port = [] ∧ s.card.pendingEnd = none ∧ 0 + 1 < j.sectors)
      ∧ (let s := (heldRead 1 reading).onReadout fun r => { r with expected := 1, inFlight := [⟨0, none⟩] }
        s.Awake ∧ s.readout.frame = some rf ∧ s.readout.inFlight = [⟨0, none⟩] ∧ s.find rf.id = some 0
          ∧ (s.view 1).state = .open ∧ (s.view 1).frame = some rf.id ∧ s.ReadInSpace ∧ s.path.processor = ⟨[], []⟩
          ∧ s.path.port = [] ∧ ∃ sv w, s.develop.service = some sv ∧ sv.cond = .held w ∧ 0x80000000 ≤ sv.addr) := by
  refine ⟨awake rfl rfl, rfl, awake rfl rfl, rfl, by decide, by decide, by decide, by decide +kernel, by decide +kernel,
    ⟨awake rfl rfl, rfl, by decide, unused (by decide) rfl, rfl⟩,
    fun c _ => ⟨awake rfl rfl, rfl, by rfl, rfl, rfl, rfl, (by decide : 0 < 1), rfl, rfl, rfl, by decide⟩,
    awake rfl rfl, rfl, rfl, by decide, by decide, by decide, ?_, rfl, rfl, _, _, rfl, rfl, by decide⟩
  intro sv h
  cases h
  decide

theorem witness_ReadoutFailuresSpoilTheFrame :
    idle.Awake ∧ idle.readout.frame = none
      ∧ reading.Awake ∧ reading.readout.frame = some rf ∧ reading.find rf.id = some 0 ∧ (reading.frame 0).state = .readout
      ∧ reading.readout.expected < rf.rows ∧ (1 : Half).toNat ≠ reading.readout.expected
      ∧ (let s := reading.onReadout fun r => { r with expected := 2, rowTimer := some 0 }
        s.Awake ∧ s.readout.frame = some rf ∧ rf.rows ≤ s.readout.expected ∧ s.find rf.id = some 0
          ∧ s.readout.rowTimer = some 0 ∧ NoUsers s rf.id ∧ s.DriveLocked ∧ s.seq.state = .readout)
      ∧ (let s := heldRead 1 reading
        s.Awake ∧ s.readout.frame = some rf ∧ s.find rf.id = some 0 ∧ (s.view 1).state = .open
          ∧ (s.view 1).frame = some rf.id ∧ s.ReadInSpace ∧ ServedBy s 1 ∧ s.path.processor = ⟨[], []⟩ ∧ s.path.port = []
          ∧ s.readout.inFlight = [])
      ∧ (∀ c, let s := ready [{ memJob with kind := .writeFrame, frame := 1 }] (some ⟨true, 0, [], c, .none, none⟩) reading
        s.Awake ∧ s.readout.frame = some rf ∧ s.find rf.id = some 0
          ∧ s.card.activeJob = some { memJob with kind := .writeFrame, frame := 1 }
          ∧ s.sectorRuns = [SectorCond.sending, .awaitingToken, .busy, .receiving].contains c)
      ∧ (let s := (put 1 { rec_ 2 .dark .readout 1 with integStart := some 5 } (darkening .readout)).onReadout fun r =>
            { r with frame := some { rf with id := 2, slot := 1, kind := .dark }, rowTimer := some 0 }
        s.Awake ∧ s.find 2 = some 1 ∧ (s.frame 1).state = .readout ∧ s.seq.shot = some darkShot ∧ darkShot.kind = .dark
          ∧ s.dark.job = some ⟨some 1, 5000, 2, 0⟩ ∧ s.find 1 = some 0) := by
  refine ⟨awake rfl rfl, rfl, awake rfl rfl, rfl, by decide, rfl, by decide, by decide,
    ⟨awake rfl rfl, rfl, by decide, by decide, rfl, unused (by decide) rfl,
      locked rfl fun x hx => Or.inr (by cases hx; rfl), rfl⟩,
    ⟨awake rfl rfl, rfl, by decide, by decide, by decide, ?_, ⟨_, 0xA0000000, rfl, by decide⟩, rfl, rfl, rfl⟩,
    fun c => ⟨awake rfl rfl, rfl, by rfl, by rfl, by rfl⟩, awake rfl rfl, by decide, rfl, rfl, rfl, rfl, by decide⟩
  intro sv h
  cases h
  decide

/-- Frame 1 with all its rows taken and the marker seen. -/
def marked : State := reading.onReadout fun r => { r with expected := 2, stored := 2, marker := true, rowTimer := none }

theorem witness_LightFrameCompletesWithItsDarkDecision :
    (marked.Awake ∧ marked.ListsBounded ∧ marked.readout.marker = true ∧ marked.readout.frame = some rf ∧ rf.kind = .light
      ∧ marked.find rf.id = some 0 ∧ (marked.frame 0).state = .readout ∧ (marked.frame 0).kind = .light
      ∧ marked.seq.shot = some shot1 ∧ shot1.id = rf.id ∧ shot1.kind = .light ∧ integrationOf (marked.frame 0) 2000000
      ∧ marked.store.nextId ≠ 0 ∧ (∀ j, (marked.frame j).state ≠ .free → marked.find (marked.frame j).id = some j)
      ∧ (∃ g j, InGroup marked g j) ∧ marked.handoffs = [] ∧ (∀ n ∈ marked.lags.take 2, n = 0)
      ∧ { marked with lags := [1] }.lags = (0 + 1) :: [] ∧ { marked with lags := [0, 1] }.lags = 0 :: (0 + 1) :: [])
      ∧ (∀ b lags, let s := { arriving (.completion rf b []) marked with lags := lags }
        s.Awake ∧ s.find rf.id = some 0 ∧ (s.frame 0).kind = .light ∧ integrationOf (s.frame 0) 2000000
          ∧ (∀ j, (s.frame j).state ≠ .free → s.find (s.frame j).id = some j) ∧ (s.frame 0).state = .readout
          ∧ s.store.nextId ≠ 0 ∧ s.seq.shot = some shot1 ∧ s.pending = [] ∧ s.handoffs = [⟨.completion rf b [], 1⟩])
      ∧ (∀ b, let s := arriving (.completion rf b []) (put 0 (rec_ 1 .light .spoiled 0) idle)
        s.Awake ∧ s.find rf.id = some 0 ∧ (s.frame 0).state ≠ .readout ∧ s.pending = []
          ∧ s.handoffs = [⟨.completion rf b [], 1⟩])
      ∧ ∀ shot, shot = some shot1 ∨ shot = none →
        let light := { flight with state := .complete, integEnd := some 2000100, awaitDark := true }
        let s := arriving (.completed rf) ((put 0 light (at_ .readout idle)).onSeq fun q => { q with shot := shot })
        s.Awake ∧ s.find rf.id = some 0 ∧ (s.frame 0).kind = .light ∧ integrationOf (s.frame 0) 2000000
          ∧ (∀ j, (s.frame j).state ≠ .free → s.find (s.frame j).id = some j) ∧ (s.frame 0).state = .complete
          ∧ (s.frame 0).awaitDark = true ∧ s.store.nextId ≠ 0 ∧ s.seq.shot = shot ∧ s.pending = []
          ∧ s.handoffs = [⟨.completed rf, 1⟩] := by
  refine ⟨⟨awake rfl rfl, ⟨by decide, by decide, by decide⟩, rfl, rfl, rfl, by decide, rfl, rfl, rfl, rfl, rfl,
    ⟨100, 2000100, rfl, rfl, by decide⟩, by decide, by decide, ⟨1, 1, by decide, Or.inl ⟨rfl, by decide⟩⟩, rfl, by decide,
    rfl, rfl⟩, fun b lags => ⟨awake rfl rfl, by rfl, rfl, ⟨100, 2000100, rfl, rfl, by decide⟩,
      (by decide : ∀ j, (marked.frame j).state ≠ .free → marked.find (marked.frame j).id = some j), rfl,
      (by decide : marked.store.nextId ≠ 0), rfl, rfl,
      rfl⟩, fun b => ⟨awake rfl rfl, by rfl, (by decide : FrameState.spoiled ≠ .readout), rfl, rfl⟩, ?_⟩
  rintro shot (rfl | rfl)
  all_goals exact ⟨awake rfl rfl, by decide, rfl, ⟨100, 2000100, rfl, rfl, by decide⟩, by decide, rfl, rfl, by decide, rfl,
    rfl, rfl⟩

theorem witness_DarkFrameCompletesWithItsLink :
    let dark : Frame := { rec_ 2 .dark .readout 1 with integStart := some 5, integEnd := some 5005 }
    let f : ReadoutFrame := { rf with id := 2, slot := 1, kind := .dark }
    let s := (put 1 dark (darkening .readout)).onReadout fun r => { r with frame := some f, marker := true }
    s.Awake ∧ s.readout.marker = true ∧ s.readout.frame = some f ∧ f.kind = .dark
      ∧ s.find 2 = some 1 ∧ (s.frame 1).state = .readout ∧ (s.frame 1).kind = .dark ∧ s.seq.shot = some darkShot
      ∧ darkShot.id = 2 ∧ s.store.lodged = some (2, 1) ∧ s.find 1 = some 0 ∧ NoUsers s 2 ∧ s.develop.service = none
      ∧ s.DriveLocked ∧ s.seq.state = .readout ∧ s.handoffs = [] ∧ s.lags.headD 0 = 0
      ∧ { s with lags := [1] }.lags = (0 + 1) :: [] ∧ ∀ b, let s := arriving (.completion f b []) s
        s.Awake ∧ s.find f.id = some 1 ∧ (s.frame 1).state = .readout ∧ s.seq.shot = some darkShot ∧ s.pending = []
          ∧ s.handoffs = [⟨.completion f b [], 1⟩] :=
  ⟨awake rfl rfl, rfl, rfl, rfl, by decide, rfl, rfl, rfl, rfl, rfl, by decide, unused (by decide) rfl, rfl,
    locked rfl fun x hx => Or.inl (by cases hx; rfl), rfl, rfl, rfl, rfl,
    fun _ => ⟨awake rfl rfl, by rfl, rfl, rfl, rfl, rfl⟩⟩

theorem nothingServed {s : State} (h : s.develop.service = none) : s.ReadInSpace := fun sv hs => by simp [h] at hs

theorem witness_ViewsPinTheirRecords :
    let f : OpenViewFields := ⟨3, 0, 0, 0, 1, 0, 4096, 4096, 4096, 4096, 65535⟩
    stored.Awake ∧ stored.ReadInSpace ∧ stored.asks (.openView f) = true ∧ stored.find 1 = some 0
      ∧ FirstOf (viewChecks stored { f with view := 4 }) (some .badParam)
      ∧ FirstOf (viewChecks idle f) (some .noFrame) ∧ FirstOf (viewChecks stored f) none
      ∧ stored.asks (.closeView 4) = true ∧ (stored.view 0).state = .closed
      ∧ (let s := (viewing .correctedRaw).setView 1 { resetView with state := .broken, frame := some 1 }
        s.Awake ∧ s.asks (.closeView 1) = true ∧ (s.view 1).state = .broken)
      ∧ (viewing .correctedRaw).Awake ∧ ((viewing .correctedRaw).view 1).state = .open
      ∧ ¬ ServedBy (viewing .correctedRaw) 1
      ∧ (let s := (viewing .correctedRaw).onDevelop fun d => { d with service := some ⟨0xA0000000, 2, allLive, false, false, .computing⟩ }
        s.Awake ∧ s.ReadInSpace ∧ ServedBy s 1 ∧ s.path.processor = ⟨[], []⟩ ∧ s.path.port = []) := by
  have n : ∀ v : Fin 4, v.val = 3 → (idle.view v).state = .closed := by decide
  have m : ∀ v : Fin 4, v.val = 3 → (stored.view v).state = .closed := by decide
  have e : stored.find 1 = some 0 := by decide
  refine ⟨awake rfl rfl, nothingServed rfl, by decide, e, Or.inl ⟨Or.inl (by decide), rfl⟩, ?_, ?_, by decide, by decide,
    ⟨awake rfl rfl, by decide, by decide⟩, awake rfl rfl, by decide, ?_, awake rfl rfl, ?_, ?_, rfl, rfl⟩
  · exact Or.inr ⟨by decide, Or.inr ⟨fun h => h 3 (by decide) (n 3 rfl), Or.inl ⟨by decide, rfl⟩⟩⟩
  · exact Or.inr ⟨by decide, Or.inr ⟨fun h => h 3 (by decide) (m 3 rfl), Or.inr ⟨by decide, Or.inr
      ⟨fun h => (h 0 e).2 rfl, Or.inr ⟨fun h => h.1 rfl, Or.inr ⟨fun h => absurd h.1 (by decide), rfl⟩⟩⟩⟩⟩⟩
  · rintro ⟨sv, a, h, _⟩
    exact nomatch h
  · intro sv h
    cases h
    decide
  · exact ⟨_, 0xA0000000, rfl, by decide⟩

theorem witness_LoadToneWritesTheIdleBank :
    idle.Awake ∧ idle.ReadInSpace ∧ idle.asks (.loadTone 1 0xFFFF7E) = true ∧ (0xFFFF7E : Word).toNat + 130 = 0x1000000
      ∧ idle.asks (.loadTone 2 0x100000) = true ∧ idle.path.Idle
      ∧ (let s := idle.onDevelop fun d => { d with toneLoad := some ⟨false, defaultTone, false⟩ }
        s.Awake ∧ s.ReadInSpace ∧ ¬ UsesIdleBank s false)
      ∧ (let s := (viewing .quadRgb8).onDevelop fun d => { d with
            toneLoad := some ⟨false, defaultTone, false⟩, service := some ⟨0xA0000000, 4, allLive, true, false, .computing⟩ }
        s.Awake ∧ s.ReadInSpace ∧ UsesIdleBank s false) := by
  refine ⟨awake rfl rfl, nothingServed rfl, by decide, by decide, by decide, ⟨rfl, rfl, rfl, rfl, rfl, rfl⟩,
    ⟨awake rfl rfl, nothingServed rfl, ?_⟩, awake rfl rfl, ?_, ?_⟩
  · rintro ⟨sv, v, g, h, _⟩
    exact nomatch h
  · intro sv h
    cases h
    decide
  · exact ⟨_, 1, _, rfl, ⟨_, 0xA0000000, rfl, by decide⟩, rfl, rfl, rfl, rfl, by decide⟩

theorem witness_ReadsComputeOrAreHeld :
    idle.Awake ∧ (0xFFFFFFC0 : Word).toNat + 64 ≤ 0x100000000 ∧ idle.portBusy = false
      ∧ AllReady idle ⟨0x7FFFFFC0, 64, allLive, false, false, .computing⟩
      ∧ (let s := (viewing .correctedRaw).setView 1 { (viewing .correctedRaw).view 1 with rows := 0 }
        let sv : Service := ⟨0xA0000000, 2, ⟨false, true, false, false⟩, false, false, .computing⟩
        s.Awake ∧ s.portBusy = false ∧ ¬ AllReady s sv ∧ LateIn s sv 1 ∧ (s.view 1).rows ≤ lastRow s (s.view 1).form 0)
      ∧ (∀ c, let s := (viewing .correctedRaw).onDevelop fun d => { d with service := some ⟨0xA0000000, 2, allLive, false, false, c⟩ }
        s.Awake ∧ s.portBusy = true ∧ s.path.Idle ∧ s.path.port = [] ∧ s.path.processor.got = [])
      ∧ (∀ sv, idle.develop.service = some sv → ∃ w, sv.cond = .held w ∧ w ≠ some 0)
      ∧ allLive.get 1 = true ∧ ((viewing .quadRgb8).view 0).state ≠ .open
      ∧ (viewing .quadRgb8).imageSize ((viewing .quadRgb8).view 1).form ≤ 0x1FFFFFFF :=
  ⟨awake rfl rfl, by decide, by decide, fun a _ (h : a < 0x7FFFFFC0 + 64) b => absurd h (by omega),
    ⟨awake rfl rfl, by decide, fun h => absurd (h 0xA0000000 (by decide) (by decide) (by decide) (by decide)) (by decide),
      ⟨0xA0000000, by decide, by decide, by decide, by decide, by decide, by decide⟩, by decide⟩,
    fun _ => ⟨awake rfl rfl, rfl, ⟨rfl, rfl, rfl, rfl, rfl, rfl⟩, rfl, rfl⟩, (fun _ h => nomatch h), rfl, by decide, by decide⟩

theorem witness_ApertureBytesAreDevelopedPixels :
    (∀ form, let s := viewing form
      allLive.get 1 = true ∧ (s.view 1).state = .open ∧ (s.view 1).settings = some ⟨⟨4096, 4096, 4096, 4096⟩, 65535, false⟩
        ∧ (s.view 1).frame = some 1 ∧ (s.view 1).form = form)
      ∧ (viewing .correctedRaw).find 1 = some 0
      ∧ 204119999 < (viewing .correctedRaw).width * (viewing .correctedRaw).height * 2
      ∧ 204119999 / 2 / (viewing .correctedRaw).width < ((viewing .correctedRaw).view 1).rows
      ∧ 102059999 < (viewing .quadRgb8).width * (viewing .quadRgb8).height
      ∧ 2 * (102059999 / 4 / ((viewing .quadRgb8).width / 2)) + 1 < ((viewing .quadRgb8).view 1).rows
      ∧ defaultTone.length = 65 ∧ (∀ e ∈ defaultTone, e ≤ 4095)
      ∧ (viewing .correctedRaw).width * (viewing .correctedRaw).height * 2 ≤ 0x1FFFFFFF :=
  ⟨fun form => ⟨rfl, rfl, rfl, rfl, rfl⟩, by decide, by decide, by decide, by decide, by decide, by decide, by decide, by decide⟩

theorem witness_CardJobsQueueAndStart :
    let f : CardJobFields := ⟨13, 2, false, 0, 0, 0x100000, 65536, 2048⟩
    let s := ready [] none stored
    s.Awake ∧ s.asks (.cardJob f) = true ∧ s.asks .cardResume = true
      ∧ FirstOf (cardJobChecks idle f) (some .noCard) ∧ FirstOf (cardJobChecks s { f with length := 0 }) (some .badParam)
      ∧ FirstOf (cardJobChecks s f) none ∧ FirstOf (cardJobChecks s { f with kind := 1, frame := 1 }) none
      ∧ s.card.halted = false ∧ s.card.jobs = [] ∧ s.card.transfer = none
      ∧ (ready [memJob] none stored).Awake ∧ (ready [memJob] none stored).card.activeJob ≠ none
      ∧ (let s := (ready [{ readJob with active := false }] none stored).onCard fun c => { c with halted := true }
        s.Awake ∧ s.asks .cardResume = true ∧ s.card.halted = true ∧ s.card.state = .ready ∧ s.card.transfer = none) := by
  have e : (ready [] none stored).find 1 = some 0 := by decide
  refine ⟨awake rfl rfl, by decide, by decide, Or.inl ⟨by decide, rfl⟩, ?_, ?_, ?_, rfl, rfl, rfl, awake rfl rfl, by decide,
    awake rfl rfl, by decide, rfl, rfl, rfl⟩
  · exact Or.inr ⟨by decide, Or.inr ⟨by decide, Or.inl ⟨by decide, rfl⟩⟩⟩
  · exact Or.inr ⟨by decide, Or.inr ⟨by decide, Or.inr ⟨by decide, Or.inr ⟨by decide, Or.inr ⟨by decide, Or.inr
      ⟨fun h => absurd h.1 (by decide), Or.inr ⟨by decide, rfl⟩⟩⟩⟩⟩⟩⟩
  · exact Or.inr ⟨by decide, Or.inr ⟨by decide, Or.inr ⟨by decide, Or.inr ⟨by decide, Or.inr ⟨by decide, Or.inr
      ⟨fun h => (h.2 0 e).2 rfl, Or.inr ⟨by decide, rfl⟩⟩⟩⟩⟩⟩⟩

theorem witness_FlushAndRemovalEmptyTheQueue :
    idle.Awake ∧ idle.asks .cardFlush = true ∧ idle.ListsBounded ∧ idle.card.jobs = []
      ∧ (ready [memJob] none idle).Awake ∧ (ready [memJob] none idle).asks .cardFlush = true
      ∧ (ready [memJob] none idle).card.jobs ≠ []
      ∧ (let s := { idle.onCard fun c => { c with debounce := some 0 } with pins := { resetPins with detectIn := true } }
        s.Awake ∧ s.card.debounce = some 0 ∧ s.pins.detectIn = true ∧ s.card.state = .absent)
      ∧ (let s := (ready [memJob] none idle).onCard fun c => { c with debounce := some 0 }
        s.Awake ∧ s.card.debounce = some 0 ∧ s.pins.detectIn = false ∧ s.card.state ≠ .absent)
      ∧ (let s := idle.onCard fun c => { c with debounce := some 0 }
        s.Awake ∧ s.card.debounce = some 0 ∧ s.pins.detectIn = false ∧ s.card.state = .absent) :=
  ⟨awake rfl rfl, by decide, ⟨by decide, by decide, by decide⟩, rfl, awake rfl rfl, by decide, by decide,
    ⟨awake rfl rfl, rfl, rfl, rfl⟩, ⟨awake rfl rfl, rfl, rfl, by decide⟩, awake rfl rfl, rfl, rfl, rfl⟩

theorem witness_InitializationEndsReadyOrUnusable :
    (∀ stage, let s := idle.onCard fun c => { c with state := .initializing, initStage := some stage, initLimit := some 0 }
      s.Awake ∧ s.card.state = .initializing ∧ s.card.initStage = some stage ∧ s.card.initLimit = some 0 ∧ s.card.jobs = [])
      ∧ (List.replicate 16 (0 : Byte)).length = 16 ∧ crc16 (List.replicate 16 0) ≠ 0
      ∧ ([1, 0, 0, 0] : List Byte) = leBytes 4 (1 : Word).toNat ∧ crc16 [1, 0, 0, 0] ≠ 0 ∧ idle.card.state ≠ .initializing :=
  ⟨fun _ => ⟨awake rfl rfl, rfl, rfl, rfl, rfl⟩, by decide, by decide +kernel, by decide, by decide +kernel, by decide⟩

theorem witness_WriteSectorsRunToTheirEnd :
    let x : Transfer := ⟨true, 0, [], .fetching, .none, some 0⟩
    let s := ready [memJob] (some x) idle
    (∀ p y, ((ready [memJob] (some y) idle).onPath p).inReset = false)
      ∧ s.Awake ∧ s.card.jobs = [memJob] ∧ memJob.active = true ∧ s.card.transfer = some x ∧ x.limit = some 0
      ∧ s.card.pendingEnd = none ∧ (s.sectorAddrs memJob 0).length = 512 ∧ (s.sectorAddrs memJob 1).length = 512
      ∧ (let t := s.onPath fun p => { p with card := ⟨readBursts (s.sectorAddrs memJob 0), []⟩ }
        t.Awake ∧ t.path.CardAlone)
      ∧ x.next + 1 < memJob.sectors ∧ memJob.sectors ≤ 1 + 1 ∧ s.sendable memJob 1 = true
      ∧ (let t := s.onCard fun c => { c with
            transfer := some { x with cond := .busy, prefetch := .fetching }, pendingEnd := some ⟨.sourceLost, false⟩ }
        t.Awake ∧ t.card.pendingEnd = some ⟨.sourceLost, false⟩)
      ∧ (∀ cond quiet, let y := { x with next := 1, cond := cond, limit := some 0 }
        let k := { memJob with sectorsDone := 1 }
        let s := (ready [k, { readJob with active := false }] (some y) idle).onCard fun c =>
          { c with pendingEnd := some ⟨.cancelled, quiet⟩ }
        s.Awake ∧ s.card.jobs = k :: [{ readJob with active := false }] ∧ k.active = true ∧ s.card.transfer = some y
          ∧ y.write = true ∧ s.card.pendingEnd = some ⟨.cancelled, quiet⟩ ∧ k.sectors ≤ y.next + 1 ∧ s.card.halted = false
          ∧ s.card.state = .ready)
      ∧ (let t := ready [{ memJob with kind := .writeFrame, frame := 1, offset := 0 }] (some x) reading
        t.Awake ∧ x.next + 1 < memJob.sectors ∧ x.prefetch = .none
          ∧ t.sendable { memJob with kind := .writeFrame, frame := 1, offset := 0 } 1 = false) :=
  ⟨fun _ _ => rfl, awake rfl rfl, rfl, rfl, rfl, rfl, rfl, by decide +kernel, by decide +kernel,
    ⟨awake rfl rfl, rfl, rfl, rfl, rfl, rfl, rfl⟩, by decide, by decide, by decide, ⟨awake rfl rfl, rfl⟩,
    fun _ _ => ⟨awake rfl rfl, rfl, rfl, rfl, rfl, rfl, by exact (by decide : 2 ≤ 1 + 1), rfl, rfl⟩, awake rfl rfl, by decide, rfl, by decide⟩

theorem witness_ReadSectorsRunToTheirEnd :
    (∀ y done, let s := ready [{ readJob with sectorsDone := done }] (some y) idle
      s.Awake ∧ s.card.jobs = [{ readJob with sectorsDone := done }] ∧ s.card.transfer = some y ∧ s.card.pendingEnd = none
        ∧ s.path.CardAlone)
      ∧ (let x : Transfer := ⟨false, 0, [], .receiving, .none, some 0⟩
        x.write = false ∧ x.limit = some 0 ∧ x.next ≤ 0 ∧ x.next < readJob.sectors)
      ∧ (List.replicate 512 (0 : Byte)).length = 512 ∧ 0 + 1 < readJob.sectors ∧ readJob.sectors ≤ 1 + 1
      ∧ (let x : Transfer := ⟨false, 2, [], .receiving, .none, none⟩
        1 < x.next ∧ readJob.sectors ≤ x.next)
      ∧ (∀ quiet, let x : Transfer := ⟨false, 2, [], .receiving, .none, none⟩
        let j := { readJob with sectorsDone := 1 }
        let s := (ready [j, { memJob with active := false }] (some x) idle).onCard fun c =>
          { c with pendingEnd := some ⟨.cancelled, quiet⟩ }
        s.Awake ∧ s.card.jobs = j :: [{ memJob with active := false }] ∧ s.card.transfer = some x ∧ s.path.CardAlone
          ∧ s.card.pendingEnd = some ⟨.cancelled, quiet⟩ ∧ j.sectorsDone < x.next ∧ s.pins.wprot = false) :=
  ⟨fun _ _ => ⟨awake rfl rfl, rfl, rfl, rfl, rfl, rfl, rfl, rfl, rfl, rfl⟩, by decide, by decide +kernel, by decide,
    by decide, by decide, fun _ => ⟨awake rfl rfl, rfl, rfl, ⟨rfl, rfl, rfl, rfl, rfl, rfl⟩, rfl, by decide, rfl⟩⟩

end Sys2Proof.Tests
end

namespace Sys2Proof.Machine

/-! ### The slot layout (R1) -/

/-- The frame data of a geometry in range fills 6 to 219 MiB (R1, R190). -/
theorem frameData_bounds {wa h ob : Nat} (hw : 2048 ≤ wa) (hw' : wa ≤ 12288) (hh : 1536 ≤ h) (hh' : h ≤ 9216)
    (ho : ob ≤ 128) : 6 * mebi ≤ (ob + wa) * h * 2 ∧ (ob + wa) * h * 2 ≤ 219 * mebi := by
  have low : 2048 * 1536 ≤ (ob + wa) * h := Nat.mul_le_mul (by omega) hh
  have high : (ob + wa) * h ≤ 12416 * 9216 := Nat.mul_le_mul (by omega) hh'
  unfold mebi
  omega

/-- Slots of `q` MiB: as many fit the region as whole multiples of `q` fit 2,032 (R1). -/
theorem storeSize_div (q : Nat) : storeSize / (q * mebi) = 2032 / q :=
  Nat.mul_div_mul_right 2032 q (by decide)

/-- The slots of a layout lie one behind the other inside the region (R1, R2). -/
theorem Layout.slot_in_region {l : Layout} {k : Nat} (hfit : l.slotCount ≤ storeSize / l.slotSize)
    (hk : k < l.slotCount) : storeBase ≤ l.base k ∧ l.base k + l.slotSize ≤ storeBase + storeSize := by
  have span : (k + 1) * l.slotSize ≤ storeSize :=
    (Nat.mul_le_mul_right _ (hk.trans_le hfit)).trans (Nat.div_mul_le_self _ _)
  rw [Nat.add_mul, Nat.one_mul] at span
  unfold Layout.base
  omega

/-- Settles O21: the slot size is the frame data rounded up to MiB, at most 219 of the region's 2,032. -/
theorem slotCountLiesInItsRange : Obligations.SlotCountLiesInItsRange := by
  unfold Obligations.SlotCountLiesInItsRange
  intro wa h ob limit hw hw' hh hh' ho
  obtain ⟨low, high⟩ := frameData_bounds hw hw' hh hh' ho
  dsimp only [layoutOf, IsLayout]
  generalize (ob + wa) * h * 2 = data at low high ⊢
  obtain ⟨q, hq⟩ : ∃ q, q = (data + (mebi - 1)) / mebi := ⟨_, rfl⟩
  have rounded : data ≤ q * mebi ∧ q * mebi < data + mebi := by
    rw [hq]; unfold mebi; omega
  have range : 6 ≤ q ∧ q ≤ 219 := by unfold mebi at *; omega
  have fit : 9 ≤ 2032 / q := (Nat.le_div_iff_mul_le (by omega)).2 (by omega)
  rw [← hq, storeSize_div]
  have count : (if limit = 0 then min 16 (2032 / q) else min (min 16 (2032 / q)) limit)
      = min (min 16 (if limit = 0 then 16 else limit)) (2032 / q) := by split <;> omega
  refine ⟨⟨rfl, rfl, ?_, rounded.1, rounded.2, ?_⟩, ?_, ?_, ?_, ?_⟩
  · exact Nat.mul_mod_left q mebi
  · rw [count]; exact congrArg _ (storeSize_div q).symm
  · intro h0; simp [h0]; omega
  · split <;> omega
  · split <;> omega
  · intro k hk
    exact Layout.slot_in_region (l := ⟨_, q * mebi, ob + wa, data⟩)
      (by rw [storeSize_div]; exact (count ▸ Nat.min_le_right _ _)) hk

end Sys2Proof.Machine

namespace Sys2Proof.Machine

/-! ### What each command does inside its step

Every command but the two of power-on reset is one effect, made between the parts that all steps share: `pump` and
`settle`. The invariants are then proved of the effects, command by command. -/

/-- An effect that takes place only when it is due. -/
def whenDue (due : State → Bool) (f : State → State) (s : State) : State := if due s then f s else s

/-- A request's effect: its owner's decision, when the request is the one to decide. -/
def asked (i : Instr) (d : State → State × Option ResultCode) : State → State := whenDue (·.asks i) (decideWith d)

/-- The effect of a command. POWER_ON_RESET and RESET_END, whose steps are not of this form, are given none. -/
def effect : Instr → State → State
  | .powerOnReset => id
  | .resetEnd _ _ => id
  | .processorWrite addr bytes => fun s =>
    if s.portBusy then enqueue (.write (decodeWrite addr.toNat bytes s)) s else takeWrite (decodeWrite addr.toNat bytes s) s
  | .postWrite lo hi => takePost lo hi
  | .causeClearWrite b4 b5 b6 b7 => takeClear b4 b5 b6 b7
  | .apertureRead addr len => fun s =>
    if s.portBusy then enqueue (.read addr.toNat len) s else takeRead addr.toNat len s
  | .apertureReadComplete => whenDue (fun s => s.develop.service.isSome && !s.readHeld) completeRead
  | .heldReadExpiry => whenDue State.waitDue expireRead
  | .arbiterGrant => grant
  | .requestFetch => whenDue State.canFetch fetchRequest
  | .requestComplete => whenDue (fun s => s.req.hand.isSome && s.req.answer.isSome) completeRequest
  | .statusPageWrite => whenDue (·.req.statusDue) writeStatusPage
  | .mirrorWrite k => whenDue (·.store.mirrorDue.contains k) (writeMirror k)
  | .cardQueueMirrorWrite => whenDue (·.card.mirrorDue) writeQueueMirror
  | .setupSensor f => asked (.setupSensor f) (decideSetupSensor f)
  | .setupStore f => asked (.setupStore f) (decideSetupStore f)
  | .setupExposure f => asked (.setupExposure f) (decideSetupExposure f)
  | .setMask mask => asked (.setMask mask) fun s => accept (s.onReq fun r => { r with mask := mask.setWidth 14 })
  | .restart v c => asked (.restart v c) fun s => accept (restart v c s)
  | .release mode bulbMs delayMs => asked (.release mode bulbMs delayMs) (decideRelease mode bulbMs delayMs)
  | .arm stay => asked (.arm stay) (decideArm stay)
  | .disarm => asked .disarm decideDisarm
  | .cancel => asked .cancel decideCancel
  | .checkRelease => asked .checkRelease decideCheckRelease
  | .clearFaults => asked .clearFaults fun s => accept (clearFaults s)
  | .takeDark duration => asked (.takeDark duration) (decideTakeDark duration)
  | .keep id => asked (.keep id) (onRecord id (decideKeep true))
  | .unkeep id => asked (.unkeep id) (onRecord id (decideKeep false))
  | .settle id => asked (.settle id) (onRecord id decideSettle)
  | .discard id => asked (.discard id) (onRecord id decideDiscard)
  | .openView f => asked (.openView f) (decideOpenView f)
  | .closeView view => asked (.closeView view) (decideCloseView view)
  | .loadTone table addr => asked (.loadTone table addr) (decideLoadTone table addr)
  | .toneBankWrite => whenDue State.toneReady writeTone
  | .cardJob f => asked (.cardJob f) (decideCardJob f)
  | .cardResume => asked .cardResume decideCardResume
  | .cardFlush => asked .cardFlush decideCardFlush
  | .unknownRequest kind => asked (.unknownRequest kind) (refuse .unknown)
  | .syncRawEdge closed => rawEdge closed
  | .runQualifies => whenDue State.runDue fun s => match s.sync.run with
    | some r => qualify r s
    | none => s
  | .blankingEnd => whenDue (fun s => timerDue s.sync.blanking) blankingEnd
  | .checkEnd microamps => whenDue (fun s => s.driver.phase == .check && timerDue s.driver.checkTimer) (checkEnd microamps)
  | .pullInEnd => whenDue (fun s => s.driver.phase == .pullIn && timerDue s.driver.pullTimer) enterHold
  | .holdChop => whenDue (fun s => s.driver.phase == .hold && timerDue s.driver.chopTimer) chop
  | .bulbEnd => whenDue (fun s => s.driver.phase.driving && timerDue s.driver.bulbTimer) (endDrive .bulbEnd)
  | .holdLimit => whenDue (fun s => s.driver.phase == .hold && timerDue s.driver.holdTimer) (endDrive .holdLimit)
  | .openLoadLatch => whenDue State.openDue latchOpen
  | .shortDetected =>
    whenDue (fun s => s.driver.phase.driving && decide (shortTime ≤ s.driver.shortTimer)) latchShort
  | .lowSupplyIndication => whenDue (fun s => timerDue s.driver.supplyFilter) indicateSupply
  | .tripDelayEnd => whenDue (·.shotDue .delay Shot.delayTimer) enterPreparing
  | .flushDone => whenDue (·.seq.flushWait.isSome) flushDone
  | .startAck => fun s => s.onSeq fun q => { q with startWait := none }
  | .endAck => whenDue (·.seq.endWait.isSome) endAck
  | .flushTimeout => whenDue (fun s => timerDue s.seq.flushWait) sensorFault
  | .ackTimeout => whenDue (fun s => timerDue s.seq.startWait || timerDue s.seq.endWait) sensorFault
  | .syncTimeout => whenDue (·.shotDue .waitSync Shot.syncTimer)
    (withShot fun h s => endIntegration h (addFlag h.id .noSync (driveOff s)))
  | .openWaitExpiry => whenDue (·.shotDue .open Shot.openWait)
    (withShot fun h s => endIntegration h (addFlag h.id .noSyncOpen s))
  | .tailEnd => whenDue (·.shotDue .tail Shot.tailTimer) (withShot endIntegration)
  | .integrationCap => whenDue State.capDue (withShot fun h s => endIntegration h (addFlag h.id .truncated s))
  | .falseStartWindowExpiry => whenDue (·.shotDue .tripped Shot.windowTimer) (withShot falseStart)
  | .darkDurationEnd => whenDue (·.shotDue .darkRun Shot.darkTimer) (withShot endIntegration)
  | .rowPacket row samples check => rowPacket row samples check
  | .rowStored => whenDue (fun s => s.readout.frame.isSome && !s.readout.inFlight.isEmpty) fun s => storeRow (drainReadout s)
  | .frameEndMarker => frameEndMarker
  | .frameComplete => whenDue (·.readout.marker) fun s => match s.readout.frame with
    | some f => completeFrame f s
    | none => s
  | .readoutTimeout => whenDue (fun s => timerDue s.readout.rowTimer) (spoilReadout .readoutTimeout)
  | .detectLineChange cardIn writeProtect => detectLine cardIn writeProtect
  | .detectDebounceExpiry => whenDue (fun s => timerDue s.card.debounce) debounced
  | .identifyAnswer block check =>
    whenDue (fun s => s.card.state == .initializing && s.card.initStage == some .identify) (identify block check)
  | .capacityAnswer bytes check =>
    whenDue (fun s => s.card.state == .initializing && s.card.initStage == some .capacity) (takeCapacity bytes check)
  | .cardInitTimeout => whenDue (fun s => s.card.state == .initializing && timerDue s.card.initLimit) cardUnusable
  | .sectorFetched =>
    whenDue (fun s => s.writing fun t => t.cond == .fetching || (t.cond == .busy && t.prefetch == .fetching)) sectorFetched
  | .cardToken token => whenDue (fun s => s.writing fun t => t.cond == .awaitingToken) (takeToken token)
  | .cardBusyEnd => whenDue (fun s => s.writing fun t => t.cond == .busy) busyEnd
  | .sectorLimitExpiry =>
    whenDue (fun s => s.card.activeJob.isSome && s.card.transfer.any fun t => timerDue t.limit) sectorLimit
  | .readSectorReceived bytes check => whenDue State.expectsSector (afterStoring (receiveSector bytes check))
  | .readSectorStored => whenDue State.storing readStored
  | .rampBlankEnd => whenDue (fun s => timerDue s.driver.rampTimer) fun s => s.onDriver fun d => { d with rampTimer := none }
  | .currentSenseChange microamps => senseCurrent microamps
  | .supplyComparatorChange low => compareSupply low

/-- What a step with effect `e` answers: the effect, pumped and settled, or during power-on reset a line's new level. -/
def Answered (e : State → State) (s t : State) : Prop :=
  (s.inReset = true ∧ ∃ level, t = s.quiet.onPins level) ∨ (s.inReset = false ∧ t = settle s (pump (e s.quiet)))

theorem answered_of_run {f : State → State} {s t : State} (h : run f s = .next t) : Answered f s t := by
  unfold run at h
  split at h
  · next hr => exact .inl ⟨hr, fun p => p, (Host.Outcome.next.inj h).symm⟩
  · next hr => exact .inr ⟨by simpa using hr, (Host.Outcome.next.inj h).symm⟩

theorem answered_of_runLine {level : Pins → Pins} {f : State → State} {s t : State}
    (h : runLine level f s = .next t) : Answered f s t := by
  unfold runLine at h
  split at h
  · next hr => exact .inl ⟨hr, level, (Host.Outcome.next.inj h).symm⟩
  · exact answered_of_run h

theorem answered_of_transaction {i : Instr} {addr : Word} {len : Nat} {f : State → State} {s t : State}
    (h : transaction i addr len f s = .next t) : Answered f s t := by
  unfold transaction at h
  split at h
  · cases h
  · split at h
    · cases h
    · exact answered_of_run h

/-- A command that is refused when it is none of the part's, and otherwise has its effect. -/
theorem answered_of_wellFormed {c : Bool} {r : Refusal} {f : State → State} {s t : State} {a : Answer}
    (h : (if c then .refused r else a) = Host.Outcome.next t) (ha : a = .next t → Answered f s t) : Answered f s t := by
  split at h
  · cases h
  · exact ha h

/-- What a command answers: one of the two resets, or its effect. -/
theorem exec_cases {i : Instr} {s t : State} (h : exec i s = .next t) :
    (i = .powerOnReset ∧ t = poweredOn s)
      ∨ (∃ c d, i = .resetEnd c d ∧ t = if s.inReset then endReset c d s else s.quiet)
      ∨ Answered (effect i) s t := by
  cases i
  case powerOnReset => exact .inl ⟨rfl, (Host.Outcome.next.inj h).symm⟩
  case resetEnd c d => exact .inr (.inl ⟨c, d, rfl, (Host.Outcome.next.inj h).symm⟩)
  case processorWrite => exact .inr (.inr (answered_of_transaction h))
  case apertureRead => exact .inr (.inr (answered_of_transaction h))
  case postWrite => exact .inr (.inr (answered_of_wellFormed h answered_of_run))
  case causeClearWrite => exact .inr (.inr (answered_of_wellFormed h answered_of_run))
  case unknownRequest => exact .inr (.inr (answered_of_wellFormed h answered_of_run))
  case identifyAnswer => exact .inr (.inr (answered_of_wellFormed h answered_of_run))
  case capacityAnswer => exact .inr (.inr (answered_of_wellFormed h answered_of_run))
  case readSectorReceived => exact .inr (.inr (answered_of_wellFormed h answered_of_run))
  case syncRawEdge => exact .inr (.inr (answered_of_runLine h))
  case detectLineChange => exact .inr (.inr (answered_of_runLine h))
  case currentSenseChange => exact .inr (.inr (answered_of_runLine h))
  case supplyComparatorChange => exact .inr (.inr (answered_of_runLine h))
  all_goals exact .inr (.inr (answered_of_run h))

/-- What a step does: it takes the first command that waits, or lets a microsecond pass (log 1). -/
theorem step_cases {s t : State} (h : step s = .next t) :
    (s.pending = [] ∧ t = tick s) ∨ ∃ i rest, s.pending = i :: rest ∧ exec i { s with pending := rest } = .next t := by
  unfold step at h
  split at h
  · next hp => exact .inl ⟨hp, (Host.Outcome.next.inj h).symm⟩
  · next i rest hp => exact .inr ⟨i, rest, hp, h⟩

/-! ### Changes schedule their writes (R22, R165, R186) -/

/-- What differs between two states has its write due in the second. -/
def ChangesDue (s t : State) : Prop :=
  (∀ k, (t.frame k).content ≠ (s.frame k).content → k ∈ t.store.mirrorDue)
    ∧ (t.card.jobs ≠ s.card.jobs → t.card.mirrorDue = true)
    ∧ (t.statusView ≠ s.statusView → t.req.statusDue = true)

theorem changesDue_settle (s x : State) : ChangesDue s (settle s x) := by
  refine ⟨fun k h => ?_, fun h => ?_, fun h => ?_⟩
  · exact (mem_settle_mirrorDue s x k).2 (.inr (Ne.symm h))
  · have : s.card.jobs ≠ x.card.jobs := Ne.symm h
    rw [settle_queueDue, decide_eq_true this, Bool.or_true]
  · have : s.statusView ≠ x.statusView := Ne.symm h
    rw [settle_statusDue, decide_eq_true this, Bool.or_true]

theorem changesDue_quiet (s : State) : ChangesDue s s.quiet :=
  ⟨fun _ h => absurd rfl h, fun h => absurd rfl h, fun h => absurd rfl h⟩

/-- Settles O17: outside power-on reset every step ends by settling what it changed. -/
theorem everyChangeSchedulesItsWrite : Obligations.EveryChangeSchedulesItsWrite := by
  unfold Obligations.EveryChangeSchedulesItsWrite
  intro s t hr hp h
  rcases step_cases h with ⟨-, rfl⟩ | ⟨i, rest, hpend, hexec⟩
  · have : tick s = settle s (pump (takeArrived (microsecond s.quiet))) := by simp [tick, hr]
    exact this ▸ changesDue_settle s _
  · rcases exec_cases hexec with ⟨rfl, -⟩ | ⟨c, d, -, rfl⟩ | ⟨hin, -⟩ | ⟨-, rfl⟩
    · simp [hpend] at hp
    · rw [if_neg (by simpa using hr)]; exact changesDue_quiet _
    · exact absurd hin (by simp [hr])
    · exact changesDue_settle _ _

end Sys2Proof.Machine

namespace Sys2Proof.Machine

/-! ### The candidate of an allocation (R15) -/

@[simp] theorem mem_slots (k : Fin 16) : k ∈ slots := List.mem_finRange k

theorem leastBy_eq_none {rank : Fin 16 → Nat} {l : List (Fin 16)} : leastBy rank l = none ↔ l = [] := by
  cases l with
  | nil => simp [leastBy]
  | cons a l =>
    simp only [leastBy]
    split
    · simp
    · split <;> simp

/-- What is found is in the list and of least rank. -/
theorem leastBy_spec {rank : Fin 16 → Nat} {l : List (Fin 16)} {k : Fin 16} (h : leastBy rank l = some k) :
    k ∈ l ∧ ∀ j ∈ l, rank k ≤ rank j := by
  induction l generalizing k with
  | nil => simp [leastBy] at h
  | cons a l ih =>
    simp only [leastBy] at h
    split at h
    · next hn =>
      obtain rfl := Option.some.inj h
      simp [leastBy_eq_none.1 hn]
    · next j hj =>
      obtain ⟨hmem, hle⟩ := ih hj
      split at h <;> obtain rfl := Option.some.inj h
      · next hlt => exact ⟨by simp [hmem], by simpa [Nat.le_of_lt hlt] using hle⟩
      · next hge => exact ⟨by simp, by simpa using fun i hi => (Nat.le_of_not_lt hge).trans (hle i hi)⟩

/-- The rank by which the candidates of a group are compared: their index in group 1, their age in the others. -/
def State.candidateRank (s : State) (g : Nat) (k : Fin 16) : Nat := if g = 1 then k.val else (s.frame k).age

theorem candidateIn_spec {s : State} {g : Nat} {k : Fin 16} (h : s.candidateIn g = some k) :
    s.groupOf k = some g ∧ ∀ j, s.groupOf j = some g → s.candidateRank g k ≤ s.candidateRank g j := by
  obtain ⟨hmem, hle⟩ := leastBy_spec h
  simp only [List.mem_filter, mem_slots, true_and, beq_iff_eq] at hmem hle
  exact ⟨hmem, hle⟩

theorem candidateIn_eq_none {s : State} {g : Nat} : s.candidateIn g = none ↔ ∀ k, s.groupOf k ≠ some g := by
  simp [State.candidateIn, leastBy_eq_none, List.filter_eq_nil_iff]

/-- The groups are numbered from 1 to 5. -/
theorem groupOf_range {s : State} {g : Nat} {k : Fin 16} (h : s.groupOf k = some g) : 1 ≤ g ∧ g ≤ 5 := by
  unfold State.groupOf Frame.group at h
  repeat' split at h
  all_goals first | (cases h; done) | (obtain rfl := Option.some.inj h; omega)

theorem mem_groups {g : Nat} (h : 1 ≤ g ∧ g ≤ 5) : g ∈ [1, 2, 3, 4, 5] := by
  obtain ⟨low, high⟩ := h
  interval_cases g <;> decide

/-- The candidate is the first one of the first group that has any (R15). -/
theorem candidate_spec {s : State} {g : Nat} {k : Fin 16} (h : s.candidate = some (g, k)) :
    s.groupOf k = some g ∧ (∀ j g', s.groupOf j = some g' → g ≤ g')
      ∧ ∀ j, s.groupOf j = some g → s.candidateRank g k ≤ s.candidateRank g j := by
  obtain ⟨before, g', after, hsplit, hg', hbefore⟩ := List.findSome?_eq_some_iff.1 h
  obtain ⟨k', hk', he⟩ := Option.map_eq_some_iff.1 hg'
  cases he
  obtain ⟨hgroup, hleast⟩ := candidateIn_spec hk'
  refine ⟨hgroup, fun j g' hj => ?_, hleast⟩
  by_contra hlt
  have hrange := groupOf_range hj
  have hmem : g' ∈ before := by
    have sorted : (before ++ g :: after).Pairwise (· < ·) := by rw [← hsplit]; decide
    have hin : g' ∈ before ++ g :: after := hsplit ▸ mem_groups hrange
    rcases List.mem_append.1 hin with hb | hb
    · exact hb
    · rcases List.mem_cons.1 hb with rfl | hb
      · omega
      · have := (List.pairwise_cons.1 (List.pairwise_append.1 sorted).2.1).1 g' hb
        omega
  exact candidateIn_eq_none.1 (Option.map_eq_none_iff.1 (hbefore g' hmem)) j hj

theorem candidate_eq_none {s : State} (h : s.candidate = none) (k : Fin 16) : s.groupOf k = none := by
  by_contra hne
  obtain ⟨g, hg⟩ := Option.ne_none_iff_exists'.1 hne
  have hrange := groupOf_range hg
  have := List.findSome?_eq_none_iff.1 h g (mem_groups hrange)
  exact candidateIn_eq_none.1 (Option.map_eq_none_iff.1 this) k hg

/-- A candidate is FREE, in group 1, or it is not blocked and SPOILED or COMPLETE (R14, R15). -/
theorem group_cases {ring : Bool} {f : Frame} {g : Nat} (h : f.group ring = some g) :
    (g = 1 ∧ f.state = .free) ∨ (g ≠ 1 ∧ f.blocked = false ∧ f.state ≠ .free) := by
  unfold Frame.group at h
  split at h
  · exact .inl ⟨(Option.some.inj h).symm, by assumption⟩
  all_goals
    repeat' split at h
    all_goals first | (cases h; done) | (obtain rfl := Option.some.inj h; right; simp_all)

theorem candidate_cases {s : State} {g : Nat} {k : Fin 16} (h : s.candidate = some (g, k)) :
    (g = 1 ∧ (s.frame k).state = .free) ∨ (g ≠ 1 ∧ (s.frame k).blocked = false ∧ (s.frame k).state ≠ .free) := by
  obtain ⟨hg, -⟩ := candidate_spec h
  unfold State.groupOf at hg
  split at hg
  · exact group_cases hg
  · cases hg

/-- The statement's groups are the model's. -/
theorem inGroup_iff {s : State} {g : Nat} {k : Fin 16} : InGroup s g k ↔ s.groupOf k = some g := by
  unfold InGroup State.groupOf Frame.group
  split
  · next hk =>
    simp only [hk, true_and]
    cases (s.frame k).state with
    | free => simp [@eq_comm _ 1 g]
    | exposing => simp
    | readout => simp
    | spoiled => cases (s.frame k).blocked <;> simp [@eq_comm _ 2 g]
    | complete =>
      cases (s.frame k).blocked with
      | true => simp
      | false =>
        cases (s.frame k).kind with
        | dark => simp [@eq_comm _ 3 g]
        | light =>
          cases (s.frame k).settled with
          | true => simp [@eq_comm _ 4 g]
          | false => cases s.setup.retention <;> simp [@eq_comm _ 5 g]
  · next hk => simp [hk]

/-! ### New frame ids (R4) -/

theorem nextIdAfter_toNat (c : Word) : (nextIdAfter c).toNat = c.toNat % (2 ^ 32 - 1) + 1 := by
  unfold nextIdAfter
  split <;> bv_omega

theorem nextIdAfter_ne_zero (c : Word) : nextIdAfter c ≠ 0 := by
  have := nextIdAfter_toNat c
  intro h0
  simp [h0] at this

theorem iterate_nextIdAfter_toNat {c : Word} (h : c ≠ 0) (n : Nat) :
    (nextIdAfter^[n] c).toNat = (c.toNat - 1 + n) % (2 ^ 32 - 1) + 1 := by
  have hc : 0 < c.toNat := Nat.pos_of_ne_zero fun h0 => h (BitVec.eq_of_toNat_eq (by simpa using h0))
  have hlt := c.isLt
  induction n with
  | zero => simp; omega
  | succ n ih =>
    rw [Function.iterate_succ_apply', nextIdAfter_toNat, ih]
    omega

/-- If the search ends at an id that is held, so were all the ids it passed. -/
theorem passHeld_held {held : List Word} {n : Nat} {c : Word} (h : passHeld held n c ∈ held) (i : Nat) (hi : i ≤ n) :
    nextIdAfter^[i] c ∈ held := by
  induction n generalizing c i with
  | zero => obtain rfl : i = 0 := by omega
            exact h
  | succ n ih =>
    simp only [passHeld, List.contains_iff_mem] at h
    split at h
    · next hc =>
      cases i with
      | zero => exact hc
      | succ i => exact ih h i (by omega)
    · next hc => exact absurd h hc

/-- Seventeen ids in a row cannot all be held by sixteen records (R4). -/
theorem passHeld_not_mem {held : List Word} (hlen : held.length ≤ 16) {c : Word} (h : c ≠ 0) :
    passHeld held 17 c ∉ held := by
  intro hmem
  have hinj : Set.InjOn (fun i => nextIdAfter^[i] c) (Finset.range 17) := by
    intro i hi j hj hij
    have hij := congrArg BitVec.toNat hij
    simp only [iterate_nextIdAfter_toNat h, Finset.coe_range, Set.mem_Iio] at hi hj hij
    have := c.isLt
    omega
  have hsub : (Finset.range 17).image (fun i => nextIdAfter^[i] c) ⊆ held.toFinset := by
    intro x hx
    obtain ⟨i, hi, rfl⟩ := Finset.mem_image.1 hx
    exact List.mem_toFinset.2 (passHeld_held hmem i (by have := Finset.mem_range.1 hi; omega))
  have hcard := Finset.card_le_card hsub
  rw [Finset.card_image_of_injOn hinj, Finset.card_range] at hcard
  have := held.toFinset_card_le
  omega

theorem passHeld_ne_zero (held : List Word) (n : Nat) {c : Word} (h : c ≠ 0) : passHeld held n c ≠ 0 := by
  induction n generalizing c with
  | zero => exact h
  | succ n ih =>
    simp only [passHeld]
    split
    · exact ih (nextIdAfter_ne_zero c)
    · exact h

theorem heldIds_length_le (s : State) : s.heldIds.length ≤ 16 := by
  have : (slots.filter fun k => (s.frame k).state != .free).length ≤ slots.length := List.length_filter_le _ _
  simpa [State.heldIds, slots] using this

theorem mem_heldIds {s : State} {id : Word} : id ∈ s.heldIds ↔ ∃ k, (s.frame k).state ≠ .free ∧ (s.frame k).id = id := by
  simp [State.heldIds]

/-! ### What an allocation does (R5, R15 to R17) -/

/-- The second state differs from the first in its frame table alone. -/
def OnlyFrames (s t : State) : Prop := t = s.onStore fun x => { x with frames := t.store.frames }

theorem OnlyFrames.refl (s : State) : OnlyFrames s s := rfl

theorem OnlyFrames.trans {s t u : State} (h : OnlyFrames s t) (g : OnlyFrames t u) : OnlyFrames s u := by
  unfold OnlyFrames at *
  rw [g, h]
  rfl

theorem report_onlyFrames (id : Word) (f : Frame → Frame) (s : State) : OnlyFrames s (report id f s) := by
  unfold report; split <;> rfl

theorem dropLink_onlyFrames (d : DarkState) (s : State) : OnlyFrames s (dropLink d s) := by
  cases d with
  | linked d => exact report_onlyFrames d _ s
  | _ => rfl

/-- Freeing a record touches the frame table alone. -/
theorem freeRecord_onlyFrames (k : Fin 16) (s : State) : OnlyFrames s (freeRecord k s) :=
  OnlyFrames.trans (dropLink_onlyFrames _ s) rfl

/-- The id that an allocation gives. -/
def State.freshId (s : State) : Word := passHeld s.heldIds 17 s.store.nextId

/-- The state once the candidate's slot has been taken back, before its new record is made. -/
def reclaim (g : Nat) (k : Fin 16) (s : State) : State :=
  if g = 5 then raise .overwritten (if g = 1 then s else freeRecord k s) else if g = 1 then s else freeRecord k s

/-- The new record in its slot. -/
def placeRecord (k : Fin 16) (id : Word) (kind : FrameKind) (origin : Origin) (mode : Option ShotMode) (s : State) : State :=
  s.setFrame k (newFrame id kind origin mode s.heldIds.length (s.frame k).changeCount)

/-- The new record in its slot, and the counter moved on. -/
def fillSlot (k : Fin 16) (id : Word) (kind : FrameKind) (origin : Origin) (mode : Option ShotMode) (s : State) : State :=
  (placeRecord k id kind origin mode s).onStore fun t =>
    { t with nextId := passHeld (placeRecord k id kind origin mode s).heldIds 17 (nextIdAfter id) }

@[simp] theorem raise_handoffs (c : Cause) (s : State) : (raise c s).handoffs = s.handoffs := rfl
@[simp] theorem raise_lags (c : Cause) (s : State) : (raise c s).lags = s.lags := rfl

theorem allocate_of_none {s : State} (kind : FrameKind) (origin : Origin) (mode : Option ShotMode)
    (h : s.candidate = none) : allocate kind origin mode s = (raise .storeFull s, none) := by
  simp [allocate, h]

theorem allocate_of_candidate {s : State} (kind : FrameKind) (origin : Origin) (mode : Option ShotMode) {g : Nat}
    {k : Fin 16} (h : s.candidate = some (g, k)) :
    allocate kind origin mode s
      = (fillSlot k s.freshId kind origin mode (reclaim g k s), some (k, s.freshId)) := by
  simp only [allocate, h]
  rfl

/-- What an allocation answers. -/
theorem allocate_cases {kind : FrameKind} {origin : Origin} {mode : Option ShotMode} {s t : State}
    {r : Option (Fin 16 × Word)} (h : allocate kind origin mode s = (t, r)) :
    (s.candidate = none ∧ t = raise .storeFull s ∧ r = none)
      ∨ ∃ g k, s.candidate = some (g, k) ∧ r = some (k, s.freshId)
          ∧ t = fillSlot k s.freshId kind origin mode (reclaim g k s) := by
  cases hc : s.candidate with
  | none => rw [allocate_of_none _ _ _ hc] at h; cases h; exact .inl ⟨rfl, rfl, rfl⟩
  | some c => rw [allocate_of_candidate _ _ _ hc] at h; cases h; exact .inr ⟨_, _, rfl, rfl, rfl⟩

/-- Reclaiming touches the records and, for group 5, the cause set. -/
theorem reclaim_eq (g : Nat) (k : Fin 16) (s : State) : reclaim g k s =
    { s with store := { s.store with frames := (reclaim g k s).store.frames }
             req := { s.req with causes := if g = 5 then s.req.causes ||| Cause.overwritten.bit else s.req.causes } } := by
  unfold reclaim
  split <;> split
  · rfl
  · rw [freeRecord_onlyFrames k s]; rfl
  · rfl
  · exact freeRecord_onlyFrames k s

/-- An allocation touches the records, the counter and, for group 5, the cause set. -/
theorem fillSlot_reclaim_eq (g : Nat) (k : Fin 16) (id : Word) (kind : FrameKind) (origin : Origin)
    (mode : Option ShotMode) (s : State) : fillSlot k id kind origin mode (reclaim g k s) =
    { s with store := { s.store with frames := (fillSlot k id kind origin mode (reclaim g k s)).store.frames
                                     nextId := (fillSlot k id kind origin mode (reclaim g k s)).store.nextId }
             req := { s.req with causes := if g = 5 then s.req.causes ||| Cause.overwritten.bit else s.req.causes } } := by
  unfold fillSlot
  rw [reclaim_eq]
  rfl

/-- The candidate's record once its slot has been taken back. -/
theorem reclaim_frame_same {s : State} {g : Nat} {k : Fin 16} (h : s.candidate = some (g, k)) :
    ((reclaim g k s).frame k).state = .free ∧ ((reclaim g k s).frame k).changeCount = (s.frame k).changeCount := by
  unfold reclaim
  rcases candidate_cases h with ⟨rfl, hfree⟩ | ⟨hg, -⟩
  · simp [hfree]
  · simp only [hg, if_false]
    split <;> simp [Frame.free]

/-- The records once one has become FREE, and the dark that it linked has lost a user (R5, R13). -/
theorem freeRecord_frame_other (s : State) {k j : Fin 16} (h : j ≠ k) : (freeRecord k s).frame j = { s.frame j with
    age := if (s.frame j).state ≠ .free ∧ (s.frame k).age < (s.frame j).age then (s.frame j).age - 1 else (s.frame j).age
    darkUsers := if (s.frame k).darkState.link.bind s.find = some j then (s.frame j).darkUsers - 1
      else (s.frame j).darkUsers } := by
  rw [frame_freeRecord_other s k j h]
  by_cases hl : (s.frame k).darkState.link.bind s.find = some j <;>
    by_cases ha : (s.frame j).state ≠ .free ∧ (s.frame k).age < (s.frame j).age <;>
    simp [Frame.closeRank, Frame.loseUser, hl, ha]

/-- The other records once the candidate's slot has been taken back. -/
theorem reclaim_frame_other {s : State} {g : Nat} {k : Fin 16} (h : s.candidate = some (g, k)) {j : Fin 16} (hj : j ≠ k) :
    (reclaim g k s).frame j = { s.frame j with
      age := if (s.frame k).state ≠ .free ∧ (s.frame j).state ≠ .free ∧ (s.frame k).age < (s.frame j).age
        then (s.frame j).age - 1 else (s.frame j).age
      darkUsers := if (s.frame k).state ≠ .free ∧ (s.frame k).darkState.link.bind s.find = some j
        then (s.frame j).darkUsers - 1 else (s.frame j).darkUsers } := by
  have freed : (reclaim g k s).frame j = if g = 1 then s.frame j else (freeRecord k s).frame j := by
    unfold reclaim; split <;> split <;> rfl
  rw [freed]
  rcases candidate_cases h with ⟨rfl, hfree⟩ | ⟨hg, -, hne⟩
  · simp [hfree]
  · rw [if_neg hg, freeRecord_frame_other s hj]
    simp [hne]

/-- The non-FREE records once the candidate's slot has been taken back. -/
theorem reclaim_heldIds {s : State} {g : Nat} {k : Fin 16} (h : s.candidate = some (g, k)) :
    (reclaim g k s).heldIds
      = (slots.filter fun j => j ≠ k ∧ (s.frame j).state ≠ .free).map fun j => (s.frame j).id := by
  unfold State.heldIds
  have same : ∀ j, ((reclaim g k s).frame j).state ≠ .free ↔ j ≠ k ∧ (s.frame j).state ≠ .free := by
    intro j
    by_cases hj : j = k
    · subst hj; simp [(reclaim_frame_same h).1]
    · rw [reclaim_frame_other h hj]; simp [hj]
  rw [List.filter_congr (q := fun j => decide (j ≠ k ∧ (s.frame j).state ≠ .free))
    fun j _ => by rw [Bool.eq_iff_iff, bne_iff_ne, decide_eq_true_eq]; exact same j]
  refine List.map_congr_left fun j hj => ?_
  rw [reclaim_frame_other h (by simpa using (List.mem_filter.1 hj).2 : j ≠ k ∧ _).1]

theorem fillSlot_frame (k j : Fin 16) (id : Word) (kind : FrameKind) (origin : Origin) (mode : Option ShotMode) (s : State) :
    (fillSlot k id kind origin mode s).frame j =
      if j = k then newFrame id kind origin mode s.heldIds.length (s.frame k).changeCount else s.frame j :=
  State.frame_setFrame s k j _

theorem freshId_ne_zero {s : State} (h : s.store.nextId ≠ 0) : s.freshId ≠ 0 := passHeld_ne_zero _ _ h

theorem freshId_not_held {s : State} (h : s.store.nextId ≠ 0) (j : Fin 16) (hj : (s.frame j).state ≠ .free) :
    (s.frame j).id ≠ s.freshId := fun he =>
  passHeld_not_mem (heldIds_length_le s) h (mem_heldIds.2 ⟨j, hj, he⟩)

theorem fillSlot_nextId_ne_zero (k : Fin 16) (id : Word) (kind : FrameKind) (origin : Origin) (mode : Option ShotMode)
    (s : State) : (fillSlot k id kind origin mode s).store.nextId ≠ 0 :=
  passHeld_ne_zero _ _ (nextIdAfter_ne_zero id)

theorem fillSlot_nextId_not_held (k : Fin 16) (id : Word) (kind : FrameKind) (origin : Origin) (mode : Option ShotMode)
    (s : State) (j : Fin 16) (hj : ((fillSlot k id kind origin mode s).frame j).state ≠ .free) :
    ((fillSlot k id kind origin mode s).frame j).id ≠ (fillSlot k id kind origin mode s).store.nextId := fun he =>
  passHeld_not_mem (heldIds_length_le _) (nextIdAfter_ne_zero id) (mem_heldIds.2 ⟨j, hj, he⟩)

/-- The cause an allocation from group `g` raises (R15, R17). -/
theorem fillSlot_reclaim_causes (g : Nat) (k : Fin 16) (id : Word) (kind : FrameKind) (origin : Origin)
    (mode : Option ShotMode) (s : State) : (fillSlot k id kind origin mode (reclaim g k s)).req.causes
      = if g = 5 then s.req.causes ||| Cause.overwritten.bit else s.req.causes := by
  rw [fillSlot_reclaim_eq]

/-- An allocation leaves every part but the records, the store's counter and the causes alone. -/
theorem keeps_fillSlot_reclaim (g : Nat) (k : Fin 16) (id : Word) (kind : FrameKind) (origin : Origin)
    (mode : Option ShotMode) (s : State) :
    Keeps [.records, .store, .causes, .sent] s (fillSlot k id kind origin mode (reclaim g k s)) := by
  intro p hp
  rw [fillSlot_reclaim_eq]
  cases p
  case records | store | causes | sent => simp at hp
  case due => exact ⟨fun _ h => h, fun h => h, fun h => h⟩
  case card => rfl
  case dram => exact fun _ => rfl
  all_goals simp [Part.Same]

/-- Settles O4: the groups are searched in order, and each for its least rank. -/
theorem allocationTakesTheFirstCandidate : Obligations.AllocationTakesTheFirstCandidate := by
  unfold Obligations.AllocationTakesTheFirstCandidate
  intro s t kind origin mode r h
  simp only [inGroup_iff]
  rcases allocate_cases h with ⟨hc, rfl, rfl⟩ | ⟨g, k, hc, rfl, rfl⟩
  · refine ⟨by simp, fun _ => ⟨fun g j hj => by simp [candidate_eq_none hc j] at hj, rfl, ?_⟩⟩
    intro p hp
    cases p
    case causes | sent => simp at hp
    case due => exact ⟨fun _ h => h, fun h => h, fun h => h⟩
    case records => exact fun _ => rfl
    case dram => exact fun _ => rfl
    all_goals simp [Part.Same]
  · refine ⟨fun k' id hr => ?_, by simp⟩
    cases hr
    obtain ⟨hgroup, hfirst, hleast⟩ := candidate_spec hc
    refine ⟨g, hgroup, fun g' j => hfirst j g', fun j hj => ?_, fillSlot_reclaim_causes g k _ kind origin mode s⟩
    have := hleast j hj
    unfold State.candidateRank at this
    split at this
    · next h1 => rw [if_pos h1]; exact this
    · next h1 => rw [if_neg h1]; exact this

/-- Settles O5: the id is the first from the counter on that no record holds, and reclaiming closes up the ranks. -/
theorem allocationGivesANewId : Obligations.AllocationGivesANewId := by
  unfold Obligations.AllocationGivesANewId
  intro s t kind origin mode k id h0 h
  rcases allocate_cases h with ⟨-, -, hr⟩ | ⟨g, k', hc, hr, rfl⟩
  · cases hr
  · cases hr
    refine ⟨freshId_ne_zero h0, fun j => freshId_not_held h0 j, fun hfree => ?_, ?_, fillSlot_nextId_ne_zero _ _ _ _ _ _,
      fillSlot_nextId_not_held _ _ _ _ _ _, fun j hj => ?_, ?_, ?_, keeps_fillSlot_reclaim g k _ kind origin mode s⟩
    · have : s.store.nextId ∉ s.heldIds := fun hm => by
        obtain ⟨j, hj, he⟩ := mem_heldIds.1 hm
        exact hfree j hj he
      simp [State.freshId, passHeld, this]
    · rw [fillSlot_frame, if_pos rfl, reclaim_heldIds hc, List.length_map, (reclaim_frame_same hc).2]
    · rw [fillSlot_frame, if_neg hj, reclaim_frame_other hc hj]
    · rw [fillSlot_reclaim_eq]
    · rw [fillSlot_reclaim_eq]

end Sys2Proof.Machine

namespace Sys2Proof.Machine

/-! ### The requests on frame records (R19 to R21)

A decision that leaves the port alone is answered settled; what the step keeps, what it awaits and what the record
becomes are read off the decision. -/

/-- The state in which a request's owner decides. -/
abbrev State.deciding (s : State) : State := beginDecision s.quiet

/-- A step whose decision keeps the parts outside `changed` keeps them too. -/
theorem keeps_settle_endDecision {changed : List Part} {s : State} {r : State × Option ResultCode}
    (h : Keeps changed s r.1) (ha : .answer ∈ changed) : Keeps changed s (settle s (endDecision s.deciding r)) := by
  intro p hp
  have hk := h p hp
  cases p
  case answer => exact absurd ha hp
  case due =>
    obtain ⟨hmirror, hqueue, hstatus⟩ := hk
    refine ⟨fun k m => (mem_settle_mirrorDue _ _ _).2 (.inl (hmirror k m)), fun m => ?_, fun m => ?_⟩
    · simp [hqueue m]
    · simp [hstatus m]
  case card => exact hk
  all_goals exact hk

theorem keeps_deciding (s : State) : Keeps [.answer] s s.deciding := by
  intro p hp
  cases p
  case answer => simp at hp
  case due => exact ⟨fun _ h => h, fun h => h, fun h => h⟩
  case records => exact fun _ => rfl
  case dram => exact fun _ => rfl
  all_goals simp [Part.Same]

theorem Keeps.mono {a b : List Part} {s t : State} (h : Keeps a s t) (hab : a ⊆ b) : Keeps b s t :=
  fun p hp => h p fun hm => hp (hab hm)

/-- A decision that changes records alone keeps every other part. -/
theorem keeps_of_onlyFrames {changed : List Part} {s t u : State} (h : Keeps changed s t) (g : OnlyFrames t u)
    (hr : .records ∈ changed) : Keeps changed s u := by
  intro p hp
  have hk := h p hp
  rw [g]
  cases p
  case records => exact absurd hr hp
  all_goals exact hk

theorem setFrame_onlyFrames (k : Fin 16) (f : Frame) (s : State) : OnlyFrames s (s.setFrame k f) := rfl

/-- Records whose change counts stay have their mirror writes due and awaited where they changed (R23). -/
theorem awaits_settle_endDecision {s : State} {r : State × Option ResultCode}
    (h : ∀ k, (r.1.frame k).changeCount = (s.frame k).changeCount) : Awaits s (settle s (endDecision s.deciding r)) := by
  intro k hk
  have hne : (s.frame k).content ≠ (r.1.frame k).content := by
    intro he
    apply hk
    have := congrArg (fun f : Frame => { f with changeCount := (s.frame k).changeCount }) he
    simp only [Frame.content, settle_frame, endDecision_frame] at this ⊢
    rw [← h k] at this
    exact this.symm.trans (by rw [h k])
  exact ⟨(mem_settle_mirrorDue _ _ _).2 (.inr hne), (mem_endDecision_waits _ _ _).2 (.inr hne)⟩

/-- A request whose decision leaves the port alone yields the decision, settled. -/
theorem yields_request {i : Instr} {d : State → State × Option ResultCode} {s : State} {P : State → Prop} (hs : s.Awake)
    (hi : exec i s = request i d s) (ha : s.asks i = true) (hv : (d s.deciding).1.develop.service = s.develop.service)
    (hp : (d s.deciding).1.path.port = s.path.port) (h : P (settle s (endDecision s.deciding (d s.deciding)))) :
    Yields i s P :=
  ⟨_, hi.trans (request_keeps_port hs ha hv hp), h⟩

/-- A refused request answers its code and changes nothing else (R179). -/
theorem yields_refuse {i : Instr} {d : State → State × Option ResultCode} {s : State} (hs : s.Awake)
    (hi : exec i s = request i d s) (ha : s.asks i = true) {c : ResultCode} (hd : d s.deciding = refuse c s.deciding) :
    Yields i s fun t => t.req.answer = some c ∧ Keeps [.answer] s t := by
  refine yields_request hs hi ha (by rw [hd]; rfl) (by rw [hd]; rfl) ?_
  rw [hd]
  exact ⟨rfl, keeps_settle_endDecision (keeps_deciding s) (by simp)⟩

/-- A request that changes records alone. -/
theorem yields_onlyFrames {i : Instr} {d : State → State × Option ResultCode} {s : State} {P : State → Prop} (hs : s.Awake)
    (hi : exec i s = request i d s) (ha : s.asks i = true) {u : State} (hd : d s.deciding = accept u)
    (hu : OnlyFrames s.deciding u) (hcount : ∀ k, (u.frame k).changeCount = (s.frame k).changeCount)
    (h : ∀ t, (∀ k, t.frame k = u.frame k) → t.req.answer = some .ok → Awaits s t → Keeps [.records, .answer] s t → P t) : Yields i s P := by
  refine yields_request hs hi ha (by rw [hd, hu]; rfl) (by rw [hd, hu]; rfl) ?_
  rw [hd]
  exact h _ (fun _ => rfl) rfl (awaits_settle_endDecision hcount)
    (keeps_settle_endDecision (keeps_of_onlyFrames ((keeps_deciding s).mono (by simp)) hu (by simp)) (by simp))

/-! #### KEEP, UNKEEP and SETTLE -/

theorem onRecord_of_none {s : State} {id : Word} {d : Fin 16 → State → State × Option ResultCode} (h : s.find id = none) :
    onRecord id d s = refuse .noFrame s := by
  simp [onRecord, h]

theorem onRecord_of_some {s : State} {id : Word} {k : Fin 16} {d : Fin 16 → State → State × Option ResultCode}
    (h : s.find id = some k) : onRecord id d s = d k s := by
  simp [onRecord, h]

/-- A record with a mark changed is the record with that mark and nothing else changed. -/
theorem yields_setFrame {i : Instr} {d : State → State × Option ResultCode} {s : State} {P : State → Prop} (hs : s.Awake)
    (hi : exec i s = request i d s) (ha : s.asks i = true) {k : Fin 16} {f : Frame}
    (hd : d s.deciding = accept (s.deciding.setFrame k f)) (hcount : f.changeCount = (s.frame k).changeCount)
    (h : ∀ t, t.frame k = f → SameBut k s t → t.req.answer = some .ok → Awaits s t → Keeps [.records, .answer] s t → P t) :
    Yields i s P := by
  have hframe : ∀ j, (s.deciding.setFrame k f).frame j = if j = k then f else s.frame j :=
    fun j => State.frame_setFrame _ k j f
  refine yields_onlyFrames hs hi ha hd (setFrame_onlyFrames k f _) (fun j => ?_) fun t ht => h t ?_ ?_
  · rw [hframe]; split
    · next he => rw [hcount, he]
    · rfl
  · rw [ht, hframe, if_pos rfl]
  · intro j hj; rw [ht, hframe, if_neg hj]

/-- A kept record is blocked (R14). -/
theorem blocked_of_keep {f : Frame} (h : f.keep = true) : f.blocked = true := by simp [Frame.blocked, h]

/-- No allocation takes a blocked record that is not FREE (R15). -/
theorem allocate_ne_of_blocked {s : State} {k : Fin 16} (hb : (s.frame k).blocked = true) (hf : (s.frame k).state ≠ .free)
    (kind : FrameKind) (origin : Origin) (mode : Option ShotMode) :
    (allocate kind origin mode s).2.all fun r => r.1 ≠ k := by
  cases hc : s.candidate with
  | none => simp [allocate_of_none _ _ _ hc]
  | some c =>
    obtain ⟨g, j⟩ := c
    rw [allocate_of_candidate _ _ _ hc]
    have : j ≠ k := by
      rintro rfl
      rcases candidate_cases hc with ⟨-, h⟩ | ⟨-, h, -⟩
      · exact hf h
      · simp [hb] at h
    simpa using this

/-- Settles O1. -/
theorem keepAndUnkeepMarkTheRecord : Obligations.KeepAndUnkeepMarkTheRecord := by
  unfold Obligations.KeepAndUnkeepMarkTheRecord
  intro s id hs
  refine ⟨fun ha k hk => ?_, fun ha k hk => ?_, fun hn => ⟨fun ha => ?_, fun ha => ?_⟩⟩
  · refine yields_setFrame hs rfl ha (onRecord_of_some hk) rfl fun t hkept hother hanswer hawaits hkeeps => ?_
    have hblocked : (t.frame k).blocked = true := blocked_of_keep (by rw [hkept])
    have hheld : (t.frame k).state ≠ .free := by rw [hkept]; exact (find_spec hk).2.1
    exact ⟨hkept, hother, hanswer, hblocked, allocate_ne_of_blocked hblocked hheld, hawaits, hkeeps⟩
  · refine yields_setFrame hs rfl ha (onRecord_of_some hk) rfl fun t hunkept hother hanswer hawaits hkeeps => ?_
    refine ⟨hunkept, hother, hanswer, fun hflight hview hcard husers hawait hdark => ?_, hawaits, hkeeps⟩
    rw [hunkept]
    unfold Frame.inFlight at hflight
    simp [Frame.blocked, Frame.inFlight, hview, hcard, husers, hawait, hdark, hflight]
  · exact yields_refuse hs rfl ha (onRecord_of_none hn)
  · exact yields_refuse hs rfl ha (onRecord_of_none hn)

/-- A settled COMPLETE record that is not blocked is in group 3 as a DARK record and in group 4 as a LIGHT one (R15). -/
theorem group_of_settled {f : Frame} (ring : Bool) (hc : f.state = .complete) (hb : f.blocked = false)
    (hs : f.settled = true) : f.group ring = some (if f.kind = .dark then 3 else 4) := by
  simp only [Frame.group, hc, hb, hs, Bool.false_eq_true, if_false, if_true]
  split <;> rfl

/-- Settles O2. -/
theorem settleMarksACompleteRecord : Obligations.SettleMarksACompleteRecord := by
  unfold Obligations.SettleMarksACompleteRecord
  intro s id hs ha
  refine ⟨fun k hk hc => ?_, fun k hk hc => ?_, fun hn => yields_refuse hs rfl ha (onRecord_of_none hn)⟩
  · have hd : onRecord id decideSettle s.deciding
        = accept (s.deciding.setFrame k { s.frame k with settled := true }) := by
      rw [onRecord_of_some (by exact hk)]
      exact if_neg (by simpa using hc)
    refine yields_setFrame hs rfl ha hd rfl fun t hset hother hanswer hawaits hkeeps => ?_
    refine ⟨hset, hother, hanswer, fun hb ring => ?_, hawaits, hkeeps⟩
    rw [hset]
    exact group_of_settled ring hc hb rfl
  · refine yields_refuse hs rfl ha ?_
    rw [onRecord_of_some (by exact hk)]
    exact if_pos hc

/-! #### DISCARD -/

/-- The first check that applies is the only result of a list of checks. -/
theorem firstOf_unique {l : List (Prop × ResultCode)} {a b : Option ResultCode} (ha : FirstOf l a) (hb : FirstOf l b) :
    a = b := by
  induction l with
  | nil => exact ha.trans hb.symm
  | cons c l ih =>
    rcases ha with ⟨hp, ha⟩ | ⟨hp, ha⟩ <;> rcases hb with ⟨hq, hb⟩ | ⟨hq, hb⟩
    · rw [ha, hb]
    · exact absurd hp hq
    · exact absurd hq hp
    · exact ih ha hb

/-- The model's check is the first of the statement's that applies (R21). -/
theorem firstOf_discardChecks (f : Frame) : FirstOf (discardChecks f) f.discardCheck := by
  have h1 : (f.inFlight || f.awaitDark) = true ↔ f.state = .exposing ∨ f.state = .readout ∨ f.awaitDark = true := by
    simp [Frame.inFlight, or_assoc]
  have h2 : (decide (0 < f.viewPins) || decide (0 < f.cardPins) || decide (0 < f.darkUsers) || f.darkState == .pending) = true
      ↔ 0 < f.viewPins ∨ 0 < f.cardPins ∨ 0 < f.darkUsers ∨ f.darkState = .pending := by
    simp [or_assoc]
  unfold discardChecks FirstOf Frame.discardCheck FirstOf FirstOf FirstOf
  rw [← h1, ← h2]
  split
  · next h => exact .inl ⟨h, rfl⟩
  · next h =>
    refine .inr ⟨h, ?_⟩
    split
    · next h => exact .inl ⟨h, rfl⟩
    · next h =>
      refine .inr ⟨h, ?_⟩
      split
      · next h => exact .inl ⟨h, rfl⟩
      · next h => exact .inr ⟨h, rfl⟩

/-- Settles O3. -/
theorem discardFreesAnUnheldRecord : Obligations.DiscardFreesAnUnheldRecord := by
  unfold Obligations.DiscardFreesAnUnheldRecord
  intro s id hs ha
  refine ⟨fun hn => yields_refuse hs rfl ha (onRecord_of_none hn), fun k hk => ⟨fun c hc => ?_, fun hc => ?_⟩⟩
  · refine yields_refuse hs rfl ha ?_
    have hcheck : (s.deciding.frame k).discardCheck = some c := firstOf_unique (firstOf_discardChecks _) hc
    rw [onRecord_of_some (by exact hk)]
    simp only [decideDiscard, hcheck]
  · have hcheck : (s.deciding.frame k).discardCheck = none := firstOf_unique (firstOf_discardChecks _) hc
    have hd : onRecord id decideDiscard s.deciding = accept (freeRecord k s.deciding) := by
      rw [onRecord_of_some (by exact hk)]
      simp only [decideDiscard, hcheck]
    have hcount : ∀ j, ((freeRecord k s.deciding).frame j).changeCount = (s.frame j).changeCount := by
      intro j
      by_cases hj : j = k
      · subst hj; rw [frame_freeRecord_same]; rfl
      · rw [freeRecord_frame_other _ hj]; rfl
    refine yields_onlyFrames hs rfl ha hd (freeRecord_onlyFrames k _) hcount fun t ht hanswer hawaits hkeeps => ?_
    have hfree : t.frame k = Frame.free (s.frame k).changeCount := by rw [ht, frame_freeRecord_same]; rfl
    refine ⟨hfree, by simp [State.protectedSlot, hfree, Frame.free], fun j hj => ?_, hanswer, hawaits, hkeeps⟩
    rw [ht, freeRecord_frame_other _ hj]
    rfl

end Sys2Proof.Machine

namespace Sys2Proof.Machine

/-! ### The record table by itself

What the invariants of the record table (R4, R5, R6, R11, R13) speak of, taken out of the state: the operations of the
machine change it in a dozen ways, and each of them is shown here, once, to keep it consistent. -/

/-- What the table's invariants read of a record: its state, EXPOSING standing for any record in flight, its id, kind and
rank, and its holds. -/
structure Row where
  state : FrameState
  id : Word
  kind : FrameKind
  darkState : DarkState
  awaitDark : Bool
  darkUsers : Nat
  viewPins : Nat
  cardPins : Nat
  age : Nat

/-- The record table with what refers to its records: the ids that OPEN views and WRITE_FRAME jobs pin, one entry for
each pin, the light frame of an AUTO job, and the frames on their way to their dark decision. -/
structure Tab where
  rows : Fin 16 → Row
  nextId : Word
  lodged : Option (Word × Word)
  viewed : List Word
  carded : List Word
  light : Option Word
  undecided : List Word

/-- The record is not FREE and holds the id. -/
def Row.Names (r : Row) (id : Word) : Prop := r.state ≠ .free ∧ r.id = id

/-- The record is COMPLETE and waits for a dark. -/
def Row.Waiting (r : Row) : Prop := r.state = .complete ∧ r.darkState = .pending ∧ r.awaitDark = false

/-- The records that are not FREE. -/
def Tab.live (T : Tab) : Finset (Fin 16) := Finset.univ.filter fun k => (T.rows k).state ≠ .free

/-- The records LINKED to an id (R13). -/
def Tab.linkers (T : Tab) (id : Word) : Finset (Fin 16) :=
  Finset.univ.filter fun k => (T.rows k).state ≠ .free ∧ (T.rows k).darkState = .linked id

/-- The consistency of the table, but for what it says of the shot in flight. -/
structure Tab.Core (T : Tab) : Prop where
  nextId : T.nextId ≠ 0
  id_ne_zero : ∀ k, (T.rows k).state ≠ .free → (T.rows k).id ≠ 0
  id_inj : ∀ j k, (T.rows j).state ≠ .free → (T.rows k).state ≠ .free → (T.rows j).id = (T.rows k).id → j = k
  rank_inj : ∀ j k, (T.rows j).state ≠ .free → (T.rows k).state ≠ .free → (T.rows j).age = (T.rows k).age → j = k
  rank_lt : ∀ k, (T.rows k).state ≠ .free → (T.rows k).age < T.live.card
  viewPins : ∀ k, (T.rows k).state ≠ .free → (T.rows k).viewPins = T.viewed.count (T.rows k).id
  cardPins : ∀ k, (T.rows k).state ≠ .free → (T.rows k).cardPins = T.carded.count (T.rows k).id
  viewed : ∀ id ∈ T.viewed, ∃ k, (T.rows k).Names id
  carded : ∀ id ∈ T.carded, ∃ k, (T.rows k).Names id
  users : ∀ k, (T.rows k).state ≠ .free → (T.rows k).darkUsers = (T.linkers (T.rows k).id).card
  linked : ∀ j d, (T.rows j).state ≠ .free → (T.rows j).darkState = .linked d →
    (T.rows j).state = .complete ∧ (T.rows j).awaitDark = false
      ∧ ∃ k, (T.rows k).Names d ∧ (T.rows k).state = .complete ∧ (T.rows k).kind = .dark
  lodged : ∀ d l, T.lodged = some (d, l) → (∃ k, (T.rows k).Names l ∧ (T.rows k).Waiting)
    ∧ ∃ k, (T.rows k).Names d ∧ (T.rows k).state = .exposing ∧ (T.rows k).kind = .dark
  light : ∀ l, T.light = some l → ∃ k, (T.rows k).Names l ∧ (T.rows k).Waiting
  nodup : T.undecided.Nodup
  undecided : ∀ id ∈ T.undecided,
    ∃ k, (T.rows k).Names id ∧ (T.rows k).state = .complete ∧ (T.rows k).awaitDark = true

variable {T U : Tab}

/-- The name of a record is its own (R4). -/
theorem Tab.Core.names_inj (h : T.Core) {j k : Fin 16} {id : Word} (hj : (T.rows j).Names id) (hk : (T.rows k).Names id) :
    j = k := h.id_inj j k hj.1 hk.1 (hj.2.trans hk.2.symm)

theorem Tab.mem_live {k : Fin 16} : k ∈ T.live ↔ (T.rows k).state ≠ .free := by simp [Tab.live]

theorem Tab.mem_linkers {id : Word} {k : Fin 16} :
    k ∈ T.linkers id ↔ (T.rows k).state ≠ .free ∧ (T.rows k).darkState = .linked id := by simp [Tab.linkers]

/-- Two tables hold the same records by id and rank: nothing was allocated or freed. -/
structure Tab.Like (T U : Tab) : Prop where
  nextId : U.nextId = T.nextId
  live : ∀ k, (U.rows k).state ≠ .free ↔ (T.rows k).state ≠ .free
  id : ∀ k, (U.rows k).id = (T.rows k).id
  age : ∀ k, (U.rows k).age = (T.rows k).age

theorem Tab.Like.names (l : T.Like U) (k : Fin 16) (i : Word) : (U.rows k).Names i ↔ (T.rows k).Names i := by
  rw [Row.Names, Row.Names, l.live, l.id]

theorem Tab.Like.live_eq (l : T.Like U) : U.live = T.live :=
  Finset.ext fun k => by rw [Tab.mem_live, Tab.mem_live, l.live]

/-- What is left to show of a table whose records are the same by id and rank. -/
theorem Tab.Core.of_like (h : T.Core) (l : T.Like U)
    (viewPins : ∀ k, (T.rows k).state ≠ .free → (U.rows k).viewPins = U.viewed.count (T.rows k).id)
    (cardPins : ∀ k, (T.rows k).state ≠ .free → (U.rows k).cardPins = U.carded.count (T.rows k).id)
    (viewed : ∀ id ∈ U.viewed, ∃ k, (T.rows k).Names id) (carded : ∀ id ∈ U.carded, ∃ k, (T.rows k).Names id)
    (users : ∀ k, (T.rows k).state ≠ .free → (U.rows k).darkUsers = (U.linkers (T.rows k).id).card)
    (linked : ∀ j d, (T.rows j).state ≠ .free → (U.rows j).darkState = .linked d →
      (U.rows j).state = .complete ∧ (U.rows j).awaitDark = false
        ∧ ∃ k, (T.rows k).Names d ∧ (U.rows k).state = .complete ∧ (U.rows k).kind = .dark)
    (lodged : ∀ d i, U.lodged = some (d, i) → (∃ k, (T.rows k).Names i ∧ (U.rows k).Waiting)
      ∧ ∃ k, (T.rows k).Names d ∧ (U.rows k).state = .exposing ∧ (U.rows k).kind = .dark)
    (light : ∀ i, U.light = some i → ∃ k, (T.rows k).Names i ∧ (U.rows k).Waiting)
    (nodup : U.undecided.Nodup)
    (undecided : ∀ id ∈ U.undecided,
      ∃ k, (T.rows k).Names id ∧ (U.rows k).state = .complete ∧ (U.rows k).awaitDark = true) : U.Core where
  nextId := l.nextId ▸ h.nextId
  id_ne_zero k hk := by rw [l.id]; exact h.id_ne_zero k ((l.live k).1 hk)
  id_inj j k hj hk := by rw [l.id, l.id]; exact h.id_inj j k ((l.live j).1 hj) ((l.live k).1 hk)
  rank_inj j k hj hk := by rw [l.age, l.age]; exact h.rank_inj j k ((l.live j).1 hj) ((l.live k).1 hk)
  rank_lt k hk := by rw [l.age, l.live_eq]; exact h.rank_lt k ((l.live k).1 hk)
  viewPins k hk := by rw [l.id]; exact viewPins k ((l.live k).1 hk)
  cardPins k hk := by rw [l.id]; exact cardPins k ((l.live k).1 hk)
  viewed i hi := by simpa only [l.names] using viewed i hi
  carded i hi := by simpa only [l.names] using carded i hi
  users k hk := by rw [l.id]; exact users k ((l.live k).1 hk)
  linked j d hj hd := by simpa only [l.names] using linked j d ((l.live j).1 hj) hd
  lodged d i hd := by simpa only [l.names] using lodged d i hd
  light i hi := by simpa only [l.names] using light i hi
  nodup := nodup
  undecided i hi := by simpa only [l.names] using undecided i hi

/-- Record `k` is replaced by `r`, the others stay. -/
def Tab.Replaced (T U : Tab) (k : Fin 16) (r : Row) : Prop := U.rows = Function.update T.rows k r

theorem Tab.Replaced.rows {k : Fin 16} {r : Row} (h : T.Replaced U k r) (j : Fin 16) :
    U.rows j = if j = k then r else T.rows j := by
  rw [h, Function.update_apply]

/-- Replacing a record by one of the same id and rank. -/
theorem Tab.Replaced.like {k : Fin 16} {r : Row} (h : T.Replaced U k r) (hn : U.nextId = T.nextId)
    (hk : (T.rows k).state ≠ .free) (hr : r.state ≠ .free) (hid : r.id = (T.rows k).id) (hage : r.age = (T.rows k).age) :
    T.Like U where
  nextId := hn
  live j := by rw [h.rows]; split <;> simp_all
  id j := by rw [h.rows]; split <;> simp_all
  age j := by rw [h.rows]; split <;> simp_all

/-- A replaced record that links as before changes nobody's users. -/
theorem Tab.Replaced.linkers {k : Fin 16} {r : Row} (h : T.Replaced U k r) (hk : (T.rows k).state ≠ .free)
    (hr : r.state ≠ .free) (hd : r.darkState = (T.rows k).darkState) (id : Word) : U.linkers id = T.linkers id :=
  Finset.ext fun j => by rw [Tab.mem_linkers, Tab.mem_linkers, h.rows]; split <;> simp_all

/-- What a record that now links `d`, and linked nothing before, does to the users (R13). -/
theorem Tab.card_linkers_of_link {k : Fin 16} {d : Word} (hk : (U.rows k).state ≠ .free ∧ (U.rows k).darkState = .linked d)
    (hT : ∀ i, (T.rows k).darkState ≠ .linked i)
    (ho : ∀ j, j ≠ k → ((U.rows j).state ≠ .free ↔ (T.rows j).state ≠ .free) ∧ (U.rows j).darkState = (T.rows j).darkState)
    (id : Word) : (U.linkers id).card = (T.linkers id).card + if id = d then 1 else 0 := by
  split
  · next h =>
    subst h
    have : U.linkers id = insert k (T.linkers id) := by
      ext j; simp only [Finset.mem_insert, Tab.mem_linkers]; grind
    rw [this, Finset.card_insert_of_notMem (by simp [Tab.mem_linkers, hT])]
  · next h =>
    have : U.linkers id = T.linkers id := by
      ext j; simp only [Tab.mem_linkers]; grind
    rw [this, Nat.add_zero]

/-- A record in flight is spoiled, and the link lodged with it is dropped (R7, R109). -/
theorem Tab.Core.spoil (h : T.Core) {k : Fin 16} (hk : (T.rows k).state = .exposing)
    (hr : T.Replaced U k { T.rows k with state := .spoiled }) (hn : U.nextId = T.nextId) (hv : U.viewed = T.viewed)
    (hc : U.carded = T.carded) (hl : ∀ d i, U.lodged = some (d, i) → T.lodged = some (d, i) ∧ d ≠ (T.rows k).id)
    (hi : U.light = T.light) (hu : U.undecided = T.undecided) : U.Core := by
  have rows := hr.rows
  have l : T.Like U := hr.like hn (by simp [hk]) (by simp) rfl rfl
  have linkers := hr.linkers (by simp [hk]) (by simp) rfl
  refine h.of_like l ?_ ?_ (hv ▸ h.viewed) (hc ▸ h.carded) ?_ ?_ ?_ ?_ (hu ▸ h.nodup) ?_
  · grind [h.viewPins]
  · grind [h.cardPins]
  · grind [h.users]
  · grind [h.linked]
  · grind [h.lodged, Row.Waiting, Row.Names]
  · grind [h.light, Row.Waiting]
  · grind [h.undecided]

/-- A LIGHT record in readout completes and is on its way to its dark decision (R13, R100). -/
theorem Tab.Core.completeLight (h : T.Core) {k : Fin 16} (hk : (T.rows k).state = .exposing)
    (hkind : (T.rows k).kind = .light) (hr : T.Replaced U k { T.rows k with state := .complete, awaitDark := true })
    (hn : U.nextId = T.nextId) (hv : U.viewed = T.viewed) (hc : U.carded = T.carded) (hl : U.lodged = T.lodged)
    (hi : U.light = T.light) (hu : U.undecided.Perm ((T.rows k).id :: T.undecided)) : U.Core := by
  have rows := hr.rows
  have l : T.Like U := hr.like hn (by simp [hk]) (by simp) rfl rfl
  have linkers := hr.linkers (by simp [hk]) (by simp) rfl
  have fresh : (T.rows k).id ∉ T.undecided := by grind [h.undecided, Row.Names, h.id_inj]
  have mem : ∀ i ∈ U.undecided, i = (T.rows k).id ∨ i ∈ T.undecided := fun i hi => by simpa using hu.mem_iff.1 hi
  refine h.of_like l ?_ ?_ (hv ▸ h.viewed) (hc ▸ h.carded) ?_ ?_ ?_ ?_ (hu.nodup_iff.2 (h.nodup.cons fresh)) ?_
  · grind [h.viewPins]
  · grind [h.cardPins]
  · grind [h.users]
  · grind [h.linked]
  · grind [h.lodged, Row.Waiting, Row.Names]
  · grind [h.light, Row.Waiting]
  · grind [h.undecided, Row.Names]

/-- A DARK record in readout completes with no link lodged with it (R100). -/
theorem Tab.Core.completeDark (h : T.Core) {k : Fin 16} (hk : (T.rows k).state = .exposing)
    (hlod : ∀ i, T.lodged ≠ some ((T.rows k).id, i)) (hr : T.Replaced U k { T.rows k with state := .complete })
    (hn : U.nextId = T.nextId) (hv : U.viewed = T.viewed) (hc : U.carded = T.carded) (hl : U.lodged = T.lodged)
    (hi : ∀ i, U.light = some i → T.light = some i) (hu : U.undecided = T.undecided) : U.Core := by
  have rows := hr.rows
  have l : T.Like U := hr.like hn (by simp [hk]) (by simp) rfl rfl
  have linkers := hr.linkers (by simp [hk]) (by simp) rfl
  refine h.of_like l ?_ ?_ (hv ▸ h.viewed) (hc ▸ h.carded) ?_ ?_ ?_ ?_ (hu ▸ h.nodup) ?_
  · grind [h.viewPins]
  · grind [h.cardPins]
  · grind [h.users]
  · grind [h.linked]
  · grind [h.lodged, Row.Waiting, Row.Names]
  · grind [h.light, Row.Waiting]
  · grind [h.undecided]

/-- A DARK record in readout completes, and the light frame that awaits it is linked to it (R109). -/
theorem Tab.Core.completeDarkLinked (h : T.Core) {k j : Fin 16} {i : Word} (hk : (T.rows k).state = .exposing)
    (hkind : (T.rows k).kind = .dark) (hlod : T.lodged = some ((T.rows k).id, i)) (hj : (T.rows j).Names i)
    (rows : ∀ m, U.rows m = if m = j then { T.rows j with darkState := .linked (T.rows k).id, awaitDark := false }
      else if m = k then { T.rows k with state := .complete, darkUsers := 1 } else T.rows m)
    (hn : U.nextId = T.nextId) (hv : U.viewed = T.viewed) (hc : U.carded = T.carded) (hl : U.lodged = none)
    (hi : U.light = none) (hu : U.undecided = T.undecided) : U.Core := by
  obtain ⟨⟨j', hj', hwait⟩, -⟩ := h.lodged _ _ hlod
  obtain rfl := h.names_inj hj hj'
  have hjk : j ≠ k := by rintro rfl; simp [hwait.1] at hk
  have l : T.Like U := by constructor <;> grind [Row.Waiting]
  have none_linked : T.linkers (T.rows k).id = ∅ := by
    refine Finset.eq_empty_of_forall_notMem fun m hm => ?_
    grind [h.linked, Tab.mem_linkers, Row.Names, h.id_inj]
  have linkers := Tab.card_linkers_of_link (T := T) (U := U) (k := j) (d := (T.rows k).id)
    (by grind [Row.Waiting]) (by grind [Row.Waiting]) (by grind)
  refine h.of_like l ?_ ?_ (hv ▸ h.viewed) (hc ▸ h.carded) ?_ ?_ ?_ ?_ (hu ▸ h.nodup) ?_
  · grind [h.viewPins]
  · grind [h.cardPins]
  · intro m hm
    rw [linkers]
    grind [h.users, h.id_inj]
  · grind [h.linked, Row.Waiting, Row.Names]
  · simp [hl]
  · simp [hi]
  · grind [h.undecided, Row.Waiting]

/-- The decision for a light frame that needs no dark, or for which none can be had (R103, R107, R115). -/
theorem Tab.Core.decideWithout (h : T.Core) {k : Fin 16} (hk : (T.rows k).state ≠ .free) (d : DarkState)
    (hd : ∀ i, d ≠ .linked i) (ha : (T.rows k).awaitDark = true)
    (hr : T.Replaced U k { T.rows k with darkState := d, awaitDark := false }) (hn : U.nextId = T.nextId)
    (hv : U.viewed = T.viewed) (hc : U.carded = T.carded) (hl : U.lodged = T.lodged) (hi : U.light = T.light)
    (hu : T.undecided.Perm ((T.rows k).id :: U.undecided)) : U.Core := by
  have rows := hr.rows
  have l : T.Like U := hr.like hn hk hk rfl rfl
  have nodup := List.nodup_cons.1 (hu.nodup_iff.1 h.nodup)
  have mem : ∀ i ∈ U.undecided, i ∈ T.undecided := fun i hi => hu.mem_iff.2 (List.mem_cons_of_mem _ hi)
  have linkers : ∀ i, U.linkers i = T.linkers i := by
    intro i; ext m; simp only [Tab.mem_linkers]; grind [h.linked]
  refine h.of_like l ?_ ?_ (hv ▸ h.viewed) (hc ▸ h.carded) ?_ ?_ ?_ ?_ nodup.2 ?_
  · grind [h.viewPins]
  · grind [h.cardPins]
  · grind [h.users]
  · grind [h.linked]
  · grind [h.lodged, Row.Waiting]
  · grind [h.light, Row.Waiting]
  · grind [h.undecided, Row.Names]

/-- The decision for a light frame that a stored dark matches: it is linked, and the dark gains a user (R106). -/
theorem Tab.Core.decideLink (h : T.Core) {k j : Fin 16} (hk : (T.rows k).state = .complete)
    (ha : (T.rows k).awaitDark = true) (hj : (T.rows j).state = .complete) (hdark : (T.rows j).kind = .dark)
    (rows : ∀ m, U.rows m = { T.rows m with
      darkState := if m = k then .linked (T.rows j).id else (T.rows m).darkState
      awaitDark := if m = k then false else (T.rows m).awaitDark
      darkUsers := if m = j then (T.rows m).darkUsers + 1 else (T.rows m).darkUsers })
    (hn : U.nextId = T.nextId) (hv : U.viewed = T.viewed) (hc : U.carded = T.carded) (hl : U.lodged = T.lodged)
    (hi : U.light = T.light) (hu : T.undecided.Perm ((T.rows k).id :: U.undecided)) : U.Core := by
  have l : T.Like U := by constructor <;> grind
  have nodup := List.nodup_cons.1 (hu.nodup_iff.1 h.nodup)
  have mem : ∀ i ∈ U.undecided, i ∈ T.undecided := fun i hi => hu.mem_iff.2 (List.mem_cons_of_mem _ hi)
  have linkers := Tab.card_linkers_of_link (T := T) (U := U) (k := k) (d := (T.rows j).id) (by grind)
    (by grind [h.linked]) (by grind)
  refine h.of_like l ?_ ?_ (hv ▸ h.viewed) (hc ▸ h.carded) ?_ ?_ ?_ ?_ nodup.2 ?_
  · grind [h.viewPins]
  · grind [h.cardPins]
  · intro m hm
    rw [linkers]
    grind [h.users, h.id_inj]
  · grind [h.linked, Row.Names]
  · grind [h.lodged, Row.Waiting]
  · grind [h.light, Row.Waiting]
  · grind [h.undecided, Row.Names]

/-- A light frame gets no dark: it is MISSING, and neither a job nor a lodged link names it any more (R107, R110, R111). -/
theorem Tab.Core.giveUp (h : T.Core) {k : Fin 16} (hk : (T.rows k).Waiting)
    (hr : T.Replaced U k { T.rows k with darkState := .missing, awaitDark := false }) (hn : U.nextId = T.nextId)
    (hv : U.viewed = T.viewed) (hc : U.carded = T.carded) (hl : U.lodged = none) (hi : U.light = none)
    (hu : U.undecided = T.undecided) : U.Core := by
  have rows := hr.rows
  have l : T.Like U := hr.like hn (by simp [hk.1]) (by simp [hk.1]) rfl rfl
  have linkers : ∀ i, U.linkers i = T.linkers i := by
    intro i; ext m; simp only [Tab.mem_linkers]; grind [Row.Waiting]
  refine h.of_like l ?_ ?_ (hv ▸ h.viewed) (hc ▸ h.carded) ?_ ?_ ?_ ?_ (hu ▸ h.nodup) ?_
  · grind [h.viewPins]
  · grind [h.cardPins]
  · grind [h.users]
  · grind [h.linked, Row.Waiting]
  · simp [hl]
  · simp [hi]
  · grind [h.undecided, Row.Waiting]

/-- The holds that name records change, the records do not: the invariants but of those holds stay. -/
theorem Tab.Core.rehold (h : T.Core) (hr : U.rows = T.rows) (hn : U.nextId = T.nextId) (hv : U.viewed = T.viewed)
    (hc : U.carded = T.carded)
    (hl : ∀ d i, U.lodged = some (d, i) → (∃ k, (T.rows k).Names i ∧ (T.rows k).Waiting)
      ∧ ∃ k, (T.rows k).Names d ∧ (T.rows k).state = .exposing ∧ (T.rows k).kind = .dark)
    (hi : ∀ i, U.light = some i → ∃ k, (T.rows k).Names i ∧ (T.rows k).Waiting)
    (hu : U.undecided.Perm T.undecided) : U.Core := by
  have l : T.Like U := by constructor <;> grind
  have linkers : ∀ i, U.linkers i = T.linkers i := by
    intro i; ext m; simp only [Tab.mem_linkers]; grind
  refine h.of_like l ?_ ?_ (hv ▸ h.viewed) (hc ▸ h.carded) ?_ ?_ ?_ ?_ (hu.nodup_iff.2 h.nodup) ?_
  · grind [h.viewPins]
  · grind [h.cardPins]
  · grind [h.users]
  · grind [h.linked]
  · rwa [hr]
  · rwa [hr]
  · grind [h.undecided, hu.mem_iff]

/-- Pins are taken or given back (R11): it is left to count them again. -/
theorem Tab.Core.repin (h : T.Core) (view card : Fin 16 → Nat)
    (rows : ∀ m, U.rows m = { T.rows m with viewPins := view m, cardPins := card m }) (hn : U.nextId = T.nextId)
    (viewPins : ∀ m, (T.rows m).state ≠ .free → (U.rows m).viewPins = U.viewed.count (T.rows m).id)
    (cardPins : ∀ m, (T.rows m).state ≠ .free → (U.rows m).cardPins = U.carded.count (T.rows m).id)
    (viewed : ∀ id ∈ U.viewed, ∃ k, (T.rows k).Names id) (carded : ∀ id ∈ U.carded, ∃ k, (T.rows k).Names id)
    (hl : U.lodged = T.lodged) (hi : U.light = T.light) (hu : U.undecided = T.undecided) : U.Core := by
  have l : T.Like U := by constructor <;> grind
  have linkers : ∀ i, U.linkers i = T.linkers i := by
    intro i; ext m; simp only [Tab.mem_linkers]; grind
  refine h.of_like l viewPins cardPins viewed carded ?_ ?_ ?_ ?_ (hu ▸ h.nodup) ?_
  · grind [h.users]
  · grind [h.linked]
  · grind [h.lodged, Row.Waiting]
  · grind [h.light, Row.Waiting]
  · grind [h.undecided]

/-- A record that nothing holds becomes FREE: the ranks close up, and the dark that it linked loses a user (R5, R13). -/
theorem Tab.Core.free (h : T.Core) {k : Fin 16} (hk : (T.rows k).state ≠ .free) (hflight : (T.rows k).state ≠ .exposing)
    (hview : (T.rows k).viewPins = 0) (hcard : (T.rows k).cardPins = 0) (husers : (T.rows k).darkUsers = 0)
    (hpending : (T.rows k).darkState ≠ .pending) (hawait : (T.rows k).awaitDark = false)
    (same : (U.rows k).state = .free)
    (other : ∀ m, m ≠ k → U.rows m = { T.rows m with
      age := if (T.rows m).state ≠ .free ∧ (T.rows k).age < (T.rows m).age then (T.rows m).age - 1 else (T.rows m).age
      darkUsers := if (T.rows m).state ≠ .free ∧ (T.rows k).darkState = .linked (T.rows m).id
        then (T.rows m).darkUsers - 1 else (T.rows m).darkUsers })
    (hn : U.nextId = T.nextId) (hv : U.viewed = T.viewed) (hc : U.carded = T.carded) (hl : U.lodged = T.lodged)
    (hi : U.light = T.light) (hu : U.undecided = T.undecided) : U.Core := by
  have live : T.live = insert k U.live := by
    ext m; simp only [Finset.mem_insert, Tab.mem_live]; grind
  have card : T.live.card = U.live.card + 1 := by
    rw [live, Finset.card_insert_of_notMem (by simp [Tab.mem_live, same])]
  have names : ∀ m i, (U.rows m).Names i ↔ m ≠ k ∧ (T.rows m).Names i := by grind [Row.Names]
  have linkers : ∀ i, (T.linkers i).card = (U.linkers i).card + if (T.rows k).darkState = .linked i then 1 else 0 := by
    intro i
    split
    · next hd =>
      have : T.linkers i = insert k (U.linkers i) := by
        ext m; simp only [Finset.mem_insert, Tab.mem_linkers]; grind
      rw [this, Finset.card_insert_of_notMem (by simp [Tab.mem_linkers, same])]
    · next hd =>
      have : T.linkers i = U.linkers i := by
        ext m; simp only [Tab.mem_linkers]; grind
      rw [this, Nat.add_zero]
  have unlinked : T.linkers (T.rows k).id = ∅ := Finset.card_eq_zero.1 (by rw [← h.users k hk, husers])
  constructor
  case nextId => exact hn ▸ h.nextId
  case id_ne_zero => grind [h.id_ne_zero]
  case id_inj => grind [h.id_inj]
  case rank_inj =>
    intro a b ha hb hab
    have hak : a ≠ k := by rintro rfl; exact ha same
    have hbk : b ≠ k := by rintro rfl; exact hb same
    rw [other a hak] at ha hab
    rw [other b hbk] at hb hab
    have := h.rank_inj a k ha hk
    have := h.rank_inj b k hb hk
    have := h.rank_inj a b ha hb
    grind
  case rank_lt =>
    intro a ha
    have hak : a ≠ k := by rintro rfl; exact ha same
    rw [other a hak] at ha ⊢
    have := h.rank_inj a k ha hk
    have := h.rank_lt a ha
    have := h.rank_lt k hk
    grind
  case viewPins => grind [h.viewPins]
  case cardPins => grind [h.cardPins]
  case viewed =>
    intro i hi'
    rw [hv] at hi'
    obtain ⟨m, hm⟩ := h.viewed i hi'
    refine ⟨m, (names m i).2 ⟨?_, hm⟩⟩
    rintro rfl
    have := h.viewPins m hk
    rw [hview, hm.2] at this
    exact (List.count_pos_iff.2 hi').ne this
  case carded =>
    intro i hi'
    rw [hc] at hi'
    obtain ⟨m, hm⟩ := h.carded i hi'
    refine ⟨m, (names m i).2 ⟨?_, hm⟩⟩
    rintro rfl
    have := h.cardPins m hk
    rw [hcard, hm.2] at this
    exact (List.count_pos_iff.2 hi').ne this
  case users =>
    intro m hm
    have hmk : m ≠ k := by rintro rfl; exact hm same
    have := linkers (T.rows m).id
    have := h.users m
    grind
  case linked =>
    intro m d hm hd
    have hmk : m ≠ k := by rintro rfl; exact hm same
    rw [other m hmk] at hm hd ⊢
    obtain ⟨hs, ha, n, hn', hn''⟩ := h.linked m d hm hd
    refine ⟨hs, ha, n, ?_⟩
    have hnk : n ≠ k := by
      rintro rfl
      have : m ∈ T.linkers (T.rows n).id := Tab.mem_linkers.2 ⟨hm, by rw [hn'.2]; exact hd⟩
      simp [unlinked] at this
    rw [names, other n hnk]
    exact ⟨⟨hnk, hn'⟩, hn''⟩
  case lodged => grind [h.lodged, Row.Waiting]
  case light => grind [h.light, Row.Waiting]
  case nodup => exact hu ▸ h.nodup
  case undecided => grind [h.undecided]

/-- A FREE slot is filled with the record of an allocation (R4, R5, R16). -/
theorem Tab.Core.fill (h : T.Core) {k : Fin 16} (hk : (T.rows k).state = .free) {id : Word} {kind : FrameKind}
    (hid : id ≠ 0) (hfresh : ∀ m, ¬ (T.rows m).Names id)
    (hr : T.Replaced U k ⟨.exposing, id, kind, .none, false, 0, 0, 0, T.live.card⟩) (hn : U.nextId ≠ 0)
    (hv : U.viewed = T.viewed) (hc : U.carded = T.carded) (hl : U.lodged = T.lodged)
    (hi : U.light = T.light) (hu : U.undecided = T.undecided) : U.Core := by
  have rows := hr.rows
  have live : U.live = insert k T.live := by
    ext m; simp only [Finset.mem_insert, Tab.mem_live]; grind
  have card : U.live.card = T.live.card + 1 := by
    rw [live, Finset.card_insert_of_notMem (by simp [Tab.mem_live, hk])]
  have names : ∀ m i, (T.rows m).Names i → (U.rows m).Names i := by grind [Row.Names]
  have linkers : ∀ i, U.linkers i = T.linkers i := by
    intro i; ext m; simp only [Tab.mem_linkers]; grind
  have unlinked : T.linkers id = ∅ := by
    refine Finset.eq_empty_of_forall_notMem fun m hm => ?_
    obtain ⟨hm, hd⟩ := Tab.mem_linkers.1 hm
    obtain ⟨-, -, n, hn, -⟩ := h.linked m id hm hd
    exact hfresh n hn
  have unviewed : T.viewed.count id = 0 := List.count_eq_zero.2 fun hm => by
    obtain ⟨m, hm⟩ := h.viewed id hm
    exact hfresh m hm
  have uncarded : T.carded.count id = 0 := List.count_eq_zero.2 fun hm => by
    obtain ⟨m, hm⟩ := h.carded id hm
    exact hfresh m hm
  constructor
  case nextId => exact hn
  case id_ne_zero => grind [h.id_ne_zero]
  case id_inj => grind [h.id_inj, Row.Names]
  case rank_inj =>
    intro a b
    have := h.rank_inj a b
    have := h.rank_lt a
    have := h.rank_lt b
    grind
  case rank_lt =>
    intro a
    have := h.rank_lt a
    grind
  case viewPins => grind [h.viewPins]
  case cardPins => grind [h.cardPins]
  case viewed => grind [h.viewed]
  case carded => grind [h.carded]
  case users => grind [h.users, Finset.card_empty]
  case linked => grind [h.linked]
  case lodged => grind [h.lodged, Row.Waiting]
  case light => grind [h.light, Row.Waiting]
  case nodup => exact hu ▸ h.nodup
  case undecided => grind [h.undecided]

end Sys2Proof.Machine

namespace Sys2Proof.Machine

/-! ### The record table of a state -/

/-- What the table's invariants read of a record. -/
def Frame.row (f : Frame) : Row :=
  ⟨if f.inFlight then .exposing else f.state, f.id, f.kind, f.darkState, f.awaitDark, f.darkUsers, f.viewPins, f.cardPins,
    f.age⟩

/-- The ids that a view pins, one entry for each pin (R11). -/
def View.pins (x : View) : List Word := if x.state = .open then x.frame.toList ++ x.dark.toList else []

/-- The ids that a job pins (R11). -/
def Job.pins (j : Job) : List Word := if j.kind = .writeFrame then [j.frame] else []

/-- The ids of the completed frames among some handoffs. -/
def undecidedOf (hs : List Handoff) : List Word :=
  hs.filterMap fun h => match h.message with
    | .completed f => some f.id
    | _ => none

/-- The record table of a state. -/
def State.tab (s : State) : Tab where
  rows k := (s.frame k).row
  nextId := s.store.nextId
  lodged := s.store.lodged
  viewed := viewIndices.flatMap fun v => (s.view v).pins
  carded := s.card.jobs.flatMap Job.pins
  light := s.dark.job.bind (·.light)
  undecided := undecidedOf s.handoffs

/-- The table is consistent, with the frames `pend` on their way to their dark decision besides those in the list of
handoffs. -/
def State.Ok (pend : List Word) (s : State) : Prop := Tab.Core { s.tab with undecided := s.tab.undecided ++ pend }

/-- A record in flight is in the slot and has the id that `key` gives. -/
def State.FlightAt (key : Option (Fin 16 × Word)) (s : State) : Prop :=
  ∀ k, (s.frame k).inFlight = true → key = some (k, (s.frame k).id)

/-- The slot and the id of the shot in flight. -/
def State.shotKey (s : State) : Option (Fin 16 × Word) := s.seq.shot.map fun h => (h.slot, h.id)

/-- The states without a shot (R58). -/
abbrev SeqState.Rests (st : SeqState) : Prop := st ∈ [SeqState.unset, .idle, .armed, .fault]

/-- The table is consistent, a record in flight is that of the shot, and a resting sequencer has none. -/
structure State.Good (pend : List Word) (s : State) : Prop where
  ok : s.Ok pend
  flight : s.FlightAt s.shotKey
  rest : s.seq.state.Rests → s.seq.shot = none

/-- The table is consistent, and a record in flight is the one that `key` gives. -/
structure State.Flies (pend : List Word) (key : Option (Fin 16 × Word)) (s : State) : Prop where
  ok : s.Ok pend
  flight : s.FlightAt key

section rows
variable (f : Frame)

@[simp] theorem Frame.row_id : f.row.id = f.id := rfl
@[simp] theorem Frame.row_kind : f.row.kind = f.kind := rfl
@[simp] theorem Frame.row_darkState : f.row.darkState = f.darkState := rfl
@[simp] theorem Frame.row_awaitDark : f.row.awaitDark = f.awaitDark := rfl
@[simp] theorem Frame.row_darkUsers : f.row.darkUsers = f.darkUsers := rfl
@[simp] theorem Frame.row_viewPins : f.row.viewPins = f.viewPins := rfl
@[simp] theorem Frame.row_cardPins : f.row.cardPins = f.cardPins := rfl
@[simp] theorem Frame.row_age : f.row.age = f.age := rfl

theorem Frame.inFlight_iff : f.inFlight = true ↔ f.state = .exposing ∨ f.state = .readout := by simp [Frame.inFlight]

@[simp] theorem Frame.row_free : f.row.state = .free ↔ f.state = .free := by
  unfold Frame.row Frame.inFlight; cases f.state <;> simp
@[simp] theorem Frame.row_flight : f.row.state = .exposing ↔ f.inFlight = true := by
  unfold Frame.row Frame.inFlight; cases f.state <;> simp
@[simp] theorem Frame.row_complete : f.row.state = .complete ↔ f.state = .complete := by
  unfold Frame.row Frame.inFlight; cases f.state <;> simp
@[simp] theorem Frame.row_names (id : Word) : f.row.Names id ↔ f.state ≠ .free ∧ f.id = id := by
  simp [Row.Names]
end rows

theorem Frame.live_of_inFlight {f : Frame} (h : f.inFlight = true) : f.state ≠ .free := by
  rcases (Frame.inFlight_iff f).1 h with h | h <;> simp [h]

section tab
variable (s : State)

@[simp] theorem State.tab_rows (k : Fin 16) : s.tab.rows k = (s.frame k).row := rfl
@[simp] theorem State.tab_nextId : s.tab.nextId = s.store.nextId := rfl
@[simp] theorem State.tab_lodged : s.tab.lodged = s.store.lodged := rfl
@[simp] theorem State.tab_light : s.tab.light = s.dark.job.bind (·.light) := rfl
@[simp] theorem State.tab_undecided : s.tab.undecided = undecidedOf s.handoffs := rfl
end tab

/-- The record that an id names, where ids are unique (R4). -/
theorem find_iff {s : State} (h0 : ∀ k, (s.frame k).state ≠ .free → (s.frame k).id ≠ 0)
    (inj : ∀ j k, (s.frame j).state ≠ .free → (s.frame k).state ≠ .free → (s.frame j).id = (s.frame k).id → j = k)
    {id : Word} {k : Fin 16} : s.find id = some k ↔ (s.frame k).state ≠ .free ∧ (s.frame k).id = id := by
  refine ⟨fun h => (find_spec h).2, fun ⟨hk, hid⟩ => ?_⟩
  have hne : id ≠ 0 := hid ▸ h0 k hk
  cases h : s.find id with
  | none => exact absurd hid (find_none h hne k hk)
  | some j =>
    obtain ⟨-, hj, hjd⟩ := find_spec h
    rw [inj j k hj hk (hjd.trans hid.symm)]

theorem State.Ok.find_iff {s : State} {pend : List Word} (h : s.Ok pend) {id : Word} {k : Fin 16} :
    s.find id = some k ↔ (s.frame k).state ≠ .free ∧ (s.frame k).id = id := by
  refine Machine.find_iff ?_ ?_
  · simpa using h.id_ne_zero
  · simpa using h.id_inj

theorem State.Ok.find_none_iff {s : State} {pend : List Word} (h : s.Ok pend) {id : Word} :
    s.find id = none ↔ ∀ k, (s.frame k).state ≠ .free → (s.frame k).id ≠ id := by
  rw [Option.eq_none_iff_forall_ne_some]
  exact forall_congr' fun k => by rw [Ne, h.find_iff, not_and]

/-- The invariants of the record table, as the statement has them and as they are shown. -/
theorem pinsOn_eq (s : State) (id : Word) :
    s.viewPinsOn id = s.tab.viewed.count id ∧ s.jobPinsOn id = s.tab.carded.count id := by
  constructor
  · have one : ∀ x : View, (if x.state = .open then
        (if x.frame = some id then 1 else 0) + (if x.dark = some id then 1 else 0) else 0) = x.pins.count id := by
      intro x
      unfold View.pins
      split
      · rw [List.count_append]
        cases x.frame <;> cases x.dark <;> simp [List.count_singleton]
      · rfl
    simp only [State.viewPinsOn, State.tab, List.count_flatMap, one]
    rfl
  · simp only [State.jobPinsOn, State.tab]
    induction s.card.jobs with
    | nil => rfl
    | cons j js ih =>
      rw [List.flatMap_cons, List.count_append, ← ih]
      by_cases hk : j.kind = .writeFrame <;> by_cases hf : j.frame = id <;>
        simp [Job.pins, hk, hf, Nat.add_comm]

theorem linksTo_eq (s : State) (id : Word) : s.linksTo id = (s.tab.linkers id).card := by
  have hnd : (slots.filter fun j => (s.frame j).state != .free && (s.frame j).darkState == .linked id).Nodup :=
    (List.nodup_finRange 16).filter _
  rw [State.linksTo, ← List.toFinset_card_of_nodup hnd]
  congr 1
  ext j
  simp [Tab.linkers]

theorem ranks_length (s : State) : s.ranks.length = s.tab.live.card := by
  have hnd : (slots.filter fun j => (s.frame j).state != .free).Nodup := (List.nodup_finRange 16).filter _
  rw [State.ranks, List.length_map, ← List.toFinset_card_of_nodup hnd]
  congr 1
  ext j
  simp [Tab.live]

theorem mem_ranks {s : State} {a : Nat} : a ∈ s.ranks ↔ ∃ k, (s.frame k).state ≠ .free ∧ (s.frame k).age = a := by
  simp [State.ranks]

/-- Ranks are dense when no two records share one and each lies below their number (R5). -/
theorem ranksDense_iff (s : State) : s.RanksDense ↔
    (∀ j k, (s.frame j).state ≠ .free → (s.frame k).state ≠ .free → (s.frame j).age = (s.frame k).age → j = k)
      ∧ ∀ k, (s.frame k).state ≠ .free → (s.frame k).age < s.tab.live.card := by
  have mem : ∀ k, k ∈ slots.filter (fun j => (s.frame j).state != .free) ↔ (s.frame k).state ≠ .free := by simp
  constructor
  · intro h
    refine ⟨fun j k hj hk he => ?_, fun k hk => ?_⟩
    · have nodup : s.ranks.Nodup := h.nodup_iff.2 List.nodup_range
      exact List.inj_on_of_nodup_map nodup ((mem j).2 hj) ((mem k).2 hk) he
    · rw [← ranks_length]
      exact List.mem_range.1 (h.mem_iff.1 (mem_ranks.2 ⟨k, hk, rfl⟩))
  · rintro ⟨inj, lt⟩
    have nodup : s.ranks.Nodup :=
      ((List.nodup_finRange 16).filter _).map_on fun j hj k hk he => inj j k ((mem j).1 hj) ((mem k).1 hk) he
    refine (nodup.subperm fun a ha => ?_).perm_of_length_le (by simp)
    obtain ⟨k, hk, rfl⟩ := mem_ranks.1 ha
    rw [List.mem_range, ranks_length]
    exact lt k hk

theorem mem_viewed {s : State} {id : Word} : id ∈ s.tab.viewed ↔
    ∃ v, (s.view v).state = .open ∧ ((s.view v).frame = some id ∨ (s.view v).dark = some id) := by
  have all : ∀ v : Fin 4, v ∈ viewIndices := by decide
  simp only [State.tab, List.mem_flatMap, all, true_and, View.pins]
  refine exists_congr fun v => ?_
  split
  · next h => simp [h]
  · next h => simp [h]

theorem mem_carded {s : State} {id : Word} : id ∈ s.tab.carded ↔ ∃ j ∈ s.card.jobs, j.kind = .writeFrame ∧ j.frame = id := by
  simp only [State.tab, List.mem_flatMap, Job.pins]
  refine exists_congr fun j => and_congr_right fun _ => ?_
  split
  · next h => simp [h, eq_comm]
  · next h => simp [h]

theorem light_eq {s : State} {l : Word} : s.tab.light = some l ↔ ∃ j, s.dark.job = some j ∧ j.light = some l := by
  simp [State.tab, Option.bind_eq_some_iff]

/-- Where ids are unique, a found record with a property is a record of the id with it. -/
theorem exists_find {s : State} (hf : ∀ {id k}, s.find id = some k ↔ (s.frame k).state ≠ .free ∧ (s.frame k).id = id)
    {id : Word} {p : Fin 16 → Prop} :
    (∃ k, s.find id = some k ∧ p k) ↔ ∃ k, ((s.frame k).state ≠ .free ∧ (s.frame k).id = id) ∧ p k :=
  exists_congr fun _ => and_congr_left fun _ => hf

theorem find_ne_none {s : State} (hf : ∀ {id k}, s.find id = some k ↔ (s.frame k).state ≠ .free ∧ (s.frame k).id = id)
    {id : Word} : s.find id ≠ none ↔ ∃ k, (s.frame k).state ≠ .free ∧ (s.frame k).id = id := by
  rw [Option.ne_none_iff_exists']
  exact exists_congr fun _ => hf

theorem ok_nil (s : State) : s.Ok [] ↔ s.tab.Core := by
  rw [State.Ok, List.append_nil]

/-- The statement's invariants are those shown here (R4, R5, R6, R11, R13). -/
theorem tabled_iff (s : State) : s.Tabled ↔ s.Good [] := by
  constructor
  · rintro ⟨⟨hnext, hids⟩, hranks, ⟨hflight, hrest⟩, ⟨hpins, hviews, hjobs⟩, ⟨husers, hlinked⟩, hlodged, hlight, hnodup, hund⟩
    rw [ranksDense_iff] at hranks
    have inj : ∀ j k, (s.frame j).state ≠ .free → (s.frame k).state ≠ .free → (s.frame j).id = (s.frame k).id → j = k :=
      fun j k hj hk he => (hids k hk).2 j hj he
    have hf : ∀ {id k}, s.find id = some k ↔ (s.frame k).state ≠ .free ∧ (s.frame k).id = id :=
      find_iff (fun k hk => (hids k hk).1) inj
    simp only [State.AwaitsDark, exists_find hf] at *
    simp only [find_ne_none hf] at *
    refine ⟨(ok_nil s).2 ?_, fun k hk => ?_, fun h => hrest h⟩
    · constructor
      case nextId => exact hnext
      case id_ne_zero => simpa using fun k hk => (hids k hk).1
      case id_inj => simpa using inj
      case rank_inj => simpa using hranks.1
      case rank_lt => simpa using hranks.2
      case viewPins => simpa [(pinsOn_eq s _).1] using fun k hk => (hpins k hk).1
      case cardPins => simpa [(pinsOn_eq s _).2] using fun k hk => (hpins k hk).2
      case viewed =>
        intro id hid
        obtain ⟨v, hv, hid⟩ := mem_viewed.1 hid
        simpa using hviews v id hv hid
      case carded =>
        intro id hid
        obtain ⟨j, hj, hk, rfl⟩ := mem_carded.1 hid
        simpa using hjobs j hj hk
      case users => simpa [linksTo_eq] using husers
      case linked => simpa using hlinked
      case lodged => simpa [Row.Waiting] using hlodged
      case light =>
        intro l hl
        obtain ⟨j, hj, hjl⟩ := light_eq.1 hl
        simpa [Row.Waiting] using hlight j l hj hjl
      case nodup => exact hnodup
      case undecided => exact fun id hid => by simpa using hund id hid
    · obtain ⟨h, hs, hslot, hid⟩ := hflight k hk
      simp [State.shotKey, hs, hslot, hid]
  · rintro ⟨hok, hflight, hrest⟩
    have hf : ∀ {id k}, s.find id = some k ↔ (s.frame k).state ≠ .free ∧ (s.frame k).id = id := fun {_ _} => hok.find_iff
    rw [ok_nil] at hok
    simp only [State.Tabled, State.DarksAwaited, State.PinsCounted, State.LinksCounted, State.AwaitsDark, exists_find hf,
      find_ne_none hf]
    refine ⟨⟨hok.nextId, fun k hk => ⟨by simpa using hok.id_ne_zero k (by simpa using hk), fun j hj he => ?_⟩⟩,
      (ranksDense_iff s).2 ⟨by simpa using hok.rank_inj, by simpa using hok.rank_lt⟩, ⟨fun k hk => ?_, hrest⟩,
      ⟨fun k hk => ⟨?_, ?_⟩, fun v id hv hid => ?_, fun j hj hk => ?_⟩,
      ⟨fun k hk => ?_, by simpa using hok.linked⟩, by simpa [Row.Waiting] using hok.lodged, fun j l hj hl => ?_, ?_, ?_⟩
    · exact hok.id_inj j k (by simpa using hj) (by simpa using hk) he
    · obtain ⟨h, hs, he⟩ := Option.map_eq_some_iff.1 (hflight k hk)
      obtain ⟨hslot, hid⟩ := Prod.mk.inj he
      exact ⟨h, hs, hslot, hid⟩
    · rw [(pinsOn_eq s _).1]
      exact hok.viewPins k (by simpa using hk)
    · rw [(pinsOn_eq s _).2]
      exact hok.cardPins k (by simpa using hk)
    · simpa using hok.viewed id (mem_viewed.2 ⟨v, hv, hid⟩)
    · simpa using hok.carded _ (mem_carded.2 ⟨j, hj, hk, rfl⟩)
    · rw [linksTo_eq]
      exact hok.users k (by simpa using hk)
    · simpa [Row.Waiting] using hok.light l (light_eq.2 ⟨j, hj, hl⟩)
    · exact hok.nodup
    · exact fun id hid => by simpa using hok.undecided id hid

end Sys2Proof.Machine

namespace Sys2Proof.Machine

/-! ### What a step keeps

Four relations between a state and a later one. `Steady`: the soundness of the state and the sync input's listening are
kept. `Tame`: besides, the record table stays consistent whatever the sequencer does, no record takes flight, and the
sequencer stays with its shot. `Calm`: as `Tame`, whatever becomes of the shot. `Safe`: besides soundness, the table
stays consistent together with the shot. A tame operation is safe; the operations that begin or leave a shot are safe
only. -/

structure Steady (s t : State) : Prop where
  wf : s.dram.wf = true → t.dram.wf = true
  posts : s.PostsInRange → t.PostsInRange
  nextId : s.store.nextId ≠ 0 → t.store.nextId ≠ 0
  lists : s.ListsBounded → t.ListsBounded
  listens : s.ListensInArmed → t.ListensInArmed

structure Tame (s t : State) : Prop extends Steady s t where
  ok : ∀ pend, s.Ok pend → t.Ok pend
  flight : ∀ k, (t.frame k).inFlight = true → (s.frame k).inFlight = true ∧ (t.frame k).id = (s.frame k).id
  shot : t.shotKey = s.shotKey
  rest : t.seq.state.Rests → s.seq.state.Rests

/-- The table stays consistent and no record takes flight, whatever becomes of the shot. -/
structure Calm (s t : State) : Prop extends Steady s t where
  ok : ∀ pend, s.Ok pend → t.Ok pend
  flight : ∀ k, (t.frame k).inFlight = true → (s.frame k).inFlight = true ∧ (t.frame k).id = (s.frame k).id

structure Safe (s t : State) : Prop extends Steady s t where
  good : ∀ pend, s.Good pend → t.Good pend

variable {s t u : State}

theorem Steady.refl (s : State) : Steady s s := ⟨fun h => h, fun h => h, fun h => h, fun h => h, fun h => h⟩

theorem Steady.trans (h : Steady s t) (g : Steady t u) : Steady s u :=
  ⟨fun x => g.wf (h.wf x), fun x => g.posts (h.posts x), fun x => g.nextId (h.nextId x), fun x => g.lists (h.lists x),
    fun x => g.listens (h.listens x)⟩

theorem Tame.refl (s : State) : Tame s s := ⟨.refl s, fun _ h => h, fun _ h => ⟨h, rfl⟩, rfl, fun h => h⟩

theorem Tame.trans (h : Tame s t) (g : Tame t u) : Tame s u where
  toSteady := h.toSteady.trans g.toSteady
  ok pend x := g.ok pend (h.ok pend x)
  flight k x := ⟨(h.flight k (g.flight k x).1).1, (g.flight k x).2.trans (h.flight k (g.flight k x).1).2⟩
  shot := g.shot.trans h.shot
  rest x := h.rest (g.rest x)

theorem shotKey_eq_none : s.shotKey = none ↔ s.seq.shot = none := Option.map_eq_none_iff

theorem Tame.calm (h : Tame s t) : Calm s t := ⟨h.toSteady, h.ok, h.flight⟩

theorem Calm.trans (h : Calm s t) (g : Calm t u) : Calm s u where
  toSteady := h.toSteady.trans g.toSteady
  ok pend x := g.ok pend (h.ok pend x)
  flight k x := ⟨(h.flight k (g.flight k x).1).1, (g.flight k x).2.trans (h.flight k (g.flight k x).1).2⟩

theorem Calm.flies {pend : List Word} {key : Option (Fin 16 × Word)} (h : Calm s t) (g : s.Flies pend key) :
    t.Flies pend key where
  ok := h.ok pend g.ok
  flight k hk := by
    obtain ⟨hs, hid⟩ := h.flight k hk
    rw [hid]
    exact g.flight k hs

theorem State.Good.flies {pend : List Word} (g : s.Good pend) : s.Flies pend s.shotKey := ⟨g.ok, g.flight⟩

theorem State.Flies.good {pend : List Word} (g : s.Flies pend s.shotKey) (h : s.seq.state.Rests → s.seq.shot = none) :
    s.Good pend := ⟨g.ok, g.flight, h⟩

theorem Tame.flies {pend : List Word} {key : Option (Fin 16 × Word)} (h : Tame s t) (g : s.Flies pend key) :
    t.Flies pend key := h.calm.flies g

theorem Tame.good {pend : List Word} (h : Tame s t) (g : s.Good pend) : t.Good pend :=
  (h.shot ▸ h.flies g.flies).good fun x =>
    shotKey_eq_none.1 (h.shot.trans (shotKey_eq_none.2 (g.rest (h.rest x))))

theorem Tame.safe (h : Tame s t) : Safe s t := ⟨h.toSteady, fun _ => h.good⟩

theorem Safe.refl (s : State) : Safe s s := (Tame.refl s).safe

theorem Safe.trans (h : Safe s t) (g : Safe t u) : Safe s u :=
  ⟨h.toSteady.trans g.toSteady, fun pend x => g.good pend (h.good pend x)⟩

/-- A choice between two tame ends is tame. -/
theorem Tame.ite {c : Prop} [Decidable c] (h : c → Tame s t) (g : ¬c → Tame s u) : Tame s (if c then t else u) := by
  split
  · next hc => exact h hc
  · next hc => exact g hc

theorem Tame.foldl {α : Type} {f : State → α → State} (h : ∀ s a, Tame s (f s a)) (l : List α) (s : State) :
    Tame s (l.foldl f s) := by
  induction l generalizing s with
  | nil => exact .refl s
  | cons a l ih => exact (h s a).trans (ih (f s a))

/-! #### Updates of one block -/

section blocks
variable (s : State)

theorem tame_onPins (f : Pins → Pins) : Tame s (s.onPins f) :=
  ⟨⟨fun h => h, fun h => h, fun h => h, fun h => h, fun h => h⟩, fun _ h => h, fun _ h => ⟨h, rfl⟩, rfl, fun h => h⟩

theorem tame_onSetup (f : Setup → Setup) : Tame s (s.onSetup f) :=
  ⟨⟨fun h => h, fun h => h, fun h => h, fun h => h, fun h => h⟩, fun _ h => h, fun _ h => ⟨h, rfl⟩, rfl, fun h => h⟩

theorem tame_onDriver (f : Driver → Driver) : Tame s (s.onDriver f) :=
  ⟨⟨fun h => h, fun h => h, fun h => h, fun h => h, fun h => h⟩, fun _ h => h, fun _ h => ⟨h, rfl⟩, rfl, fun h => h⟩

theorem tame_onPath (f : MemPath → MemPath) : Tame s (s.onPath f) :=
  ⟨⟨fun h => h, fun h => h, fun h => h, fun h => h, fun h => h⟩, fun _ h => h, fun _ h => ⟨h, rfl⟩, rfl, fun h => h⟩

theorem tame_send (x : Signal) : Tame s (s.send x) :=
  ⟨⟨fun h => h, fun h => h, fun h => h, fun h => h, fun h => h⟩, fun _ h => h, fun _ h => ⟨h, rfl⟩, rfl, fun h => h⟩

theorem tame_quiet : Tame s s.quiet :=
  ⟨⟨fun h => h, fun h => h, fun h => h, fun h => h, fun h => h⟩, fun _ h => h, fun _ h => ⟨h, rfl⟩, rfl, fun h => h⟩

/-- A sync input that listens no more than before. -/
theorem tame_onSync {f : SyncInput → SyncInput} (h : (f s.sync).listening = true → s.sync.listening = true) :
    Tame s (s.onSync f) :=
  ⟨⟨fun h => h, fun h => h, fun h => h, fun h => h, fun g x => g (h x)⟩, fun _ h => h, fun _ h => ⟨h, rfl⟩, rfl, fun h => h⟩

/-- A request unit that counts as before. -/
theorem tame_onReq {f : RequestUnit → RequestUnit} (h1 : (f s.req).post = s.req.post)
    (h2 : (f s.req).consumed = s.req.consumed) (h3 : (f s.req).hand = s.req.hand) : Tame s (s.onReq f) :=
  ⟨⟨fun h => h, fun h => by unfold State.PostsInRange; rwa [State.onReq_req, h1, h2, h3], fun h => h, fun h => h, fun h => h⟩,
    fun _ h => h, fun _ h => ⟨h, rfl⟩, rfl, fun h => h⟩

/-- A sequencer in the same state, with the same shot. -/
theorem tame_onSeq {f : Sequencer → Sequencer} (h1 : (f s.seq).state = s.seq.state)
    (h2 : (f s.seq).shot.map (fun h => (h.slot, h.id)) = s.shotKey) : Tame s (s.onSeq f) :=
  ⟨⟨fun h => h, fun h => h, fun h => h, fun h => h, fun g x => h1.trans (g x)⟩, fun _ h => h, fun _ h => ⟨h, rfl⟩, h2,
    fun x => h1 ▸ x⟩

/-- A readout unit whose black history keeps its bound. -/
theorem tame_onReadout {f : Readout → Readout}
    (h : s.readout.history.length ≤ historyTop → (f s.readout).history.length ≤ historyTop) : Tame s (s.onReadout f) :=
  ⟨⟨fun h => h, fun h => h, fun h => h, fun g => ⟨g.1, g.2.1, h g.2.2⟩, fun h => h⟩, fun _ h => h, fun _ h => ⟨h, rfl⟩,
    rfl, fun h => h⟩

/-- A develop engine whose views pin what they pinned. -/
theorem tame_onDevelop {f : Develop → Develop} (h : ∀ v, ((f s.develop).views.get v).pins = (s.view v).pins) :
    Tame s (s.onDevelop f) := by
  have : (s.onDevelop f).tab = s.tab := by
    have hv : ∀ v, ((s.onDevelop f).view v).pins = (s.view v).pins := h
    unfold State.tab
    simp only [hv]
    rfl
  exact ⟨⟨fun h => h, fun h => h, fun h => h, fun h => h, fun h => h⟩, fun _ h => by rw [State.Ok, this]; exact h,
    fun _ h => ⟨h, rfl⟩, rfl, fun h => h⟩

/-- A card engine whose jobs pin what they pinned, and whose lists keep their bounds. -/
theorem tame_onCard {f : CardEngine → CardEngine} (h : (f s.card).jobs.flatMap Job.pins = s.card.jobs.flatMap Job.pins)
    (hj : s.card.jobs.length ≤ queueTop → (f s.card).jobs.length ≤ queueTop)
    (hc : s.card.completions.length ≤ completionTop → (f s.card).completions.length ≤ completionTop) :
    Tame s (s.onCard f) := by
  have : (s.onCard f).tab = s.tab := by
    unfold State.tab
    simp only [State.onCard_card, h]
    rfl
  exact ⟨⟨fun h => h, fun h => h, fun h => h, fun g => ⟨hj g.1, hc g.2.1, g.2.2⟩, fun h => h⟩,
    fun _ h => by rw [State.Ok, this]; exact h, fun _ h => ⟨h, rfl⟩, rfl, fun h => h⟩

/-- A card engine with the same jobs and completion list. -/
theorem tame_onCard_same {f : CardEngine → CardEngine} (h : (f s.card).jobs = s.card.jobs)
    (hc : (f s.card).completions = s.card.completions) : Tame s (s.onCard f) :=
  tame_onCard s (by rw [h]) (by rw [h]; exact fun x => x) (by rw [hc]; exact fun x => x)

/-- Handoffs with the same completed frames among them. -/
theorem tame_onHandoffs {f : List Handoff → List Handoff} (h : undecidedOf (f s.handoffs) = undecidedOf s.handoffs) :
    Tame s (s.onHandoffs f) := by
  have : (s.onHandoffs f).tab = s.tab := by
    unfold State.tab
    simp only [State.onHandoffs_handoffs, h]
    rfl
  exact ⟨⟨fun h => h, fun h => h, fun h => h, fun h => h, fun h => h⟩, fun _ h => by rw [State.Ok, this]; exact h,
    fun _ h => ⟨h, rfl⟩, rfl, fun h => h⟩

/-- A store with the same records, counter and lodged link. -/
theorem tame_onStore {f : Store → Store} (h1 : (f s.store).frames = s.store.frames)
    (h2 : (f s.store).nextId = s.store.nextId) (h3 : (f s.store).lodged = s.store.lodged) : Tame s (s.onStore f) := by
  have frame : ∀ k, (s.onStore f).frame k = s.frame k := State.frame_congr _ _ h1
  have : (s.onStore f).tab = s.tab := by
    unfold State.tab
    simp only [frame, State.onStore_store, h2, h3]
    rfl
  exact ⟨⟨fun h => h, fun h => h, fun h => by simpa [h2] using h, fun h => h, fun h => h⟩,
    fun _ h => by rw [State.Ok, this]; exact h, fun k h => by rw [frame] at h ⊢; exact ⟨h, rfl⟩, rfl, fun h => h⟩

/-- A record changed in what the table's invariants do not read. -/
theorem tame_setFrame {k : Fin 16} {f : Frame} (h : f.row = (s.frame k).row) : Tame s (s.setFrame k f) := by
  have row : ∀ j, ((s.setFrame k f).frame j).row = (s.frame j).row := by
    intro j; rw [State.frame_setFrame]; split
    · next e => rw [h, e]
    · rfl
  have : (s.setFrame k f).tab = s.tab := by
    unfold State.tab
    simp only [row]
    rfl
  exact ⟨⟨fun h => h, fun h => h, fun h => h, fun h => h, fun h => h⟩, fun _ h => by rw [State.Ok, this]; exact h,
    fun j hj => ⟨by rw [← Frame.row_flight, ← row j]; exact (Frame.row_flight _).2 hj, congrArg Row.id (row j)⟩, rfl,
    fun h => h⟩

/-- A report that changes what the table's invariants do not read. -/
theorem tame_report (id : Word) {f : Frame → Frame} (h : ∀ x, (f x).row = x.row) : Tame s (report id f s) := by
  unfold report
  split
  · exact tame_setFrame s (h _)
  · exact .refl s

theorem tame_raise (c : Cause) : Tame s (raise c s) := tame_onReq s rfl rfl rfl

theorem tame_addFlag (id : Word) (f : Flag) : Tame s (addFlag id f s) := tame_report s id fun _ => rfl

end blocks

end Sys2Proof.Machine

namespace Sys2Proof.Machine

variable (s : State)

/-! #### The memory port and the pages -/

/-- A grant changes the memory path, and DRAM by one burst. -/
theorem grant_eq : ∃ p b, grant s = { s with path := p, dram := b } ∧ (b = s.dram ∨ ∃ x, b = burstDram s.dram x) := by
  unfold grant
  split
  · exact ⟨_, _, rfl, .inr ⟨_, rfl⟩⟩
  · split
    · exact ⟨_, _, rfl, .inl rfl⟩
    · split
      · exact ⟨_, _, rfl, .inl rfl⟩
      · exact ⟨_, _, rfl, .inr ⟨_, rfl⟩⟩

/-- Only the memory path and DRAM differ. -/
def OnlyMemory (s t : State) : Prop := t = { s with path := t.path, dram := t.dram }

theorem OnlyMemory.refl (s : State) : OnlyMemory s s := rfl

theorem OnlyMemory.trans {s t u : State} (h : OnlyMemory s t) (g : OnlyMemory t u) : OnlyMemory s u := by
  unfold OnlyMemory at *
  rw [g, h]

theorem grant_onlyMemory (s : State) : OnlyMemory s (grant s) := by
  obtain ⟨p, b, he, -⟩ := grant_eq s
  rw [he]; rfl

theorem grantUntil_onlyMemory (s : State) (stop : MemPath → Bool) (n : Nat) : OnlyMemory s (grantUntil stop n s) := by
  induction n generalizing s with
  | zero => exact .refl s
  | succ n ih =>
    unfold grantUntil
    split
    · exact .refl s
    · exact (grant_onlyMemory s).trans (ih _)

theorem drain_onlyMemory (s : State) (c : RotClient) : OnlyMemory s (drain c s) := grantUntil_onlyMemory s _ _

theorem recordWrite_onlyMemory (s : State) (a : Nat) (bytes : List Byte) : OnlyMemory s (recordWrite a bytes s) :=
  .trans (t := issue .record _ s) rfl (drain_onlyMemory _ _)

theorem tame_grant : Tame s (grant s) := by
  obtain ⟨p, b, he, hb⟩ := grant_eq s
  rw [he]
  refine ⟨⟨fun h => ?_, fun h => h, fun h => h, fun h => h, fun h => h⟩, fun _ h => h, fun _ h => ⟨h, rfl⟩, rfl, fun h => h⟩
  rcases hb with rfl | ⟨x, rfl⟩
  · exact h
  · exact burstDram_wf h x

theorem tame_grantUntil (stop : MemPath → Bool) (n : Nat) : Tame s (grantUntil stop n s) := by
  induction n generalizing s with
  | zero => exact .refl s
  | succ n ih => exact .ite (fun _ => .refl s) fun _ => (tame_grant s).trans (ih _)

theorem tame_drain (c : RotClient) : Tame s (drain c s) := tame_grantUntil s _ _
theorem tame_drainReadout : Tame s (drainReadout s) := tame_grantUntil s _ _
theorem tame_issue (c : RotClient) (bs : List Burst) : Tame s (issue c bs s) := tame_onPath s _
theorem tame_issueReadout (bs : List Burst) : Tame s (issueReadout bs s) := tame_onPath s _
theorem tame_recordWrite (a : Nat) (bytes : List Byte) : Tame s (recordWrite a bytes s) :=
  (tame_issue s _ _).trans (tame_drain _ _)
theorem takeGot_fst (c : RotClient) (n : Nat) : (takeGot c n s).1 =
    s.onPath fun p => p.setClient c { p.client c with got := (s.path.client c).got.take ((s.path.client c).got.length - n) } := rfl
theorem tame_takeGot (c : RotClient) (n : Nat) : Tame s (takeGot c n s).1 := by
  rw [takeGot_fst]; exact tame_onPath s _
theorem tame_recordRead (a n : Nat) : Tame s (recordRead a n s).1 :=
  ((tame_issue s _ _).trans (tame_drain _ _)).trans (tame_takeGot _ _ _)

theorem tame_awaitMirrors (ks : List (Fin 16)) : Tame s (awaitMirrors ks s) :=
  (tame_onStore s rfl rfl rfl).trans (tame_onReq _ rfl rfl rfl)

theorem tame_computeLayout : Tame s (computeLayout s) := (tame_onStore s rfl rfl rfl).trans (tame_awaitMirrors _ _)

theorem tame_writeMirror (k : Fin 16) : Tame s (writeMirror k s) := by
  unfold writeMirror
  refine .trans ?_ (tame_recordWrite _ _ _)
  refine .trans ?_ (tame_recordWrite _ _ _)
  refine .trans ?_ (tame_recordWrite _ _ _)
  refine .trans ?_ (tame_onStore _ rfl rfl rfl)
  exact tame_setFrame s rfl

theorem tame_writeQueueMirror : Tame s (writeQueueMirror s) := by
  unfold writeQueueMirror
  refine .trans ?_ (tame_recordWrite _ _ _)
  refine .trans ?_ (tame_recordWrite _ _ _)
  refine .trans ?_ (tame_recordWrite _ _ _)
  refine .trans ?_ (tame_recordWrite _ _ _)
  exact tame_onCard_same s rfl rfl

theorem tame_writeStatusPage : Tame s (writeStatusPage s) := by
  unfold writeStatusPage
  refine .trans ?_ (tame_recordWrite _ _ _)
  refine .trans ?_ (tame_recordWrite _ _ _)
  refine .trans ?_ (tame_recordWrite _ _ _)
  exact tame_onReq s rfl rfl rfl

/-! #### What every step does around its effect -/

theorem tame_settle (a : State) : Tame a (settle s a) := by
  unfold settle
  refine .trans ?_ (tame_onReq _ rfl rfl rfl)
  refine .trans ?_ (tame_onCard_same _ rfl rfl)
  exact tame_onStore a rfl rfl rfl

theorem tame_beginDecision : Tame s (beginDecision s) := tame_onReq s rfl rfl rfl

theorem tame_endDecision (r : State × Option ResultCode) : Tame r.1 (endDecision s r) := tame_onReq _ rfl rfl rfl

theorem safe_decideWith {d : State → State × Option ResultCode} (h : ∀ s, Safe s (d s).1) : Safe s (decideWith d s) :=
  ((tame_beginDecision s).safe.trans (h _)).trans (tame_endDecision _ _).safe

/-- An effect is safe when it is safe where it is due. -/
theorem safe_whenDue {due : State → Bool} {f : State → State} (h : due s = true → Safe s (f s)) :
    Safe s (whenDue due f s) := by
  unfold whenDue
  split
  · next hd => exact h hd
  · exact .refl s

theorem safe_asked (i : Instr) {d : State → State × Option ResultCode} (h : ∀ s, Safe s (d s).1) :
    Safe s (asked i d s) := safe_whenDue s fun _ => safe_decideWith s h

theorem tame_lags (l : List Nat) : Tame s { s with lags := l } :=
  ⟨⟨fun h => h, fun h => h, fun h => h, fun h => h, fun h => h⟩, fun _ h => h, fun _ h => ⟨h, rfl⟩, rfl, fun h => h⟩

/-! #### The release driver and the sync input -/

theorem tame_phaseChange : Tame s (phaseChange s) := by
  rw [phaseChange_eq]; exact tame_onSync s (f := fun y => { y with blanking := s.blankNow }) fun h => h

theorem tame_driveOff : Tame s (driveOff s) := .ite (fun _ => (tame_onDriver s _).trans (tame_phaseChange _)) fun _ => .refl s

theorem tame_driveOn (p : DriveParams) : Tame s (driveOn p s) :=
  ((tame_onPins s _).trans (tame_onDriver _ _)).trans (tame_phaseChange _)

theorem tame_checkCommand (shot : Word) : Tame s (checkCommand shot s) := by
  unfold checkCommand
  split
  · exact tame_onDriver s _
  · exact tame_onDriver s _
  · exact .refl s

theorem tame_setTarget (id : Word) (p : Exposure) : Tame s (setTarget id p s) := tame_onSync s fun h => h
theorem tame_clearTarget : Tame s (clearTarget s) := tame_onSync s fun h => h

theorem tame_countBounce : Tame s (countBounce s) := by
  unfold countBounce
  split
  · exact tame_report s _ fun _ => rfl
  · exact .refl s

theorem tame_missedShot (edge : Word) (reason : MissedReason) : Tame s (missedShot edge reason s) :=
  (tame_onSync s fun h => h).trans (tame_raise _ _)

/-! #### The sequencer with its shot -/

/-- Entering a state changes neither the records nor the shot. -/
theorem seqEnter_tab (st : SeqState) : (seqEnter st s).tab = s.tab ∧ (seqEnter st s).seq.shot = s.seq.shot
    ∧ (seqEnter st s).seq.state = st ∧ ∀ k, (seqEnter st s).frame k = s.frame k := by
  rw [seqEnter_eq]
  exact ⟨rfl, rfl, rfl, fun _ => rfl⟩

theorem steady_seqEnter (st : SeqState) : Steady s (seqEnter st s) := by
  rw [seqEnter_eq]
  exact ⟨fun h => h, fun h => h, fun h => h, fun h => h, fun _ h => eq_of_beq h⟩

/-- Entering a state that has a shot. -/
theorem tame_seqEnter {st : SeqState} (h : ¬ st.Rests) : Tame s (seqEnter st s) := by
  obtain ⟨htab, hshot, hstate, hframe⟩ := seqEnter_tab s st
  exact ⟨steady_seqEnter s st, fun _ x => by rw [State.Ok, htab]; exact x,
    fun k x => by rw [hframe] at x ⊢; exact ⟨x, rfl⟩, by rw [State.shotKey, hshot]; rfl,
    fun x => absurd (hstate ▸ x) h⟩

theorem tame_issueFlush : Tame s (issueFlush s) := (tame_onSeq s rfl rfl).trans (tame_send _ _)
theorem tame_issueStart : Tame s (issueStart s) := (tame_onSeq s rfl rfl).trans (tame_send _ _)
theorem tame_issueEnd : Tame s (issueEnd s) := (tame_onSeq s rfl rfl).trans (tame_send _ _)

theorem tame_closingFlush : Tame s (closingFlush s) :=
  (tame_onSeq s rfl rfl).trans (.ite (fun _ => .refl _) fun _ => tame_issueFlush _)

theorem tame_stopLoop : Tame s (stopLoop s) := tame_onSeq s rfl rfl

/-- A change of the shot that leaves its slot and id. -/
theorem tame_onShot {f : Shot → Shot} (h : ∀ x, (f x).slot = x.slot ∧ (f x).id = x.id) : Tame s (onShot f s) := by
  refine tame_onSeq s rfl ?_
  unfold State.shotKey
  cases s.seq.shot with
  | none => rfl
  | some x => simp [h x]

theorem tame_endIntegration (h : Shot) : Tame s (endIntegration h s) := by
  have report_row : ∀ x : Frame, (if x.state = .exposing then
      { x with state := .readout, integEnd := some (issueEnd (driveOff s)).clock } else x).row = x.row := by
    intro x
    split
    · next hx => simp [Frame.row, Frame.inFlight, hx]
    · rfl
  unfold endIntegration
  refine .trans ?_ (tame_seqEnter _ (by decide))
  refine .trans ?_ (tame_onShot _ fun _ => ⟨rfl, rfl⟩)
  refine .trans ?_ (tame_clearTarget _)
  refine .trans ?_ (tame_report _ _ report_row)
  exact (tame_driveOff s).trans (tame_issueEnd _)

theorem tame_startReleased (h : Shot) : Tame s (startReleased h s) := by
  unfold startReleased
  refine .trans ?_ (tame_onShot _ fun _ => ⟨rfl, rfl⟩)
  refine .trans ?_ (tame_report _ _ fun _ => rfl)
  refine .trans ?_ (tame_onSync _ fun h => h)
  refine .trans ?_ (tame_driveOn _ _)
  refine .trans ?_ (tame_seqEnter _ (by decide))
  exact tame_issueStart s

theorem tame_startDark (h : Shot) : Tame s (startDark h s) := by
  unfold startDark
  refine .trans ?_ (.ite (fun _ => tame_endIntegration _ _) fun _ => .refl _)
  refine .trans ?_ (tame_seqEnter _ (by decide))
  refine .trans ?_ (tame_onShot _ fun _ => ⟨rfl, rfl⟩)
  refine .trans ?_ (tame_report _ _ fun _ => rfl)
  exact tame_issueStart s

theorem tame_startIntegration (h : Shot) : Tame s (startIntegration h s) :=
  .ite (fun _ => tame_startDark s h) fun _ => tame_startReleased s h

theorem tame_beginPasses : Tame s (beginPasses s) := by
  unfold beginPasses
  split
  · exact .refl s
  · exact .ite (fun _ => .refl s) fun _ => .ite (fun _ => tame_startIntegration s _) fun _ => tame_issueFlush s

theorem tame_enterPreparing : Tame s (enterPreparing s) := by
  unfold enterPreparing
  split
  · exact .refl s
  · refine .trans ?_ (.ite (fun _ => tame_checkCommand _ _) fun _ => tame_beginPasses _)
    refine .trans ?_ (tame_seqEnter _ (by decide))
    exact tame_onShot s fun _ => ⟨rfl, rfl⟩

theorem tame_enterTail (h : Shot) : Tame s (enterTail h s) := by
  unfold enterTail
  refine .trans ?_ (.ite (fun _ => tame_endIntegration _ _) fun _ => .refl _)
  refine .trans ?_ (tame_seqEnter _ (by decide))
  exact tame_onShot s fun _ => ⟨rfl, rfl⟩

theorem tame_enterOpen (h : Shot) : Tame s (enterOpen h s) := by
  unfold enterOpen
  refine .trans ?_ (.ite (fun _ => .ite (fun _ => .refl _) fun _ => tame_onShot _ fun _ => ⟨rfl, rfl⟩) fun _ => tame_driveOff _)
  refine .trans ?_ (tame_seqEnter _ (by decide))
  exact tame_onShot s fun _ => ⟨rfl, rfl⟩

theorem tame_qualifiedOpen : Tame s (qualifiedOpen s) := by
  unfold qualifiedOpen
  split
  · exact (Tame.ite (fun _ => (tame_driveOff s).trans (tame_addFlag _ _ _)) fun _ => .refl s).trans (tame_enterTail _ _)
  · exact .refl s

theorem tame_ordinaryStart : Tame s (ordinaryStart s) := .ite (fun _ => tame_onShot s fun _ => ⟨rfl, rfl⟩) fun _ => .refl s

theorem tame_closeAbandoned (edge : Word) : Tame s (closeAbandoned edge s) := by
  unfold closeAbandoned
  split
  · exact tame_onShot s fun _ => ⟨rfl, rfl⟩
  · exact .ite (fun _ => tame_onSeq s rfl rfl) fun _ => .refl s
  · exact .refl s

theorem tame_addFlag? (id : Word) (f : Option Flag) : Tame s (addFlag? id f s) := by
  cases f with
  | none => exact .refl s
  | some f => exact tame_addFlag s id f

theorem tame_takeOpenContinuing : Tame s (takeOpenContinuing s) := by
  unfold takeOpenContinuing
  split
  all_goals first | exact tame_addFlag s _ _ | exact .refl s

theorem tame_clearStay : Tame s (clearStay s) := tame_onSeq s rfl rfl

end Sys2Proof.Machine

namespace Sys2Proof.Machine

variable (s : State)

/-! #### The driver's and the sync input's own events -/

theorem tame_startCheck (shot : Option Word) : Tame s (startCheck shot s) := tame_onDriver s _
theorem tame_clearFaults : Tame s (clearFaults s) := tame_onDriver s _
theorem tame_chop : Tame s (chop s) := tame_onDriver s _
theorem tame_enterHold : Tame s (enterHold s) := (tame_onDriver s _).trans (tame_phaseChange _)

theorem tame_senseCurrent (i : Nat) : Tame s (senseCurrent i s) := by
  unfold senseCurrent
  exact (tame_onPins s _).trans (.ite (fun _ => tame_onDriver _ _) fun _ => .refl _)

theorem tame_compareSupply (low : Bool) : Tame s (compareSupply low s) :=
  .ite (fun _ => .refl s) fun _ => (tame_onPins s _).trans (tame_onDriver _ _)

/-- Handoffs changed in what they say of trip edges carry the same completed frames. -/
theorem undecidedOf_abandon (edge : Word) (hs : List Handoff) :
    undecidedOf (hs.map fun h => { h with message := h.message.abandon edge }) = undecidedOf hs := by
  rw [undecidedOf, undecidedOf, List.filterMap_map]
  congr 1
  ext1 ⟨m, n⟩
  cases m <;> rfl

theorem tame_markAbandoned (edge : Word) : Tame s (markAbandoned edge s) := tame_onHandoffs s (undecidedOf_abandon edge _)

theorem tame_dropTrips : Tame s (dropTrips s) := by
  refine tame_onHandoffs s ?_
  rw [undecidedOf, undecidedOf, List.filterMap_filter]
  congr 1
  ext1 ⟨m, n⟩
  cases m <;> rfl

theorem tame_abandonRun (r : Run) : Tame s (abandonRun r s) := by
  unfold abandonRun
  refine .trans (tame_onSync s (f := fun y => { y with run := none }) fun h => h) ?_
  refine .ite (fun _ => ?_) fun _ => .refl _
  exact (tame_countBounce _).trans (.ite (fun _ => tame_markAbandoned _ _) fun _ => tame_closeAbandoned _ _)

theorem tame_recordEdge (r : Run) : Tame s (recordEdge r s) := by
  unfold recordEdge
  split
  · refine .trans ?_ (tame_onSync _ fun h => h)
    exact tame_report s _ fun _ => rfl
  · refine .trans ?_ (tame_onSync _ fun h => h)
    exact tame_report s _ fun _ => rfl
  · exact .refl s

/-! #### A microsecond of every block -/

theorem tame_tickSeq : Tame s (tickSeq s) := by
  refine tame_onSeq s rfl ?_
  unfold State.shotKey
  cases s.seq.shot <;> rfl

theorem tame_tickSync : Tame s (tickSync s) := tame_onSync s fun h => h
theorem tame_tickDriver : Tame s (tickDriver s) := tame_onDriver s _
theorem tame_tickService : Tame s (tickService s) := tame_onDevelop s fun _ => rfl
theorem tame_tickCard : Tame s (tickCard s) := tame_onCard_same s rfl rfl

theorem tame_clock (n : Word) : Tame s { s with clock := n } :=
  ⟨⟨fun h => h, fun h => h, fun h => h, fun h => h, fun h => h⟩, fun _ h => h, fun _ h => ⟨h, rfl⟩, rfl, fun h => h⟩

theorem tame_microsecond : Tame s (microsecond s) := by
  unfold microsecond
  refine .trans ?_ (tame_onReadout _ fun h => h)
  refine .trans ?_ (tame_tickCard _)
  refine .trans ?_ (tame_tickService _)
  refine .trans ?_ (tame_tickDriver _)
  refine .trans ?_ (tame_tickSync _)
  refine .trans ?_ (tame_tickSeq _)
  exact tame_clock s _

/-! #### Reads of the apertures -/

theorem Four.get_set {α : Type} (f : Four α) (i j : Fin 4) (a : α) : (f.set i a).get j = if j = i then a else f.get j := by
  fin_cases i <;> fin_cases j <;> rfl

theorem State.view_setView (v w : Fin 4) (x : View) : (s.setView v x).view w = if w = v then x else s.view w :=
  Four.get_set _ _ _ _

/-- The develop engine without a change of its views. -/
theorem tame_onDevelop_same {f : Develop → Develop} (h : (f s.develop).views = s.develop.views) : Tame s (s.onDevelop f) :=
  tame_onDevelop s fun v => by rw [h]; rfl

theorem tame_takeRead (addr len : Nat) : Tame s (takeRead addr len s) := by
  unfold takeRead
  extract_lets sv u
  refine .trans (tame_issue s _ _ : Tame s u) ?_
  refine .ite (fun _ => ?_) fun _ => tame_onDevelop_same _ rfl
  exact (tame_issue _ _ _).trans (tame_onDevelop_same _ rfl)

theorem tame_finishRead (byteOf : State → Service → Nat → Byte) : Tame s (finishRead byteOf s) := by
  unfold finishRead
  split
  · exact .refl s
  · refine .trans ?_ (tame_send _ _)
    refine .trans ?_ (tame_onDevelop_same _ rfl)
    exact (tame_drain s _).trans (tame_onPath _ _)

theorem tame_completeRead : Tame s (completeRead s) := (tame_drain s _).trans (tame_finishRead _ _)

theorem tame_zeroRead : Tame s (zeroRead s) :=
  (Tame.ite (fun _ => tame_onPath s _) fun _ => .refl s).trans (tame_finishRead _ _)

/-- A view replaced by one that pins the same. -/
theorem tame_setView {v : Fin 4} {x : View} (h : x.pins = (s.view v).pins) : Tame s (s.setView v x) := by
  refine tame_onDevelop s fun w => ?_
  change ((s.setView v x).view w).pins = (s.view w).pins
  rw [State.view_setView]
  split
  · next e => rw [h, e]
  · rfl

theorem tame_developRows (id : Word) (rows : Nat) : Tame s (developRows id rows s) := by
  unfold developRows
  extract_lets u
  refine .trans (.foldl (fun s v => ?_) viewIndices s : Tame s u) ?_
  · exact .ite (fun _ => tame_setView s rfl) fun _ => .refl s
  · split
    · exact .ite (fun _ => (tame_issue _ _ _).trans (tame_completeRead _)) fun _ => .refl _
    · exact .refl _

theorem tame_takeWrite (w : DecodedWrite) : Tame s (takeWrite w s) := by
  unfold takeWrite
  extract_lets u left
  exact (tame_issue s _ _ : Tame s u).trans (tame_onPath u _)

theorem tame_takeTransactions (l : List PortTxn) : Tame s (takeTransactions l s) := by
  induction l generalizing s with
  | nil => exact tame_onPath s _
  | cons x l ih =>
    cases x with
    | write w => exact (tame_takeWrite s w).trans (ih _)
    | read addr len => exact (tame_onPath s _).trans (tame_takeRead _ _ _)

theorem tame_pump : Tame s (pump s) := by
  unfold pump
  split
  · exact .refl s
  · exact tame_takeTransactions s _

theorem tame_expireRead : Tame s (expireRead s) := by
  unfold expireRead
  split
  · exact .refl s
  · refine .trans ((tame_issue s _ _).trans (tame_completeRead _)) (.foldl (fun s v => ?_) _ _)
    exact tame_setView s rfl

theorem tame_writeTone : Tame s (writeTone s) := by
  unfold writeTone
  split
  · exact .refl s
  · refine .trans (tame_onDevelop_same s ?_) (tame_onReq _ rfl rfl rfl)
    split <;> rfl

theorem tame_decideLoadTone (table : Half) (addr : Word) : Tame s (decideLoadTone table addr s).1 := by
  unfold decideLoadTone
  split
  · exact .refl s
  · extract_lets r entries
    have read : Tame s r.1 := ((tame_issue s _ _).trans (tame_drain _ _)).trans (tame_takeGot _ _ _)
    refine .trans read ?_
    dsimp only
    exact tame_onDevelop_same _ rfl

/-! #### The readout unit's rows -/

theorem tame_leaveReadout : Tame s (leaveReadout s) := tame_onReadout s fun h => h

theorem tame_takeRow (f : ReadoutFrame) (row : Nat) (samples : List Sample) (check : Half) :
    Tame s (takeRow f row samples check s) := by
  unfold takeRow
  exact (tame_issueReadout s _).trans (tame_onReadout _ fun h => h)

end Sys2Proof.Machine

namespace Sys2Proof.Machine

/-! ### Pins (R11)

Views and jobs take and give back pins. The counts of the table stay right, since what the records lose is what the lists
of pins lose. -/

/-- Ids name the records that they named, when no record is allocated or freed. -/
theorem find_congr {s t : State} (h : ∀ k, (t.frame k).state = (s.frame k).state ∧ (t.frame k).id = (s.frame k).id)
    (id : Word) : t.find id = s.find id := by
  unfold State.find
  simp only [fun k => (h k).1, fun k => (h k).2]

/-- Two states differ in what the table's invariants do not read, but for pins and the lists of pins. -/
structure Repinned (s t : State) (view card : Fin 16 → Nat) : Prop where
  rows : ∀ k, (t.frame k).row = { (s.frame k).row with viewPins := view k, cardPins := card k }
  nextId : t.store.nextId = s.store.nextId
  lodged : t.store.lodged = s.store.lodged
  dark : t.dark = s.dark
  handoffs : t.handoffs = s.handoffs
  seq : t.seq = s.seq

/-- Taking or giving back pins is tame when the counts stay right. -/
theorem Repinned.tame {s t : State} {view card : Fin 16 → Nat} (h : Repinned s t view card) (steady : Steady s t)
    (viewPins : ∀ pend, s.Ok pend → ∀ k, (s.frame k).state ≠ .free → view k = t.tab.viewed.count (s.frame k).id)
    (cardPins : ∀ pend, s.Ok pend → ∀ k, (s.frame k).state ≠ .free → card k = t.tab.carded.count (s.frame k).id)
    (viewed : ∀ pend, s.Ok pend → ∀ id ∈ t.tab.viewed, ∃ k, (s.frame k).state ≠ .free ∧ (s.frame k).id = id)
    (carded : ∀ pend, s.Ok pend → ∀ id ∈ t.tab.carded, ∃ k, (s.frame k).state ≠ .free ∧ (s.frame k).id = id) :
    Tame s t where
  toSteady := steady
  ok pend ok := by
    refine Tab.Core.repin ok view card h.rows h.nextId ?_ ?_ ?_ ?_ h.lodged ?_ ?_
    · intro k hk
      simpa [h.rows] using viewPins pend ok k (by simpa using hk)
    · intro k hk
      simpa [h.rows] using cardPins pend ok k (by simpa using hk)
    · simpa using viewed pend ok
    · simpa using carded pend ok
    · simp [h.dark]
    · simp [h.handoffs]
  flight k hk := by
    have row := h.rows k
    exact ⟨by rw [← Frame.row_flight]; simpa [row] using (Frame.row_flight _).2 hk, by simpa using congrArg Row.id row⟩
  shot := by rw [State.shotKey, State.shotKey, h.seq]
  rest hr := h.seq ▸ hr

/-! #### The pins of a view -/

/-- The ids that a view holds. -/
def View.holds (x : View) : List Word := x.frame.toList ++ x.dark.toList

theorem View.pins_of_open {x : View} (h : x.state = .open) : x.pins = x.holds := if_pos h
theorem View.pins_of_not_open {x : View} (h : x.state ≠ .open) : x.pins = [] := if_neg h

/-- The record that an id names loses or gains a pin. -/
theorem frame_report_viewPins (s : State) (i : Word) (f : Nat → Nat) (k : Fin 16) :
    (report i (fun x => { x with viewPins := f x.viewPins }) s).frame k
      = { s.frame k with viewPins := if s.find i = some k then f (s.frame k).viewPins else (s.frame k).viewPins } := by
  rw [frame_report]
  split <;> rfl

theorem find_report_viewPins (s : State) (i : Word) (f : Nat → Nat) (id : Word) :
    (report i (fun x => { x with viewPins := f x.viewPins }) s).find id = s.find id :=
  find_congr (fun k => by rw [frame_report_viewPins]; exact ⟨rfl, rfl⟩) id

/-- Unpinning a view takes from each record the pins that the view has on it. -/
theorem frame_unpinView (s : State) (x : View) (k : Fin 16) : (unpinView x s).frame k =
    { s.frame k with viewPins := (s.frame k).viewPins - x.holds.countP fun i => s.find i = some k } := by
  unfold unpinView View.holds
  cases x.frame <;> cases x.dark <;>
    simp [frame_report_viewPins (f := (· - 1)), find_report_viewPins (f := (· - 1)), List.countP_cons]
  all_goals grind

/-- A view that is opened pins its frame and its dark. -/
theorem frame_pinView (s : State) (x : View) (k : Fin 16) : (pinView x.dark (pinView x.frame s)).frame k =
    { s.frame k with viewPins := (s.frame k).viewPins + x.holds.countP fun i => s.find i = some k } := by
  unfold pinView View.holds
  cases x.frame <;> cases x.dark <;>
    simp [frame_report_viewPins (f := (· + 1)), find_report_viewPins (f := (· + 1)), List.countP_cons]
  all_goals grind

theorem unpinView_onlyFrames (s : State) (x : View) : OnlyFrames s (unpinView x s) := by
  unfold unpinView
  cases x.frame <;> cases x.dark
  · exact .refl s
  · exact report_onlyFrames _ _ s
  · exact report_onlyFrames _ _ s
  · exact (report_onlyFrames _ _ s).trans (report_onlyFrames _ _ _)

theorem pinView_onlyFrames (s : State) (i : Option Word) : OnlyFrames s (pinView i s) := by
  cases i with
  | none => exact .refl s
  | some i => exact report_onlyFrames i (fun x => { x with viewPins := x.viewPins + 1 }) s

theorem OnlyFrames.steady {s t : State} (h : OnlyFrames s t) : Steady s t := by
  rw [h]
  exact ⟨fun h => h, fun h => h, fun h => h, fun h => h, fun h => h⟩

/-- The pins of all views, when one view is replaced. -/
theorem count_viewed_setView (s : State) (v : Fin 4) (x : View) (id : Word) :
    (s.setView v x).tab.viewed.count id + (s.view v).pins.count id = s.tab.viewed.count id + x.pins.count id := by
  have viewed : ∀ s : State, s.tab.viewed.count id = (s.view 0).pins.count id + (s.view 1).pins.count id
      + (s.view 2).pins.count id + (s.view 3).pins.count id := by
    intro s
    simp [State.tab, viewIndices, List.count_append]
    omega
  rw [viewed, viewed]
  fin_cases v <;> simp [State.view_setView] <;> omega

/-- Among the ids that name a record are as many that name record `k` as there are of its id. -/
theorem State.Ok.countP_find {s : State} {pend : List Word} (h : s.Ok pend) {k : Fin 16} (hk : (s.frame k).state ≠ .free)
    (l : List Word) : l.countP (fun i => s.find i = some k) = l.count (s.frame k).id := by
  rw [List.count]
  congr 1
  ext i
  rw [Bool.eq_iff_iff]
  simp only [h.find_iff, decide_eq_true_eq, beq_iff_eq]
  exact ⟨fun e => e.2.symm, fun e => ⟨hk, e.symm⟩⟩

theorem State.Ok.viewPins_eq {s : State} {pend : List Word} (h : s.Ok pend) {k : Fin 16} (hk : (s.frame k).state ≠ .free) :
    (s.frame k).viewPins = s.tab.viewed.count (s.frame k).id := h.viewPins k (by simpa using hk)

theorem State.Ok.cardPins_eq {s : State} {pend : List Word} (h : s.Ok pend) {k : Fin 16} (hk : (s.frame k).state ≠ .free) :
    (s.frame k).cardPins = s.tab.carded.count (s.frame k).id := h.cardPins k (by simpa using hk)

theorem State.Ok.viewed_names {s : State} {pend : List Word} (h : s.Ok pend) {id : Word} (hid : id ∈ s.tab.viewed) :
    ∃ k, (s.frame k).state ≠ .free ∧ (s.frame k).id = id := by simpa using h.viewed id hid

theorem State.Ok.carded_names {s : State} {pend : List Word} (h : s.Ok pend) {id : Word} (hid : id ∈ s.tab.carded) :
    ∃ k, (s.frame k).state ≠ .free ∧ (s.frame k).id = id := by simpa using h.carded id hid

/-- A view pins no more than all views do. -/
theorem mem_viewed_of_setView {s : State} {v : Fin 4} {x : View} {id : Word} (h : id ∈ (s.setView v x).tab.viewed) :
    id ∈ s.tab.viewed ∨ id ∈ x.pins := by
  have := count_viewed_setView s v x id
  rw [← List.count_pos_iff] at h ⊢
  rw [← List.count_pos_iff]
  omega

/-- An OPEN view that is so no more gives its pins back. -/
theorem tame_shutView (s : State) {v : Fin 4} {x : View} (hopen : (s.view v).state = .open) (hx : x.state ≠ .open) :
    Tame s (unpinView (s.view v) (s.setView v x)) := by
  have only := unpinView_onlyFrames (s.setView v x) (s.view v)
  have tab : (unpinView (s.view v) (s.setView v x)).tab.viewed = (s.setView v x).tab.viewed := by rw [only]; rfl
  have shift := count_viewed_setView s v x
  rw [View.pins_of_open hopen, View.pins_of_not_open hx] at shift
  have repinned : Repinned s (unpinView (s.view v) (s.setView v x))
      (fun k => (s.frame k).viewPins - (s.view v).holds.countP fun i => s.find i = some k)
      (fun k => (s.frame k).cardPins) := by
    refine ⟨fun k => ?_, ?_, ?_, ?_, ?_, ?_⟩
    · rw [frame_unpinView]
      rfl
    all_goals rw [only]; rfl
  refine repinned.tame ?_ ?_ ?_ ?_ ?_
  · exact .trans (t := s.setView v x) ⟨fun h => h, fun h => h, fun h => h, fun h => h, fun h => h⟩ only.steady
  · intro pend ok k hk
    have := shift (s.frame k).id
    rw [tab, ok.viewPins_eq hk, ok.countP_find hk]
    simp only [List.count_nil] at this
    omega
  · intro pend ok k hk
    rw [only]
    exact ok.cardPins_eq hk
  · intro pend ok id hid
    rw [tab] at hid
    rcases mem_viewed_of_setView hid with h | h
    · exact ok.viewed_names h
    · simp [View.pins_of_not_open hx] at h
  · intro pend ok id hid
    rw [only] at hid
    exact ok.carded_names hid

/-- A view that is opened on records takes its pins. -/
theorem tame_openView (s : State) {v : Fin 4} {x : View} (hclosed : (s.view v).state ≠ .open) (hx : x.state = .open)
    (names : ∀ pend, s.Ok pend → ∀ i ∈ x.holds, ∃ k, (s.frame k).state ≠ .free ∧ (s.frame k).id = i) :
    Tame s (pinView x.dark (pinView x.frame (s.setView v x))) := by
  have only := (pinView_onlyFrames (s.setView v x) x.frame).trans (pinView_onlyFrames _ x.dark)
  have tab : (pinView x.dark (pinView x.frame (s.setView v x))).tab.viewed = (s.setView v x).tab.viewed := by
    rw [only]; rfl
  have shift := count_viewed_setView s v x
  rw [View.pins_of_open hx, View.pins_of_not_open hclosed] at shift
  have repinned : Repinned s (pinView x.dark (pinView x.frame (s.setView v x)))
      (fun k => (s.frame k).viewPins + x.holds.countP fun i => s.find i = some k)
      (fun k => (s.frame k).cardPins) := by
    refine ⟨fun k => ?_, ?_, ?_, ?_, ?_, ?_⟩
    · rw [frame_pinView]
      rfl
    all_goals rw [only]; rfl
  refine repinned.tame ?_ ?_ ?_ ?_ ?_
  · exact .trans (t := s.setView v x) ⟨fun h => h, fun h => h, fun h => h, fun h => h, fun h => h⟩ only.steady
  · intro pend ok k hk
    have := shift (s.frame k).id
    rw [tab, ok.viewPins_eq hk, ok.countP_find hk]
    simp only [List.count_nil] at this
    omega
  · intro pend ok k hk
    rw [only]
    exact ok.cardPins_eq hk
  · intro pend ok id hid
    rw [tab] at hid
    rcases mem_viewed_of_setView hid with h | h
    · exact ok.viewed_names h
    · rw [View.pins_of_open hx] at h
      exact names pend ok id h
  · intro pend ok id hid
    rw [only] at hid
    exact ok.carded_names hid

/-! #### Views that break, close and open -/

theorem finishRead_views (s : State) (byteOf : State → Service → Nat → Byte) :
    (finishRead byteOf s).develop.views = s.develop.views := by
  unfold finishRead
  split
  · rfl
  · exact congrArg (·.develop.views) (drain_onlyMemory s .processor)

/-- A read that ends with zeros leaves the views alone. -/
theorem zeroRead_view (s : State) (v : Fin 4) : (zeroRead s).view v = s.view v := by
  unfold zeroRead
  rw [State.view, finishRead_views]
  split <;> rfl

/-- The read of a view that breaks or closes ends with zeros. -/
def endService (v : Fin 4) (s : State) : State := if s.serves v then zeroRead s else s

theorem tame_endService (s : State) (v : Fin 4) : Tame s (endService v s) := .ite (fun _ => tame_zeroRead s) fun _ => .refl s

theorem endService_view (s : State) (v w : Fin 4) : (endService v s).view w = s.view w := by
  unfold endService
  split
  · exact zeroRead_view s w
  · rfl

theorem tame_breakView (s : State) {v : Fin 4} (h : (s.view v).state = .open) : Tame s (breakView v s) := by
  have eq : breakView v s = raise .viewBroken (unpinView ((endService v s).view v) ((endService v s).setView v
      { s.view v with state := .broken })) := by rw [endService_view]; rfl
  rw [eq]
  refine .trans ?_ (tame_raise _ _)
  exact (tame_endService s v).trans (tame_shutView _ (by rw [endService_view]; exact h) nofun)

theorem tame_breakViews (s : State) (id : Word) : Tame s (breakViews id s) :=
  .foldl (fun s _ => .ite (fun h => tame_breakView s h.1) fun _ => .refl s) _ s

theorem tame_closeOneView (s : State) (v : Fin 4) : Tame s (closeOneView v s) := by
  unfold closeOneView
  extract_lets x
  split
  · next h =>
    have eq : unpinView x ((endService v s).setView v x.shut)
        = unpinView ((endService v s).view v) ((endService v s).setView v x.shut) := by rw [endService_view]
    change Tame s (unpinView x ((endService v s).setView v x.shut))
    rw [eq]
    exact (tame_endService s v).trans (tame_shutView _ (by rw [endService_view]; exact h) nofun)
  · next h =>
    refine tame_setView s ?_
    have : x.state ≠ .open := by simp [h]
    rw [View.pins_of_not_open this, View.pins_of_not_open (x := x.shut) nofun]
  · exact .refl s

theorem tame_restartViews (s : State) : Tame s (restartViews s) := by
  unfold restartViews
  exact (Tame.ite (fun _ => tame_zeroRead s) fun _ => .refl s).trans (.foldl (fun s v => tame_closeOneView s v) _ _)

theorem tame_decideCloseView (s : State) (view : Half) : Tame s (decideCloseView view s).1 := by
  unfold decideCloseView
  split
  · exact .refl s
  · exact tame_closeOneView s _

/-- What an accepted OPEN_VIEW holds: its frame, and a dark that is one (R119, R120). -/
theorem openedView_names {s : State} {f : OpenViewFields} {use : DarkUse} {k : Fin 16} (hk : s.find f.frame = some k)
    (hd : s.darkUseOk use f k = true) {pend : List Word} (ok : s.Ok pend) :
    ∀ i ∈ (s.openedView f use k).holds, ∃ j, (s.frame j).state ≠ .free ∧ (s.frame j).id = i := by
  intro i hi
  simp only [View.holds, State.openedView, Option.toList_some, List.cons_append, List.nil_append, List.mem_cons,
    Option.mem_toList] at hi
  rcases hi with rfl | hi
  · exact ⟨k, ok.find_iff.1 hk⟩
  · cases use with
    | none => simp [State.viewDark] at hi
    | linked =>
      have hlive := (ok.find_iff.1 hk).1
      unfold State.viewDark at hi
      dsimp only at hi
      split at hi
      · next d _ hd =>
        obtain rfl := Option.some.inj hi
        obtain ⟨-, -, j, hj, -⟩ := Tab.Core.linked ok k d (by simpa using hlive) hd
        exact ⟨j, by simpa using hj⟩
      · cases hi
    | specific =>
      obtain rfl := Option.some.inj hi
      simp only [State.darkUseOk, Bool.and_eq_true, Option.any_eq_true] at hd
      obtain ⟨-, j, hj, -⟩ := hd
      exact ⟨j, ok.find_iff.1 hj⟩

theorem tame_decideOpenView (s : State) (f : OpenViewFields) : Tame s (decideOpenView f s).1 := by
  unfold decideOpenView
  extract_lets v use
  split
  · exact .refl s
  · split
    · exact .refl s
    · next hv =>
      split
      · exact .refl s
      · next k hk =>
        split
        · exact .refl s
        · split
          · exact .refl s
          · next hd =>
            exact tame_openView s (by simp [not_not.1 hv]) rfl fun pend ok =>
              openedView_names hk (by simpa using hd) ok

end Sys2Proof.Machine

namespace Sys2Proof.Machine

/-! ### Jobs and their pins (R11, R153, R158, R159, R163) -/

/-- Only the card engine and the records differ. -/
def OnlyCard (s t : State) : Prop := t = { s with card := t.card, store := { s.store with frames := t.store.frames } }

theorem OnlyCard.refl (s : State) : OnlyCard s s := rfl

theorem OnlyCard.trans {s t u : State} (h : OnlyCard s t) (g : OnlyCard t u) : OnlyCard s u := by
  unfold OnlyCard at *
  rw [g, h]

theorem OnlyFrames.onlyCard {s t : State} (h : OnlyFrames s t) : OnlyCard s t := by
  unfold OnlyCard
  rw [h]
  rfl

theorem onCard_onlyCard (s : State) (f : CardEngine → CardEngine) : OnlyCard s (s.onCard f) := rfl

theorem releasePin_onlyFrames (s : State) (j : Job) (mark : Bool) : OnlyFrames s (releasePin j mark s) := by
  unfold releasePin
  split
  · exact report_onlyFrames _ _ s
  · exact .refl s

theorem releasePin_card (s : State) (j : Job) (mark : Bool) : (releasePin j mark s).card = s.card := by
  rw [releasePin_onlyFrames]; rfl

theorem addCompletion_onlyCard (s : State) (e : Completion) : OnlyCard s (addCompletion e s) := rfl

/-- The pin of a job is given back. -/
theorem releasePin_frame (s : State) (j : Job) (mark : Bool) : PinReturned j mark s (releasePin j mark s) := by
  intro k
  unfold releasePin
  by_cases h : j.kind = .writeFrame
  · simp only [h, if_true, frame_report, true_and]
  · simp only [h, if_false, false_and]

/-- The pins that some jobs have on record `k`. -/
def pinsOf (s : State) (jobs : List Job) (k : Fin 16) : Nat :=
  (jobs.filter fun j => j.kind == .writeFrame && s.find j.frame == some k).length

theorem pinsOf_cons (s : State) (j : Job) (jobs : List Job) (k : Fin 16) :
    pinsOf s (j :: jobs) k = (if j.kind = .writeFrame ∧ s.find j.frame = some k then 1 else 0) + pinsOf s jobs k := by
  unfold pinsOf
  by_cases h : j.kind = .writeFrame ∧ s.find j.frame = some k
  · simp [h, Nat.add_comm]
  · rw [List.filter_cons_of_neg (by simpa using h), if_neg h, Nat.zero_add]

theorem endJobs_cons (outcome : JobOutcome) (j : Job) (jobs : List Job) (s : State) : endJobs outcome (j :: jobs) s =
    endJobs outcome jobs (addCompletion ⟨j.tag, outcome, j.sectorsDone⟩ (releasePin j false s)) := rfl

/-- Each job that has left the queue gives its pin back. -/
theorem endJobs_frame (outcome : JobOutcome) (jobs : List Job) (s : State) :
    PinsReturned jobs s (endJobs outcome jobs s) := by
  change ∀ k, (endJobs outcome jobs s).frame k = { s.frame k with cardPins := (s.frame k).cardPins - pinsOf s jobs k }
  induction jobs generalizing s with
  | nil => intro k; rfl
  | cons j jobs ih =>
    intro k
    have one : ∀ i, (addCompletion ⟨j.tag, outcome, j.sectorsDone⟩ (releasePin j false s)).frame i =
        { s.frame i with cardPins := (s.frame i).cardPins
          - if j.kind = .writeFrame ∧ s.find j.frame = some i then 1 else 0 } := by
      intro i
      change (releasePin j false s).frame i = _
      rw [releasePin_frame]
      split <;> simp
    have find : ∀ id, (addCompletion ⟨j.tag, outcome, j.sectorsDone⟩ (releasePin j false s)).find id = s.find id :=
      find_congr fun i => by rw [one]; exact ⟨rfl, rfl⟩
    rw [endJobs_cons, ih, one, pinsOf_cons]
    simp only [pinsOf, find, Nat.sub_sub]

theorem endJobs_onlyCard (outcome : JobOutcome) (jobs : List Job) (s : State) : OnlyCard s (endJobs outcome jobs s) := by
  induction jobs generalizing s with
  | nil => exact .refl s
  | cons j jobs ih =>
    rw [endJobs_cons]
    exact ((releasePin_onlyFrames s j false).onlyCard.trans (addCompletion_onlyCard _ _)).trans (ih _)

/-- The card engine once some jobs have ended: their entries join the completion list, newest first. -/
theorem endJobs_card (outcome : JobOutcome) (jobs : List Job) (s : State) (h : s.card.completions.length ≤ 8) :
    (endJobs outcome jobs s).card = { s.card with
      completions := ((jobs.map fun j => (⟨j.tag, outcome, j.sectorsDone⟩ : Completion)).reverse
        ++ s.card.completions).take 8 } := by
  induction jobs generalizing s with
  | nil => simp [endJobs, List.take_of_length_le h]
  | cons j jobs ih =>
    rw [endJobs_cons, ih]
    · simp only [addCompletion, State.onCard_card, releasePin_card, completionTop, List.map_cons, List.reverse_cons,
        List.append_assoc, List.singleton_append]
      congr 1
      generalize (List.map (fun j : Job => (⟨j.tag, outcome, j.sectorsDone⟩ : Completion)) jobs).reverse = l
      rw [List.take_append, List.take_append, List.take_take, Nat.min_eq_left (Nat.sub_le _ _)]
    · simp [addCompletion, completionTop]

theorem endJobs_jobs (outcome : JobOutcome) (jobs : List Job) (s : State) :
    (endJobs outcome jobs s).card.jobs = s.card.jobs ∧
      (s.card.completions.length ≤ completionTop → (endJobs outcome jobs s).card.completions.length ≤ completionTop) := by
  induction jobs generalizing s with
  | nil => exact ⟨rfl, fun h => h⟩
  | cons j jobs ih =>
    rw [endJobs_cons]
    obtain ⟨hj, hc⟩ := ih (addCompletion ⟨j.tag, outcome, j.sectorsDone⟩ (releasePin j false s))
    refine ⟨hj.trans ?_, fun _ => hc ?_⟩
    · simp [addCompletion, releasePin_card]
    · simp [addCompletion, completionTop]

theorem State.Ok.pinsOf_eq {s : State} {pend : List Word} (h : s.Ok pend) {k : Fin 16} (hk : (s.frame k).state ≠ .free)
    (jobs : List Job) : pinsOf s jobs k = (jobs.flatMap Job.pins).count (s.frame k).id := by
  induction jobs with
  | nil => rfl
  | cons j jobs ih =>
    rw [pinsOf_cons, ih, List.flatMap_cons, List.count_append]
    congr 1
    unfold Job.pins
    by_cases hj : j.kind = .writeFrame
    · by_cases e : (s.frame k).id = j.frame
      · simp [hj, h.find_iff, hk, e]
      · simp [hj, h.find_iff, e, Ne.symm e]
    · simp [hj]

/-- Jobs leave the queue and give their pins back. -/
theorem tame_released {s t : State} (removed : List Job) (only : OnlyCard s t)
    (jobs : (s.card.jobs.flatMap Job.pins).Perm (removed.flatMap Job.pins ++ t.card.jobs.flatMap Job.pins))
    (rows : ∀ k, (t.frame k).row = { (s.frame k).row with cardPins := (s.frame k).cardPins - pinsOf s removed k })
    (hj : s.card.jobs.length ≤ queueTop → t.card.jobs.length ≤ queueTop)
    (hc : s.card.completions.length ≤ completionTop → t.card.completions.length ≤ completionTop) : Tame s t := by
  have repinned : Repinned s t (fun k => (s.frame k).viewPins) (fun k => (s.frame k).cardPins - pinsOf s removed k) := by
    refine ⟨rows, ?_, ?_, ?_, ?_, ?_⟩
    all_goals rw [only]
  have viewed : t.tab.viewed = s.tab.viewed := by rw [only]; rfl
  have carded : t.tab.carded = t.card.jobs.flatMap Job.pins := rfl
  refine repinned.tame ?_ ?_ ?_ ?_ ?_
  · have wf : t.dram = s.dram := by rw [only]
    have req : t.req = s.req := by rw [only]
    have history : t.readout = s.readout := by rw [only]
    have sync : t.sync = s.sync := by rw [only]
    exact ⟨fun h => wf ▸ h, fun h => by rwa [State.PostsInRange, req], fun h => by rwa [repinned.nextId],
      fun h => ⟨hj h.1, hc h.2.1, history ▸ h.2.2⟩, fun h => by rwa [State.ListensInArmed, sync, repinned.seq]⟩
  · intro pend ok k hk
    rw [viewed]
    exact ok.viewPins_eq hk
  · intro pend ok k hk
    have := jobs.count_eq (s.frame k).id
    rw [List.count_append] at this
    rw [carded, ok.cardPins_eq hk, ok.pinsOf_eq hk]
    change (s.card.jobs.flatMap Job.pins).count _ - _ = _
    omega
  · intro pend ok id hid
    exact ok.viewed_names (viewed ▸ hid)
  · intro pend ok id hid
    exact ok.carded_names (jobs.mem_iff.2 (List.mem_append_right _ hid))

theorem pinsOf_congr {s t : State} (h : ∀ id, t.find id = s.find id) (jobs : List Job) (k : Fin 16) :
    pinsOf t jobs k = pinsOf s jobs k := by
  simp only [pinsOf, h]

/-- The head job leaves the queue. -/
theorem tame_endHead (s : State) (outcome : JobOutcome) (mark : Bool) : Tame s (endHead outcome mark s) := by
  unfold endHead
  split
  · exact .refl s
  · next j rest hj =>
    set u := s.onCard fun c => { c with jobs := rest } with hu
    refine tame_released [j] ?_ ?_ ?_ ?_ ?_
    · exact ((onCard_onlyCard s _).trans (releasePin_onlyFrames u j mark).onlyCard).trans (addCompletion_onlyCard _ _)
    · simp only [addCompletion, State.onCard_card, releasePin_card, hj, hu, List.flatMap_cons, List.flatMap_nil,
        List.append_nil]
      exact .refl _
    · intro k
      change ((releasePin j mark u).frame k).row = _
      rw [releasePin_frame, pinsOf_cons]
      change (if j.kind = .writeFrame ∧ s.find j.frame = some k then _ else _ : Frame).row = _
      split
      · rfl
      · rfl
    · simp only [addCompletion, State.onCard_card, releasePin_card, hj, hu, List.length_cons]
      exact fun h => Nat.le_of_succ_le h
    · simp [addCompletion, completionTop]

/-- Jobs taken out of the queue end. -/
theorem tame_endJobs {s u : State} (outcome : JobOutcome) (removed : List Job) (only : OnlyCard s u)
    (frames : ∀ k, u.frame k = s.frame k)
    (jobs : (s.card.jobs.flatMap Job.pins).Perm (removed.flatMap Job.pins ++ u.card.jobs.flatMap Job.pins))
    (hj : s.card.jobs.length ≤ queueTop → u.card.jobs.length ≤ queueTop)
    (hc : s.card.completions.length ≤ completionTop → u.card.completions.length ≤ completionTop) :
    Tame s (endJobs outcome removed u) := by
  have find : ∀ id, u.find id = s.find id := find_congr fun k => by rw [frames]; exact ⟨rfl, rfl⟩
  refine tame_released removed (only.trans (endJobs_onlyCard _ _ _)) ?_ ?_ ?_ ?_
  · rwa [(endJobs_jobs outcome removed u).1]
  · intro k
    rw [endJobs_frame, frames]
    change Frame.row { s.frame k with cardPins := (s.frame k).cardPins - pinsOf u removed k } = _
    rw [pinsOf_congr find]
    rfl
  · rwa [(endJobs_jobs outcome removed u).1]
  · exact fun h => (endJobs_jobs outcome removed u).2 (hc h)

theorem tame_cancelQueued (s : State) : Tame s (cancelQueued s) := by
  unfold cancelQueued
  refine tame_endJobs _ _ (onCard_onlyCard s _) (fun _ => rfl) ?_ ?_ fun h => h
  · rw [← List.flatMap_append]
    refine List.Perm.flatMap_right _ ?_
    have := (List.filter_append_perm (fun j : Job => j.active) s.card.jobs).symm
    exact this.trans List.perm_append_comm
  · exact fun h => (List.length_filter_le _ _).trans h

/-! #### Sectors and transfers -/

theorem tame_fetchSector (s : State) (j : Job) (i : Nat) : Tame s (fetchSector j i s) := tame_issue s _ _

/-- A card engine whose transfer is changed. -/
theorem tame_onTransfer (s : State) (f : Transfer → Transfer) : Tame s (s.onCard fun c => c.onTransfer f) :=
  tame_onCard_same s rfl rfl

theorem tame_startSector (s : State) (j : Job) : Tame s (startSector j s) := by
  unfold startSector
  refine .ite (fun _ => ?_) fun _ => tame_onTransfer s _
  exact (tame_onTransfer s _).trans (tame_fetchSector _ _ _)

theorem tame_sendSector (s : State) (bytes : List Byte) : Tame s (sendSector bytes s) := by
  unfold sendSector
  exact (tame_onTransfer s _).trans (tame_send _ _)

theorem tame_prefetchSector (s : State) : Tame s (prefetchSector s) := by
  unfold prefetchSector
  split
  · refine .ite (fun _ => ?_) fun _ => .refl s
    exact (tame_onTransfer s _).trans (tame_fetchSector _ _ _)
  · exact .refl s

theorem tame_dropTransfer (s : State) : Tame s (dropTransfer s) := by
  unfold dropTransfer
  refine .trans ?_ (tame_onPath _ _)
  exact tame_onCard_same s rfl rfl

theorem tame_closeTransfer (s : State) : Tame s (closeTransfer s) :=
  (Tame.ite (fun _ => tame_send s _) fun _ => .refl s).trans (tame_dropTransfer _)

theorem tame_failActive (s : State) (reason : FailReason) (quiet : Bool) : Tame s (failActive reason quiet s) := by
  unfold failActive
  refine .trans ((tame_closeTransfer s).trans (tame_endHead _ _ _)) (.ite (fun _ => .refl _) fun _ => ?_)
  refine .trans ?_ (tame_raise _ _)
  exact tame_onCard_same _ rfl rfl

theorem tame_openWrite (s : State) (j : Job) : Tame s (openWrite j s) := by
  unfold openWrite
  refine .trans ?_ (tame_startSector _ _)
  refine .trans ?_ (tame_send _ _)
  exact tame_onCard_same s rfl rfl

theorem tame_openRead (s : State) (j : Job) : Tame s (openRead j s) := by
  unfold openRead
  refine .trans ?_ (tame_send _ _)
  exact tame_onCard_same s rfl rfl

theorem tame_sampleWriteProtect (s : State) : Tame s (sampleWriteProtect s) := tame_onCard_same s rfl rfl

/-- A change of the head job that leaves what it pins. -/
theorem tame_onHead (s : State) {f : Job → Job} (h : ∀ j, (f j).pins = j.pins) :
    Tame s (s.onCard fun c => c.onHead f) := by
  have jobs : (s.card.onHead f).jobs.flatMap Job.pins = s.card.jobs.flatMap Job.pins
      ∧ (s.card.onHead f).jobs.length = s.card.jobs.length ∧ (s.card.onHead f).completions = s.card.completions := by
    unfold CardEngine.onHead
    split
    · next hj => simp [hj, h]
    · next hj => simp
  exact tame_onCard s jobs.1 (fun h => jobs.2.1 ▸ h) fun h => jobs.2.2 ▸ h

theorem tame_activate (s : State) : Tame s (activate s) := by
  unfold activate
  split
  · exact .refl s
  · refine .ite (fun _ => .refl s) fun _ => ?_
    extract_lets u v
    have hu : Tame s u := tame_onHead s fun _ => rfl
    have hv : Tame s v := hu.trans (tame_sampleWriteProtect _)
    split
    · exact hu.trans (tame_openRead _ _)
    · exact hv.trans (.ite (fun _ => tame_failActive _ _ _) fun _ => tame_openWrite _ _)
    · refine hv.trans (.ite (fun _ => tame_failActive _ _ _) fun _ => ?_)
      split
      · exact tame_failActive _ _ _
      · refine .ite (fun _ => tame_failActive _ _ _) fun _ => ?_
        refine .trans ?_ (tame_openWrite _ _)
        exact tame_onCard_same _ rfl rfl

theorem tame_succeed (s : State) : Tame s (succeed s) := by
  unfold succeed
  split
  · exact .refl s
  · exact (((tame_closeTransfer s).trans (tame_endHead _ _ _)).trans (tame_raise _ _)).trans (tame_activate _)

theorem tame_takePending (s : State) (p : PendingEnd) : Tame s (takePending p s) :=
  (tame_failActive s _ _).trans (tame_activate _)

theorem tame_failSector (s : State) (reason : FailReason) : Tame s (failSector reason s) := by
  unfold failSector
  split
  · exact tame_takePending s _
  · exact tame_failActive s _ _

theorem tame_cardRows (s : State) (id : Word) (rows : Nat) : Tame s (cardRows id rows s) := by
  unfold cardRows
  split
  · exact .refl s
  · refine .ite (fun _ => ?_) fun _ => .refl s
    extract_lets u
    have hu : Tame s u := tame_onCard_same s rfl rfl
    split
    · exact hu.trans (.ite (fun _ => tame_startSector _ _) fun _ => tame_prefetchSector _)
    · exact hu

theorem tame_cardSpoiled (s : State) (id : Word) : Tame s (cardSpoiled id s) := by
  unfold cardSpoiled
  split
  · exact .refl s
  · refine .ite (fun _ => .ite (fun _ => ?_) fun _ => tame_failActive s _ _) fun _ => .refl s
    exact tame_onCard_same s rfl rfl

/-! #### Requests and events of the card engine -/

theorem tame_scheduleQueue (s : State) : Tame s (scheduleQueue s) := tame_onCard_same s rfl rfl

theorem tame_awaitQueue (s : State) : Tame s (awaitQueue s) := (tame_scheduleQueue s).trans (tame_onReq _ rfl rfl rfl)

theorem tame_decideCardResume (s : State) : Tame s (decideCardResume s).1 := by
  unfold decideCardResume
  split
  · refine .trans ?_ (tame_activate _)
    exact tame_onCard_same s rfl rfl
  · exact .refl s

theorem tame_decideCardFlush (s : State) : Tame s (decideCardFlush s).1 :=
  (Tame.ite (fun _ => .refl s) fun _ => tame_awaitQueue s).trans (tame_cancelQueued _)

theorem tame_detectLine (s : State) (a b : Bool) : Tame s (detectLine a b s) := by
  unfold detectLine
  refine .trans ?_ (tame_onCard_same _ rfl rfl)
  exact tame_onPins s _

theorem tame_insertion (s : State) : Tame s (insertion s) := by
  refine .ite (fun _ => ?_) fun _ => .refl s
  refine .trans ?_ (tame_send _ _)
  exact tame_onCard_same s rfl rfl

/-- The card engine once the card is gone, its jobs still in the queue. -/
def cardGone (s : State) : State :=
  scheduleQueue (dropTransfer (s.onCard fun c =>
    { c with state := .absent, initStage := none, initLimit := none, capacity := none, wpSample := none, halted := false }))

theorem removal_eq {s : State} (h : s.card.state ≠ .absent) : removal s = raise .cardChange
    (endJobs (.failed .cardGone) s.card.jobs ((cardGone s).onCard fun c => { c with jobs := [] })) := by
  unfold removal
  rw [if_neg h]
  rfl

theorem tame_cardGone (s : State) : Tame s (cardGone s) := by
  unfold cardGone
  refine .trans ?_ (tame_scheduleQueue _)
  refine .trans ?_ (tame_dropTransfer _)
  exact tame_onCard_same s rfl rfl

theorem tame_removal (s : State) : Tame s (removal s) := by
  by_cases h : s.card.state = .absent
  · unfold removal
    rw [if_pos h]
    exact .refl s
  · rw [removal_eq h]
    refine .trans (.trans (tame_cardGone s) ?_) (tame_raise _ _)
    refine tame_endJobs _ _ (onCard_onlyCard _ _) (fun _ => rfl) ?_ (fun _ => Nat.zero_le _) fun h => h
    exact .of_eq (List.append_nil _).symm

theorem tame_debounced (s : State) : Tame s (debounced s) := by
  unfold debounced
  extract_lets u
  have hu : Tame s u := tame_onCard_same s rfl rfl
  exact hu.trans (.ite (fun _ => tame_insertion _) fun _ => tame_removal _)

theorem tame_cardUnusable (s : State) : Tame s (cardUnusable s) := by
  unfold cardUnusable
  refine .trans ?_ (tame_raise _ _)
  exact tame_onCard_same s rfl rfl

theorem tame_identify (s : State) (block : List Byte) (check : Half) : Tame s (identify block check s) := by
  unfold identify
  refine .ite (fun _ => ?_) fun _ => tame_cardUnusable s
  refine .trans ?_ (tame_send _ _)
  exact tame_onCard_same s rfl rfl

theorem tame_takeCapacity (s : State) (bytes : List Byte) (check : Half) : Tame s (takeCapacity bytes check s) := by
  unfold takeCapacity
  refine .ite (fun _ => ?_) fun _ => tame_cardUnusable s
  refine .trans ?_ (tame_activate _)
  refine .trans ?_ (tame_raise _ _)
  refine .trans ?_ (tame_onCard_same _ rfl rfl)
  refine .trans ?_ (tame_sampleWriteProtect _)
  exact tame_onCard_same s rfl rfl

theorem tame_takeFetched (s : State) : Tame s (takeFetched s).1 := by
  refine (tame_drain s .card).trans ?_
  dsimp only [takeFetched]
  exact tame_onPath _ _

theorem tame_sectorFetched (s : State) : Tame s (sectorFetched s) := by
  unfold sectorFetched
  exact (tame_takeFetched s).trans (.ite (fun _ => tame_sendSector _ _) fun _ => tame_onTransfer _ _)

theorem tame_takeToken (s : State) (token : Token) : Tame s (takeToken token s) := by
  cases token with
  | accepted => exact (tame_onTransfer s _).trans (tame_prefetchSector _)
  | crcReject => exact tame_failSector s _
  | writeFault => exact tame_failSector s _

theorem tame_sectorDone (s : State) : Tame s (sectorDone s) := tame_onHead s fun _ => rfl

theorem tame_nextSector (s : State) : Tame s (nextSector s) := by
  unfold nextSector
  split
  · refine .ite (fun _ => tame_succeed s) fun _ => ?_
    split
    · exact tame_sendSector s _
    · exact tame_onTransfer s _
    · exact tame_startSector s _
  · exact .refl s

theorem tame_busyEnd (s : State) : Tame s (busyEnd s) := by
  unfold busyEnd
  extract_lets u
  have hu : Tame s u := (tame_sectorDone s).trans (tame_onTransfer _ _)
  split
  · exact hu.trans (tame_takePending _ _)
  · exact hu.trans (tame_nextSector _)

theorem tame_readStored (s : State) : Tame s (readStored s) := by
  unfold readStored
  extract_lets u
  have hu : Tame s u := (tame_drain s _).trans (tame_sectorDone _)
  split
  · exact hu.trans (tame_takePending _ _)
  · split
    · exact hu.trans (.ite (fun _ => tame_succeed _) fun _ => .refl _)
    · exact hu

theorem tame_receiveSector (s : State) (bytes : List Byte) (check : Half) : Tame s (receiveSector bytes check s) := by
  unfold receiveSector
  split
  · refine .ite (fun _ => ?_) fun _ => tame_failSector s _
    exact (tame_issue s _ _).trans (tame_onTransfer _ _)
  · exact .refl s

theorem tame_afterStoring {f : State → State} (h : ∀ s, Tame s (f s)) (s : State) : Tame s (afterStoring f s) :=
  .ite (fun _ => .ite (fun _ => tame_readStored s) fun _ => (tame_readStored s).trans (h _)) fun _ => h s

theorem tame_sectorLimit (s : State) : Tame s (sectorLimit s) :=
  .ite (fun _ => .ite (fun _ => tame_afterStoring (fun s => tame_failSector s _) s) fun _ => .refl s)
    fun _ => tame_failSector s _

theorem tame_restartCard (s : State) : Tame s (restartCard s) := by
  unfold restartCard
  refine .trans ?_ (tame_awaitQueue _)
  refine .trans ?_ (tame_cancelQueued _)
  refine .ite (fun _ => .ite (fun _ => ?_) fun _ => tame_failActive s _ _) fun _ => .refl s
  exact tame_onCard_same s rfl rfl

/-! #### CARD_JOB -/

/-- What the checks of an accepted CARD_JOB leave (R152). -/
theorem cardJobCheck_none {s : State} {f : CardJobFields} (h : s.cardJobCheck f = none) :
    s.card.jobs.length < queueTop ∧ (jobKindOf f.kind = some .writeFrame → ∃ k, s.find f.frame = some k) := by
  unfold State.cardJobCheck at h
  split at h
  · cases h
  · split at h
    · cases h
    · next hlen =>
      refine ⟨Nat.lt_of_not_le hlen, fun hk => ?_⟩
      split at h
      · cases h
      · split at h
        · cases h
        · unfold State.frameJobCheck at h
          split at h
          · cases h
          · next k hf => exact ⟨k, hf⟩

/-- A job joins the queue with its pin. -/
def enqueueJob (j : Job) (s : State) : State :=
  let s := s.onCard fun c => { c with jobs := c.jobs ++ [j] }
  if j.kind = .writeFrame then pinCard j.frame s else s

theorem decideCardJob_accepted {s : State} {f : CardJobFields} {kind : JobKind} (h : s.cardJobCheck f = none)
    (hk : jobKindOf f.kind = some kind) :
    decideCardJob f s = (activate (awaitQueue (enqueueJob (newJob f kind) s)), some .ok) := by
  unfold decideCardJob
  rw [h, hk]
  rfl

theorem pinCard_frame (s : State) (id : Word) (k : Fin 16) : (pinCard id s).frame k =
    if s.find id = some k then { s.frame k with cardPins := (s.frame k).cardPins + 1 } else s.frame k := by
  rw [← frame_report s id (fun f => { f with cardPins := f.cardPins + 1 }) k]
  unfold pinCard report
  cases s.find id <;> rfl

theorem enqueueJob_frame (s : State) (j : Job) (k : Fin 16) : (enqueueJob j s).frame k =
    if j.kind = .writeFrame ∧ s.find j.frame = some k then { s.frame k with cardPins := (s.frame k).cardPins + 1 }
    else s.frame k := by
  unfold enqueueJob
  by_cases hk : j.kind = .writeFrame
  · simp only [hk, if_true, true_and]
    exact pinCard_frame _ _ _
  · simp only [hk, if_false, false_and]
    rfl

theorem enqueueJob_jobs (s : State) (j : Job) : (enqueueJob j s).card = { s.card with jobs := s.card.jobs ++ [j] } := by
  unfold enqueueJob pinCard
  dsimp only
  split
  · split <;> rfl
  · rfl

/-- A job that joins the queue touches the queue, its record and the mirror writes due for it. -/
theorem enqueueJob_eq (s : State) (j : Job) : enqueueJob j s = { s with
    card := (enqueueJob j s).card
    store := { s.store with frames := (enqueueJob j s).store.frames, mirrorDue := (enqueueJob j s).store.mirrorDue }
    req := { s.req with waits := (enqueueJob j s).req.waits } } := by
  unfold enqueueJob pinCard
  dsimp only
  split
  · split <;> rfl
  · rfl

theorem steady_enqueueJob (s : State) (j : Job) (hlen : s.card.jobs.length < queueTop) : Steady s (enqueueJob j s) := by
  have lists : s.ListsBounded → (enqueueJob j s).ListsBounded := fun h => by
    rw [State.ListsBounded, enqueueJob_jobs]
    refine ⟨by simpa using hlen, h.2.1, ?_⟩
    rw [enqueueJob_eq]
    exact h.2.2
  refine ⟨fun h => ?_, fun h => ?_, fun h => ?_, lists, fun h => ?_⟩
  all_goals rw [enqueueJob_eq]; exact h

theorem tame_enqueueJob (s : State) (j : Job) (hlen : s.card.jobs.length < queueTop)
    (hf : j.kind = .writeFrame → ∃ k, s.find j.frame = some k) : Tame s (enqueueJob j s) := by
  have carded : (enqueueJob j s).tab.carded = s.tab.carded ++ j.pins := by
    simp [State.tab, enqueueJob_jobs]
  have repinned : Repinned s (enqueueJob j s) (fun k => (s.frame k).viewPins)
      (fun k => (s.frame k).cardPins + pinsOf s [j] k) := by
    refine ⟨fun k => ?_, ?_, ?_, ?_, ?_, ?_⟩
    · rw [enqueueJob_frame, pinsOf_cons]
      split <;> rfl
    all_goals rw [enqueueJob_eq]
  have viewed : (enqueueJob j s).tab.viewed = s.tab.viewed := by rw [enqueueJob_eq]; rfl
  refine repinned.tame (steady_enqueueJob s j hlen) ?_ ?_ ?_ ?_
  · intro pend ok k hk
    rw [viewed]
    exact ok.viewPins_eq hk
  · intro pend ok k hk
    rw [carded, List.count_append, ok.cardPins_eq hk, ok.pinsOf_eq hk, List.flatMap_singleton]
  · intro pend ok id hid
    exact ok.viewed_names (viewed ▸ hid)
  · intro pend ok id hid
    rw [carded, List.mem_append] at hid
    rcases hid with hid | hid
    · exact ok.carded_names hid
    · unfold Job.pins at hid
      split at hid
      · next hk =>
        obtain rfl := List.mem_singleton.1 hid
        obtain ⟨k, hk⟩ := hf hk
        exact ⟨k, ok.find_iff.1 hk⟩
      · cases hid

theorem tame_decideCardJob (s : State) (f : CardJobFields) : Tame s (decideCardJob f s).1 := by
  cases hc : s.cardJobCheck f with
  | some code => unfold decideCardJob; rw [hc]; exact .refl s
  | none =>
    cases hk : jobKindOf f.kind with
    | none => unfold decideCardJob; rw [hc, hk]; exact .refl s
    | some kind =>
      obtain ⟨hlen, hf⟩ := cardJobCheck_none hc
      rw [decideCardJob_accepted hc hk]
      refine .trans (.trans ?_ (tame_awaitQueue _)) (tame_activate _)
      exact tame_enqueueJob s _ hlen fun h => hf (hk.trans (congrArg some h))

end Sys2Proof.Machine

namespace Sys2Proof.Machine

/-! ### Shots that begin and end (R6, R7, R58, R72, R74)

A record in flight is that of the shot. A shot is left only once its record has landed, that is completed or been
spoiled; a shot is made only with the record of an allocation. -/

/-- No record is in flight and there is no shot. -/
structure State.Left (pend : List Word) (s : State) : Prop where
  flies : s.Flies pend none
  shot : s.seq.shot = none

section
variable {s t : State} {pend : List Word}

theorem State.Left.good (h : s.Left pend) : s.Good pend := by
  refine State.Flies.good ?_ fun _ => h.shot
  rw [shotKey_eq_none.2 h.shot]
  exact h.flies

theorem State.Good.left (h : s.Good pend) (hs : s.seq.shot = none) : s.Left pend :=
  ⟨shotKey_eq_none.2 hs ▸ h.flies, hs⟩

theorem Calm.left (h : Calm s t) (g : s.Flies pend none) (hs : t.seq.shot = none) : t.Left pend := ⟨h.flies g, hs⟩

theorem Tame.left (h : Tame s t) (g : s.Left pend) : t.Left pend :=
  h.calm.left g.flies (shotKey_eq_none.1 (h.shot.trans (shotKey_eq_none.2 g.shot)))

/-- A table without a record in flight may be said to hold any. -/
theorem State.Flies.of_none {key : Option (Fin 16 × Word)} (h : s.Flies pend none) : s.Flies pend key :=
  ⟨h.ok, fun k hk => nomatch h.flight k hk⟩

/-- A sequencer in the same state, whatever its shot. -/
theorem calm_onSeq (s : State) {f : Sequencer → Sequencer} (h : (f s.seq).state = s.seq.state) : Calm s (s.onSeq f) :=
  ⟨⟨fun h => h, fun h => h, fun h => h, fun h => h, fun g x => h.trans (g x)⟩, fun _ h => h, fun _ h => ⟨h, rfl⟩⟩

theorem calm_seqEnter (s : State) (st : SeqState) : Calm s (seqEnter st s) := by
  obtain ⟨htab, -, -, hframe⟩ := seqEnter_tab s st
  exact ⟨steady_seqEnter s st, fun _ x => by rw [State.Ok, htab]; exact x,
    fun k x => by rw [hframe] at x ⊢; exact ⟨x, rfl⟩⟩

/-- A state with a shot that is not a resting one. -/
theorem State.Flies.enter {key : Option (Fin 16 × Word)} (h : s.Flies pend key) (hk : s.shotKey = key) {st : SeqState}
    (hst : ¬ st.Rests) : (seqEnter st s).Good pend := by
  obtain ⟨-, hshot, hstate, -⟩ := seqEnter_tab s st
  have flies := (calm_seqEnter s st).flies h
  have key : (seqEnter st s).shotKey = s.shotKey := by rw [State.shotKey, hshot]; rfl
  exact State.Flies.good (by rw [key, hk]; exact flies) fun hr => absurd (hstate ▸ hr) hst

theorem State.Left.enter (h : s.Left pend) (st : SeqState) : (seqEnter st s).Left pend :=
  (calm_seqEnter s st).left h.flies ((seqEnter_tab s st).2.1.trans h.shot)

theorem calm_enterArmed (s : State) : Calm s (enterArmed s) := by
  unfold enterArmed
  extract_lets u
  have hu : Calm s u := (calm_seqEnter s .armed).trans (calm_onSeq _ rfl)
  refine hu.trans ?_
  split
  · exact (Tame.refl _).calm
  · exact (tame_issueFlush _).calm

theorem enterArmed_shot (s : State) : (enterArmed s).seq.shot = s.seq.shot := by rw [enterArmed_eq]

theorem State.Left.enterArmed (h : s.Left pend) : (enterArmed s).Left pend :=
  (calm_enterArmed s).left h.flies ((enterArmed_shot s).trans h.shot)

/-- The shot is left. -/
theorem calm_enterReturn (s : State) (h : Shot) : Calm s (enterReturn h s) := by
  unfold enterReturn
  refine .trans (calm_onSeq s (f := fun q => { q with shot := none }) rfl) ?_
  split
  · exact calm_enterArmed _
  · exact calm_seqEnter _ _

theorem enterReturn_shot (s : State) (h : Shot) : (enterReturn h s).seq.shot = none := by
  unfold enterReturn
  extract_lets u
  split
  · exact enterArmed_shot u
  · exact (seqEnter_tab u .idle).2.1

theorem State.Flies.enterReturn (g : s.Flies pend none) (h : Shot) : (enterReturn h s).Left pend :=
  (calm_enterReturn s h).left g (enterReturn_shot s h)

/-! #### Spoils -/

theorem replaced_setFrame (s : State) (k : Fin 16) (f : Frame) :
    (s.setFrame k f).tab.rows = Function.update s.tab.rows k f.row := by
  funext j
  rw [Function.update_apply, State.tab_rows, State.frame_setFrame]
  split <;> rfl

/-- A record in flight is spoiled, and what is lodged with it dropped. -/
theorem tame_spoilRecord (s : State) {k : Fin 16} (h : (s.frame k).inFlight = true) (reason : SpoilReason) :
    Tame s (spoilRecord k reason s) := by
  have frame : ∀ j, (spoilRecord k reason s).frame j =
      if j = k then { s.frame k with state := .spoiled, spoil := some reason } else s.frame j :=
    fun j => State.frame_setFrame s k j _
  refine ⟨⟨fun h => h, fun h => h, fun h => h, fun h => h, fun h => h⟩, fun pend ok => ?_, fun j hj => ?_, rfl, fun h => h⟩
  · refine Tab.Core.spoil ok (k := k) (by simpa using h) ?_ rfl rfl rfl ?_ rfl rfl
    · exact replaced_setFrame s k _
    · intro d i hl
      obtain ⟨hl, hd⟩ := Option.filter_eq_some_iff.1 hl
      exact ⟨hl, by simpa using hd⟩
  · rw [frame] at hj ⊢
    split at hj
    · cases hj
    · next hne => simpa [hne] using hj

theorem tame_spoilFrame (s : State) (id : Word) (reason : SpoilReason) : Tame s (spoilFrame id reason s) := by
  unfold spoilFrame
  split
  · next k hk =>
    obtain ⟨-, hf⟩ := Option.filter_eq_some_iff.1 hk
    exact ((tame_spoilRecord s hf reason).trans (tame_breakViews _ _)).trans (tame_cardSpoiled _ _)
  · exact .refl s

/-- A spoil of the frame in flight leaves no record in flight. -/
theorem State.Flies.spoilFrame {key : Option (Fin 16 × Word)} (g : s.Flies pend key) {id : Word}
    (hid : ∀ x, key = some x → x.2 = id) (reason : SpoilReason) : (spoilFrame id reason s).Flies pend none := by
  refine ⟨(tame_spoilFrame s id reason).ok pend g.ok, fun j hj => ?_⟩
  exfalso
  obtain ⟨hs, -⟩ := (tame_spoilFrame s id reason).flight j hj
  have found : s.find id = some j := by
    rw [g.ok.find_iff]
    exact ⟨Frame.live_of_inFlight hs, hid _ (g.flight j hs)⟩
  have inFlight : s.inFlightRecord id = some j := by simp [State.inFlightRecord, found, hs]
  unfold Machine.spoilFrame at hj
  rw [inFlight] at hj
  have landed := ((tame_breakViews (spoilRecord j reason s) id).trans (tame_cardSpoiled _ id)).flight j hj
  have spoiled : (spoilRecord j reason s).frame j = { s.frame j with state := .spoiled, spoil := some reason } :=
    State.frame_setFrame_same s j _
  rw [spoiled] at landed
  simp [Frame.inFlight] at landed

theorem shotKey_of_shot {h : Shot} (hs : s.seq.shot = some h) : s.shotKey = some (h.slot, h.id) := by
  rw [State.shotKey, hs]; rfl

/-- A spoil of the shot's frame lands it. -/
theorem State.Good.spoilFrame (g : s.Good pend) {h : Shot} (hs : s.seq.shot = some h) (reason : SpoilReason) :
    (Machine.spoilFrame h.id reason s).Flies pend none := by
  refine g.flies.spoilFrame (fun x hx => ?_) reason
  rw [shotKey_of_shot hs] at hx
  obtain rfl := Option.some.inj hx
  rfl

/-- What R74 does behind the spoil is about the shot alone. -/
theorem calm_spoilShot_of_spoilFrame (s : State) (h : Shot) (reason : SpoilReason) :
    Calm (spoilFrame h.id reason s) (spoilShot h reason s) := by
  unfold spoilShot
  extract_lets exposing u v
  have hu : Tame (spoilFrame h.id reason s) u := (tame_driveOff _).trans (tame_clearTarget _)
  have row : ∀ x : Frame, (if x.integStart.isSome then { x with integEnd := some u.clock } else x : Frame).row = x.row := by
    intro x; split <;> rfl
  have hv : Tame u v := .ite (fun _ => (tame_report u _ row).trans (tame_closingFlush _)) fun _ => .refl u
  exact (hu.trans hv).calm.trans (calm_onSeq v rfl)

theorem calm_spoilShot (s : State) (h : Shot) (reason : SpoilReason) : Calm s (spoilShot h reason s) :=
  (tame_spoilFrame s h.id reason).calm.trans (calm_spoilShot_of_spoilFrame s h reason)

theorem State.Good.spoilShot (g : s.Good pend) {h : Shot} (hs : s.seq.shot = some h) (reason : SpoilReason) :
    (spoilShot h reason s).Left pend :=
  (calm_spoilShot_of_spoilFrame s h reason).left (g.spoilFrame hs reason) rfl

theorem calm_leaveSpoiled (s : State) (h : Shot) (reason : SpoilReason) (after : AfterSpoil) :
    Calm s (leaveSpoiled h reason after s) := by
  unfold leaveSpoiled
  refine (calm_spoilShot s h reason).trans ?_
  cases after with
  | idle => exact calm_seqEnter _ .idle
  | armed => exact calm_enterArmed _
  | returning => exact calm_enterReturn _ h

theorem State.Good.leaveSpoiled (g : s.Good pend) {h : Shot} (hs : s.seq.shot = some h) (reason : SpoilReason)
    (after : AfterSpoil) : (leaveSpoiled h reason after s).Left pend := by
  have left := g.spoilShot hs reason
  unfold Machine.leaveSpoiled
  cases after with
  | idle => exact left.enter .idle
  | armed => exact left.enterArmed
  | returning => exact left.flies.enterReturn h

/-! #### New shots -/

/-- The shot of a record in flight is made. -/
theorem State.Flies.makeShot {h : Shot} (g : s.Flies pend (some (h.slot, h.id))) :
    (makeShot h s).Flies pend (some (h.slot, h.id)) :=
  ((calm_onSeq s (f := fun q => { q with shot := some h }) rfl).trans (tame_setTarget _ _ _).calm).flies g

theorem makeShot_shotKey (s : State) (h : Shot) : (makeShot h s).shotKey = some (h.slot, h.id) := rfl

theorem calm_makeShot (s : State) (h : Shot) : Calm s (makeShot h s) :=
  (calm_onSeq s (f := fun q => { q with shot := some h }) rfl).trans (tame_setTarget _ _ _).calm

/-- PREPARING of a shot just made. -/
theorem State.Flies.enterPreparing (g : s.Flies pend s.shotKey) (hs : s.seq.shot ≠ none) :
    (enterPreparing s).Good pend := by
  unfold Machine.enterPreparing
  split
  · next h => exact absurd h hs
  · next h hs =>
    extract_lets check u
    have entered (f : Shot → Shot) (hf : ∀ x, (f x).slot = x.slot ∧ (f x).id = x.id) :
        (seqEnter .preparing (onShot f s)).Good pend :=
      ((tame_onShot s hf).flies g).enter (tame_onShot s hf).shot (by decide)
    have hu : u.Good pend := entered _ fun _ => ⟨rfl, rfl⟩
    split
    · exact (tame_checkCommand u _).good hu
    · exact (tame_beginPasses u).good hu

theorem calm_runDark (s : State) (origin : Origin) (ret : Bool) (o : DarkOrder) : Calm s (runDark origin ret o s) :=
  (calm_makeShot s _).trans (tame_enterPreparing _).calm

theorem State.Flies.runDark (origin : Origin) (ret : Bool) {o : DarkOrder} (g : s.Flies pend (some (o.slot, o.id))) :
    (runDark origin ret o s).Good pend := by
  have made := State.Flies.makeShot (h := newShot o.id o.slot .dark origin none 0 ret s.setup.exposure o.duration) g
  exact made.enterPreparing nofun

end

end Sys2Proof.Machine

namespace Sys2Proof.Machine

/-! ### Allocations and dark decisions keep the table (R4, R5, R15, R16, R103 to R111) -/

variable {s t : State} {pend : List Word}

/-! #### Allocation -/

theorem heldIds_length (s : State) : s.heldIds.length = s.tab.live.card := by
  rw [State.heldIds, List.length_map, ← ranks_length, State.ranks, List.length_map]

/-- A record that blocks nothing (R14). -/
theorem blocked_eq_false {f : Frame} (h : f.blocked = false) : f.viewPins = 0 ∧ f.cardPins = 0 ∧ f.keep = false
    ∧ f.darkUsers = 0 ∧ f.darkState ≠ .pending ∧ f.awaitDark = false ∧ f.inFlight = false := by
  simpa [Frame.blocked, and_assoc] using h

/-- A record that is neither FREE nor held becomes FREE. -/
theorem State.Ok.freeRecord (h : s.Ok pend) {k : Fin 16} (hk : (s.frame k).state ≠ .free) (hv : (s.frame k).viewPins = 0)
    (hc : (s.frame k).cardPins = 0) (hu : (s.frame k).darkUsers = 0) (hp : (s.frame k).darkState ≠ .pending)
    (ha : (s.frame k).awaitDark = false) (hf : (s.frame k).inFlight = false) : (freeRecord k s).Ok pend := by
  have only := freeRecord_onlyFrames k s
  have viewed : (Machine.freeRecord k s).tab.viewed = s.tab.viewed := by rw [only]; rfl
  have carded : (Machine.freeRecord k s).tab.carded = s.tab.carded := by rw [only]; rfl
  refine Tab.Core.free (k := k) h (by simpa using hk) ?_ hv hc hu hp ha ?_ ?_ ?_ viewed carded ?_ ?_ ?_
  · rw [Ne, State.tab_rows, Frame.row_flight, hf]; exact nofun
  · simp [Frame.free]
  · intro m hm
    change ((Machine.freeRecord k s).frame m).row = _
    rw [freeRecord_frame_other s hm]
    have link : (s.frame k).darkState.link.bind s.find = some m
        ↔ (s.frame m).state ≠ .free ∧ (s.frame k).darkState = .linked (s.frame m).id := by
      cases hd : (s.frame k).darkState with
      | linked d =>
        simp only [DarkState.link, Option.bind_some, h.find_iff, DarkState.linked.injEq]
        exact and_congr_right fun _ => eq_comm
      | _ => simp [DarkState.link]
    simp only [link, State.tab_rows, Ne, Frame.row_free]
    rfl
  · exact freeRecord_nextId s k
  · exact freeRecord_lodged s k
  · rw [only]; rfl
  · rw [only]; rfl

/-- A slot is taken back from its record. -/
theorem State.Ok.reclaim (h : s.Ok pend) {g : Nat} {k : Fin 16} (hc : s.candidate = some (g, k)) :
    (reclaim g k s).Ok pend := by
  rcases candidate_cases hc with ⟨rfl, -⟩ | ⟨hg, hb, hne⟩
  · exact h
  · obtain ⟨hv, hcp, -, hu, hp, ha, hf⟩ := blocked_eq_false hb
    have freed := h.freeRecord hne hv hcp hu hp ha hf
    unfold Machine.reclaim
    rw [if_neg hg]
    split
    · exact (tame_raise _ _).ok pend freed
    · exact freed

/-- The record of an allocation in its slot. -/
theorem State.Ok.fillSlot (h : s.Ok pend) {k : Fin 16} (hk : (s.frame k).state = .free) {id : Word} (hid : id ≠ 0)
    (hfresh : ∀ m, (s.frame m).state ≠ .free → (s.frame m).id ≠ id) (kind : FrameKind) (origin : Origin)
    (mode : Option ShotMode) : (fillSlot k id kind origin mode s).Ok pend := by
  have row : (newFrame id kind origin mode s.heldIds.length (s.frame k).changeCount).row
      = ⟨.exposing, id, kind, .none, false, 0, 0, 0, s.tab.live.card⟩ := by rw [← heldIds_length]; rfl
  refine Tab.Core.fill (k := k) (id := id) (kind := kind) h (by simpa using hk) hid ?_ ?_ ?_ rfl rfl rfl rfl rfl
  · exact fun m hm => by
      rw [State.tab_rows, Frame.row_names] at hm
      exact hfresh m hm.1 hm.2
  · exact row ▸ replaced_setFrame s k _
  · exact fillSlot_nextId_ne_zero k id kind origin mode s

/-- What an allocation leaves of the other records (R5, R13). -/
theorem allocate_row {kind : FrameKind} {origin : Origin} {mode : Option ShotMode} {k : Fin 16} {id : Word}
    (h : allocate kind origin mode s = (t, some (k, id))) {j : Fin 16} (hj : j ≠ k) :
    (t.frame j).row = { (s.frame j).row with age := (t.frame j).age, darkUsers := (t.frame j).darkUsers } := by
  rcases allocate_cases h with ⟨-, -, hr⟩ | ⟨g, k', hc, hr, rfl⟩
  · cases hr
  · cases hr
    rw [fillSlot_frame, if_neg hj, reclaim_frame_other hc hj]
    rfl

/-- The record of an allocation (R16). -/
theorem allocate_frame {kind : FrameKind} {origin : Origin} {mode : Option ShotMode} {k : Fin 16} {id : Word}
    (h : allocate kind origin mode s = (t, some (k, id))) :
    (t.frame k).state = .exposing ∧ (t.frame k).id = id ∧ (t.frame k).kind = kind := by
  rcases allocate_cases h with ⟨-, -, hr⟩ | ⟨g, k', hc, hr, rfl⟩
  · cases hr
  · cases hr
    rw [fillSlot_frame, if_pos rfl]
    exact ⟨rfl, rfl, rfl⟩

/-- Outside the records, the counter and the causes an allocation changes nothing. -/
theorem allocate_eq {kind : FrameKind} {origin : Origin} {mode : Option ShotMode} {r : Option (Fin 16 × Word)}
    (h : allocate kind origin mode s = (t, r)) : t = { s with
      store := { s.store with frames := t.store.frames, nextId := t.store.nextId }
      req := { s.req with causes := t.req.causes } } := by
  rcases allocate_cases h with ⟨-, rfl, -⟩ | ⟨g, k, hc, -, rfl⟩
  · rfl
  · rw [fillSlot_reclaim_eq]

theorem allocate_seq {kind : FrameKind} {origin : Origin} {mode : Option ShotMode} {r : Option (Fin 16 × Word)}
    (h : allocate kind origin mode s = (t, r)) : t.seq = s.seq := by rw [allocate_eq h]

theorem steady_allocate {kind : FrameKind} {origin : Origin} {mode : Option ShotMode} {r : Option (Fin 16 × Word)}
    (h : allocate kind origin mode s = (t, r)) : Steady s t := by
  have nextId : s.store.nextId ≠ 0 → t.store.nextId ≠ 0 := by
    rcases allocate_cases h with ⟨-, rfl, -⟩ | ⟨g, k, -, -, rfl⟩
    · exact fun h => h
    · exact fun _ => fillSlot_nextId_ne_zero _ _ _ _ _ _
  refine ⟨fun x => ?_, fun x => ?_, nextId, fun x => ?_, fun x => ?_⟩
  all_goals rw [allocate_eq h]; exact x

/-- An allocation while nothing is in flight: the new record alone flies. -/
theorem State.Flies.allocate (g : s.Flies pend none) {kind : FrameKind} {origin : Origin} {mode : Option ShotMode}
    {r : Option (Fin 16 × Word)} (h : allocate kind origin mode s = (t, r)) : t.Flies pend r := by
  rcases allocate_cases h with ⟨-, rfl, rfl⟩ | ⟨grp, k, hc, rfl, rfl⟩
  · exact (tame_raise s _).flies g
  · have nextId : s.store.nextId ≠ 0 := g.ok.nextId
    refine ⟨(g.ok.reclaim hc).fillSlot (reclaim_frame_same hc).1 (freshId_ne_zero nextId) ?_ _ _ _, fun j hj => ?_⟩
    · intro m hm
      by_cases hmk : m = k
      · exact absurd (hmk ▸ (reclaim_frame_same hc).1) hm
      · rw [reclaim_frame_other hc hmk] at hm ⊢
        exact freshId_not_held nextId m hm
    · by_cases hjk : j = k
      · subst hjk
        rw [fillSlot_frame, if_pos rfl]
        rfl
      · rw [fillSlot_frame, if_neg hjk, reclaim_frame_other hc hjk] at hj
        exact absurd (g.flight j hj) nofun

/-! #### The decision for a completed light frame -/

theorem report_of_find {id : Word} {k : Fin 16} (h : s.find id = some k) (f : Frame → Frame) :
    report id f s = s.setFrame k (f (s.frame k)) := by
  unfold report
  rw [h]

/-- A frame on its way to its decision awaits it. -/
theorem State.Ok.awaiting {id : Word} (h : s.Ok (id :: pend)) :
    ∃ k, s.find id = some k ∧ (s.frame k).state = .complete ∧ (s.frame k).awaitDark = true := by
  obtain ⟨k, hn, hs, ha⟩ := Tab.Core.undecided h id (by simp)
  exact ⟨k, h.find_iff.2 (by simpa using hn), by simpa using hs, ha⟩

/-- The decision for a frame that is to have no dark now (R103, R107, R115). -/
theorem State.Ok.decide {id : Word} (h : s.Ok (id :: pend)) {f : Frame → Frame} {d : DarkState} (hd : ∀ i, d ≠ .linked i)
    (hf : ∀ x, (f x).row = { x.row with darkState := d, awaitDark := false }) : (report id f s).Ok pend := by
  obtain ⟨k, hk, hs, ha⟩ := h.awaiting
  obtain ⟨hlive, rfl⟩ := h.find_iff.1 hk
  rw [report_of_find hk]
  refine Tab.Core.decideWithout (k := k) h (by simpa using hlive) d hd ha ?_ rfl rfl rfl rfl rfl List.perm_middle
  exact (hf (s.frame k)) ▸ replaced_setFrame s k _

/-- The dark that the reuse search finds (R105). -/
theorem bestDark_mem {difference age : Fin 16 → Nat} {l : List (Fin 16)} {j : Fin 16}
    (h : bestDark difference age l = some j) : j ∈ l := by
  induction l with
  | nil => cases h
  | cons k rest ih =>
    unfold bestDark at h
    split at h
    · obtain rfl := Option.some.inj h
      exact List.mem_cons_self
    · next i hi =>
      split at h
      · obtain rfl := Option.some.inj h
        exact List.mem_cons_of_mem _ (ih hi)
      · obtain rfl := Option.some.inj h
        exact List.mem_cons_self

theorem reuse_spec {p : DarkParams} {k j : Fin 16} (h : s.reuse p k = some j) :
    (s.frame j).state = .complete ∧ (s.frame j).kind = .dark := by
  have matches_ := (List.mem_filter.1 (bestDark_mem h)).2
  simp only [darkMatches, Bool.and_eq_true, beq_iff_eq] at matches_
  exact matches_.1.1.1

/-- A stored dark is linked to the light frame and gains a user. -/
def linkDark (id d : Word) (s : State) : State :=
  report d (fun r => { r with darkUsers := r.darkUsers + 1 }) (settleDark id (.linked d) s)

theorem settleDark_find (id : Word) (d : DarkState) (s : State) (i : Word) : (settleDark id d s).find i = s.find i :=
  find_congr (fun k => by unfold settleDark; rw [frame_report]; split <;> exact ⟨rfl, rfl⟩) i

theorem linkDark_frame (id d : Word) (s : State) (m : Fin 16) : (linkDark id d s).frame m = { s.frame m with
    darkState := if s.find id = some m then .linked d else (s.frame m).darkState
    awaitDark := if s.find id = some m then false else (s.frame m).awaitDark
    darkUsers := if s.find d = some m then (s.frame m).darkUsers + 1 else (s.frame m).darkUsers } := by
  unfold linkDark
  rw [frame_report, settleDark_find]
  unfold settleDark
  rw [frame_report]
  split <;> split <;> rfl

theorem linkDark_onlyFrames (id d : Word) (s : State) : OnlyFrames s (linkDark id d s) :=
  (report_onlyFrames _ _ s).trans (report_onlyFrames _ _ _)

theorem State.Ok.linkDark {id : Word} (h : s.Ok (id :: pend)) {j : Fin 16} (hs : (s.frame j).state = .complete)
    (hd : (s.frame j).kind = .dark) : (linkDark id (s.frame j).id s).Ok pend := by
  obtain ⟨k, hk, hks, ha⟩ := h.awaiting
  obtain ⟨-, rfl⟩ := h.find_iff.1 hk
  have hj : s.find (s.frame j).id = some j := h.find_iff.2 ⟨by simp [hs], rfl⟩
  have only := linkDark_onlyFrames (s.frame k).id (s.frame j).id s
  refine Tab.Core.decideLink (k := k) (j := j) h (by simpa using hks) ha (by simpa using hs) hd ?_ ?_ ?_ ?_ ?_ ?_ ?_
  · intro m
    change ((Machine.linkDark _ _ s).frame m).row = _
    rw [linkDark_frame, hk, hj]
    simp only [Option.some.injEq, eq_comm (a := k), eq_comm (a := j)]
    rfl
  · rw [only]; rfl
  · rw [only]; rfl
  · rw [only]; rfl
  · rw [only]; rfl
  · rw [only]; rfl
  · have : (Machine.linkDark (s.frame k).id (s.frame j).id s).tab.undecided = s.tab.undecided := by rw [only]; rfl
    rw [this]
    exact List.perm_middle

/-! #### Dark jobs -/

/-- The dark unit's job changes to one whose light frame awaits a dark, or to none. -/
theorem State.Ok.onDark (h : s.Ok pend) {f : DarkUnit → DarkUnit}
    (hl : ∀ l, (f s.dark).job.bind (·.light) = some l → s.AwaitsDark l) : (s.onDark f).Ok pend := by
  refine Tab.Core.rehold h rfl rfl rfl rfl h.lodged (fun l hjob => ?_) (List.Perm.refl _)
  obtain ⟨k, hk, hs, hp, ha⟩ := hl l hjob
  exact ⟨k, by simpa using h.find_iff.1 hk, by simpa using hs, hp, ha⟩

/-- A link is lodged with a dark in flight (R109). -/
theorem State.Ok.lodge (h : s.Ok pend) {d i : Word} (hi : s.AwaitsDark i) {k : Fin 16} (hk : s.find d = some k)
    (hf : (s.frame k).inFlight = true) (hd : (s.frame k).kind = .dark) :
    (s.onStore fun t => { t with lodged := some (d, i) }).Ok pend := by
  refine Tab.Core.rehold h rfl rfl rfl rfl (fun d' i' hl => ?_) h.light (List.Perm.refl _)
  obtain ⟨rfl, rfl⟩ := Prod.mk.inj (Option.some.inj hl)
  obtain ⟨j, hj, hs, hp, ha⟩ := hi
  exact ⟨⟨j, by simpa using h.find_iff.1 hj, by simpa using hs, hp, ha⟩,
    k, by simpa using h.find_iff.1 hk, by simpa using hf, hd⟩

theorem State.Ok.endDarkJob (h : s.Ok pend) : (endDarkJob s).Ok pend := h.onDark nofun

theorem State.Ok.awaitsDark (h : s.Ok pend) {j : DarkJob} {l : Word} (hj : s.dark.job = some j) (hl : j.light = some l) :
    s.AwaitsDark l := by
  obtain ⟨k, hn, hs, hp, ha⟩ := Tab.Core.light h l (light_eq.2 ⟨j, hj, hl⟩)
  exact ⟨k, h.find_iff.2 (by simpa using hn), by simpa using hs, hp, ha⟩

/-- With no record in flight no link is lodged. -/
theorem State.Flies.lodged (g : s.Flies pend none) : s.store.lodged = none := by
  rw [Option.eq_none_iff_forall_ne_some]
  rintro ⟨d, i⟩ hl
  obtain ⟨-, k, -, hk, -⟩ := Tab.Core.lodged g.ok d i hl
  exact absurd (g.flight k (by simpa using hk)) nofun

/-- Changes of records that take none into flight. -/
theorem State.Flies.of_ok {key : Option (Fin 16 × Word)} (g : s.Flies pend key) {pend' : List Word} (h : t.Ok pend')
    (frames : ∀ k, (t.frame k).inFlight = true → (s.frame k).inFlight = true ∧ (t.frame k).id = (s.frame k).id) :
    t.Flies pend' key := by
  refine ⟨h, fun k hk => ?_⟩
  obtain ⟨hs, hid⟩ := frames k hk
  rw [hid]
  exact g.flight k hs

theorem report_inFlight (id : Word) {f : Frame → Frame} (h : ∀ x, (f x).state = x.state ∧ (f x).id = x.id) (s : State)
    (k : Fin 16) (hk : ((report id f s).frame k).inFlight = true) :
    (s.frame k).inFlight = true ∧ ((report id f s).frame k).id = (s.frame k).id := by
  rw [frame_report] at hk ⊢
  split
  · next hf => rw [if_pos hf] at hk; exact ⟨by simpa [Frame.inFlight, h] using hk, (h _).2⟩
  · next hf => rw [if_neg hf] at hk; exact ⟨hk, rfl⟩

/-- The dark that a light frame awaits is given up (R107, R110, R111). -/
theorem State.Flies.giveUp (g : s.Flies pend none) {light : Word} (h : s.AwaitsDark light) :
    (endDarkJob (darkMissing light s)).Flies pend none := by
  obtain ⟨k, hk, hs, hp, ha⟩ := h
  have frames := report_inFlight light (f := fun f => Frame.withFlag { f with darkState := .missing, awaitDark := false } .darkMissing)
    (fun _ => ⟨rfl, rfl⟩) s
  refine g.of_ok ?_ frames
  change State.Ok pend (endDarkJob (report light _ s))
  rw [report_of_find hk]
  refine Tab.Core.giveUp (k := k) g.ok ⟨by simpa using hs, hp, ha⟩ ?_ rfl rfl rfl g.lodged rfl rfl
  exact replaced_setFrame s k _

theorem darkFailure_flies (g : s.Flies pend none) : (darkFailure s).Flies pend none := by
  unfold darkFailure
  split
  · exact g
  · next j hj =>
    split
    · exact ⟨g.ok.endDarkJob, g.flight⟩
    · next l hl => exact g.giveUp (g.ok.awaitsDark hj hl)

/-- The key of the record that an order of a dark shot names. -/
def DarkOrder.key (o : DarkOrder) : Fin 16 × Word := (o.slot, o.id)

/-- A light frame that awaits a dark does so still after an allocation. -/
theorem allocate_awaitsDark {kind : FrameKind} {origin : Origin} {mode : Option ShotMode} {k : Fin 16} {id : Word}
    (ht : t.Ok pend) (h : allocate kind origin mode s = (t, some (k, id))) {light : Word} (hl : s.AwaitsDark light) :
    t.AwaitsDark light := by
  obtain ⟨j, hj, hs, hp, ha⟩ := hl
  obtain ⟨-, hlive, hid⟩ := find_spec hj
  have hjk : j ≠ k := by
    have := allocate_ne_of_blocked (k := j) (by simp [Frame.blocked, hp]) hlive kind origin mode
    rw [h] at this
    simp only [Option.all_some, decide_eq_true_eq] at this
    exact Ne.symm this
  have row := allocate_row h hjk
  have state : (t.frame j).state = .complete := by
    rw [← Frame.row_complete, row]
    exact (Frame.row_complete _).2 hs
  refine ⟨j, ht.find_iff.2 ⟨by simp [state], ?_⟩, state, ?_, ?_⟩
  · exact (congrArg Row.id row).trans hid
  · exact (congrArg Row.darkState row).trans hp
  · exact (congrArg Row.awaitDark row).trans ha

/-- A dark is ordered for a light frame that awaits one, or given up for want of a slot. -/
theorem State.Flies.orderDark (g : s.Flies pend none) {light : Word} (h : s.AwaitsDark light) (duration retry : Nat) :
    (orderDark light duration retry s).1.Flies pend ((orderDark light duration retry s).2.map DarkOrder.key) := by
  unfold Machine.orderDark
  split
  · next t k id ha =>
    have flies := g.allocate ha
    obtain ⟨hs, hid, hkind⟩ := allocate_frame ha
    have awaits := allocate_awaitsDark flies.ok ha h
    have job : (t.onDark fun _ => ⟨some ⟨some light, duration, id, retry⟩⟩).Ok pend :=
      flies.ok.onDark fun l hl => by obtain rfl := Option.some.inj hl; exact awaits
    have found : t.find id = some k := flies.ok.find_iff.2 ⟨by simp [hs], hid⟩
    have flying : (t.frame k).inFlight = true := by simp [Frame.inFlight, hs]
    exact ⟨job.lodge awaits found flying hkind, flies.flight⟩
  · next t ha =>
    have flies := g.allocate ha
    refine flies.giveUp ?_
    obtain ⟨-, rfl, -⟩ | ⟨_, _, _, hr, _⟩ := allocate_cases ha
    · exact h
    · cases hr

/-! #### The dark decision of a completed light frame (R103 to R107, R115) -/

theorem orderDark_seq (light : Word) (duration retry : Nat) (s : State) :
    (orderDark light duration retry s).1.seq = s.seq := by
  unfold orderDark
  split
  · next t k id ha => exact (allocate_seq ha :)
  · next t ha =>
    refine (report_seq t light _).trans ?_
    exact allocate_seq ha

theorem decideDark_seq (id : Word) (p : DarkParams) (canRun : Bool) (s : State) :
    (decideDark id p canRun s).1.seq = s.seq := by
  unfold decideDark
  split
  · rfl
  · dsimp only
    split
    · exact report_seq s id _
    · split
      · rw [report_seq]; exact report_seq s id _
      · split
        · rw [orderDark_seq]; exact report_seq s id _
        · exact report_seq s id _

/-- A dark that is not ordered by a sequencer without a light shot (R115). -/
theorem decideDark_no_order {id : Word} {p : DarkParams} {s : State} : (decideDark id p false s).2 = none := by
  unfold decideDark
  split
  · rfl
  · dsimp only
    split
    · rfl
    · split <;> rfl

/-- A light frame that is to have a new dark awaits it. -/
theorem State.Ok.awaitsDark_settleDark {id : Word} (h : s.Ok (id :: pend)) : (settleDark id .pending s).AwaitsDark id := by
  obtain ⟨k, hk, hs, -⟩ := h.awaiting
  have frame : (settleDark id .pending s).frame k = { s.frame k with darkState := .pending, awaitDark := false } := by
    unfold settleDark
    rw [frame_report, if_pos hk]
  exact ⟨k, (settleDark_find id _ s id).trans hk, by rw [frame]; exact hs, by rw [frame], by rw [frame]⟩

/-- A change of records that leaves states and ids takes none into flight. -/
theorem State.Flies.report {key : Option (Fin 16 × Word)} (g : s.Flies pend key) (id : Word) {f : Frame → Frame}
    {pend' : List Word} (hf : ∀ x, (f x).state = x.state ∧ (f x).id = x.id) (ok : (report id f s).Ok pend') :
    (report id f s).Flies pend' key := g.of_ok ok (report_inFlight id hf s)

theorem State.Flies.settleDark {id : Word} {key : Option (Fin 16 × Word)} (g : s.Flies (id :: pend) key) {d : DarkState}
    (hd : ∀ i, d ≠ .linked i) : (settleDark id d s).Flies pend key :=
  g.report id (f := fun f => { f with darkState := d, awaitDark := false }) (fun _ => ⟨rfl, rfl⟩) (g.ok.decide hd fun _ => rfl)

theorem State.Flies.darkMissing {id : Word} {key : Option (Fin 16 × Word)} (g : s.Flies (id :: pend) key) :
    (darkMissing id s).Flies pend key :=
  g.report id (f := fun f => Frame.withFlag { f with darkState := .missing, awaitDark := false } .darkMissing)
    (fun _ => ⟨rfl, rfl⟩) (g.ok.decide (d := .missing) nofun fun _ => rfl)

theorem State.Flies.linkDark {id : Word} {key : Option (Fin 16 × Word)} (g : s.Flies (id :: pend) key) {j : Fin 16}
    (hs : (s.frame j).state = .complete) (hd : (s.frame j).kind = .dark) :
    (linkDark id (s.frame j).id s).Flies pend key := by
  refine g.of_ok (g.ok.linkDark hs hd) fun m hm => ?_
  rw [linkDark_frame] at hm ⊢
  exact ⟨hm, rfl⟩

/-- The decision keeps the table. With a dark that can run nothing is in flight before, and the dark's record after. -/
theorem State.Flies.decideDark {id : Word} {key : Option (Fin 16 × Word)} (g : s.Flies (id :: pend) key) (p : DarkParams)
    {canRun : Bool} (hrun : canRun = true → key = none) :
    (decideDark id p canRun s).1.Flies pend (((decideDark id p canRun s).2.map DarkOrder.key).or key) := by
  obtain ⟨k, hk, -⟩ := g.ok.awaiting
  unfold Machine.decideDark
  rw [hk]
  dsimp only
  split
  · exact g.settleDark (d := .none) nofun
  · split
    · next j hj =>
      have found : s.reuse p k = some j := by
        split at hj
        · cases hj
        · exact hj
      obtain ⟨hs, hd⟩ := reuse_spec found
      exact g.linkDark hs hd
    · split
      · next hc =>
        obtain rfl := hrun hc
        rw [Option.or_none]
        exact (g.settleDark (d := .pending) nofun).orderDark g.ok.awaitsDark_settleDark _ _
      · exact g.darkMissing

/-- A leaked dark is retried, or its light frame has none (R110). -/
theorem State.Flies.darkLeak (g : s.Flies pend none) :
    (darkLeak s).1.Flies pend ((darkLeak s).2.map DarkOrder.key) := by
  unfold Machine.darkLeak
  split
  · exact g
  · next j hj =>
    split
    · exact ⟨g.ok.endDarkJob, g.flight⟩
    · next l hl =>
      split
      · exact g.orderDark (g.ok.awaitsDark hj hl) _ _
      · exact g.giveUp (g.ok.awaitsDark hj hl)

/-! #### What these operations leave of the rest -/

theorem steady_onDark (s : State) (f : DarkUnit → DarkUnit) : Steady s (s.onDark f) :=
  ⟨fun h => h, fun h => h, fun h => h, fun h => h, fun h => h⟩

theorem steady_report (s : State) (id : Word) (f : Frame → Frame) : Steady s (report id f s) :=
  (report_onlyFrames id f s).steady

theorem steady_settleDark (s : State) (id : Word) (d : DarkState) : Steady s (settleDark id d s) := steady_report s _ _
theorem steady_darkMissing (s : State) (id : Word) : Steady s (darkMissing id s) := steady_report s _ _
theorem steady_endDarkJob (s : State) : Steady s (endDarkJob s) := steady_onDark s _

theorem steady_orderDark (s : State) (light : Word) (duration retry : Nat) :
    Steady s (orderDark light duration retry s).1 := by
  unfold orderDark
  split
  · next t k id ha =>
    exact (steady_allocate ha).trans ⟨fun h => h, fun h => h, fun h => h, fun h => h, fun h => h⟩
  · next t ha =>
    have missing := (steady_allocate ha).trans (steady_darkMissing t light)
    exact missing.trans (steady_endDarkJob (darkMissing light t))

theorem steady_decideDark (s : State) (id : Word) (p : DarkParams) (canRun : Bool) :
    Steady s (decideDark id p canRun s).1 := by
  unfold decideDark
  split
  · exact .refl s
  · dsimp only
    split
    · exact steady_settleDark s id .none
    · split
      · exact (linkDark_onlyFrames id _ s).steady
      · split
        · exact (steady_settleDark s id .pending).trans (steady_orderDark _ _ _ _)
        · exact steady_darkMissing s id

theorem steady_darkLeak (s : State) : Steady s (darkLeak s).1 := by
  unfold darkLeak
  split
  · exact .refl s
  · split
    · exact steady_endDarkJob s
    · next l _ =>
      split
      · exact steady_orderDark s _ _ _
      · exact (steady_darkMissing s l).trans (steady_endDarkJob (darkMissing l s))

theorem steady_darkFailure (s : State) : Steady s (darkFailure s) := by
  unfold darkFailure
  split
  · exact .refl s
  · split
    · exact steady_endDarkJob s
    · next l _ => exact (steady_darkMissing s l).trans (steady_endDarkJob (darkMissing l s))

theorem darkFailure_seq (s : State) : (darkFailure s).seq = s.seq := by
  unfold darkFailure
  split
  · rfl
  · split
    · rfl
    · exact report_seq s _ _

theorem State.Left.darkFailure (g : s.Left pend) : (darkFailure s).Left pend :=
  ⟨darkFailure_flies g.flies, (congrArg Sequencer.shot (darkFailure_seq s)).trans g.shot⟩

end Sys2Proof.Machine

namespace Sys2Proof.Machine

/-! ### A frame completes (R72, R100, R103, R109) -/

variable {s t : State} {pend : List Word}

/-! #### What the sequencer takes -/

theorem steady_takeOrder (s : State) (h : Shot) (o : Option DarkOrder) : Steady s (takeOrder h o s) := by
  cases o with
  | none => exact (calm_enterReturn s h).toSteady
  | some o => exact (calm_runDark s _ _ o).toSteady

theorem State.Flies.takeOrder {o : Option DarkOrder} (g : s.Flies pend (o.map DarkOrder.key)) (h : Shot) :
    (takeOrder h o s).Good pend := by
  cases o with
  | none => exact (State.Flies.enterReturn g h).good
  | some o => exact State.Flies.runDark _ _ g

theorem shotOf_spec {id : Word} {h : Shot} (hs : s.shotOf id = some h) : s.seq.shot = some h ∧ h.id = id := by
  obtain ⟨hs, hid⟩ := Option.filter_eq_some_iff.1 hs
  exact ⟨hs, by simpa using hid⟩

/-- A shot whose record has completed has nothing in flight. -/
theorem State.Good.landed (g : s.Good pend) {h : Shot} (hs : s.seq.shot = some h) {k : Fin 16}
    (hk : s.find h.id = some k) (hc : (s.frame k).inFlight = false) : s.Flies pend none := by
  refine ⟨g.ok, fun j hj => ?_⟩
  have key := g.flight j hj
  rw [shotKey_of_shot hs] at key
  obtain ⟨-, hid⟩ := Prod.mk.inj (Option.some.inj key)
  have : s.find h.id = some j := g.ok.find_iff.2 ⟨Frame.live_of_inFlight hj, hid.symm⟩
  rw [hk] at this
  obtain rfl := Option.some.inj this
  rw [hc] at hj
  cases hj

theorem inFlight_of_complete {f : Frame} (h : f.state = .complete) : f.inFlight = false := by simp [Frame.inFlight, h]

theorem steady_lightCompleted (s : State) (f : ReadoutFrame) : Steady s (lightCompleted f s) := by
  unfold lightCompleted
  dsimp only
  refine (steady_decideDark s f.id f.dark (s.shotOf f.id).isSome).trans ?_
  split
  · exact steady_takeOrder _ _ _
  · exact .refl _

/-- The dark decision of a frame that is on its way to it (R100, R103). -/
theorem State.Good.lightCompleted {f : ReadoutFrame} (g : s.Good (f.id :: pend)) : (lightCompleted f s).Good pend := by
  unfold Machine.lightCompleted
  dsimp only
  split
  · next h hs =>
    obtain ⟨hshot, hid⟩ := shotOf_spec hs
    obtain ⟨k, hk, hc, -⟩ := g.ok.awaiting
    have landed := g.landed hshot (hid.symm ▸ hk) (inFlight_of_complete hc)
    have decided := landed.decideDark f.dark (canRun := (s.shotOf f.id).isSome) fun _ => rfl
    rw [Option.or_none] at decided
    exact decided.takeOrder h
  · next hs =>
    have decided := g.flies.decideDark f.dark (canRun := (s.shotOf f.id).isSome) fun h => by simp [hs] at h
    have order : (decideDark f.id f.dark (s.shotOf f.id).isSome s).2 = none := by rw [hs]; exact decideDark_no_order
    rw [order, Option.map_none, Option.none_or] at decided
    have seq := decideDark_seq f.id f.dark (s.shotOf f.id).isSome s
    refine State.Flies.good ?_ fun hr => ?_
    · rw [State.shotKey, seq]
      exact decided
    · rw [seq] at hr ⊢
      exact g.rest hr

/-! #### The record's completion -/

/-- Flags change the flags alone. -/
theorem foldl_withFlag_eq (flags : List Flag) (f : Frame) :
    flags.foldl Frame.withFlag f = { f with flags := (flags.foldl Frame.withFlag f).flags } := by
  induction flags generalizing f with
  | nil => rfl
  | cons a flags ih =>
    rw [List.foldl_cons, ih]
    rfl

/-- The record of a completed frame, before its dark reference is seen to. -/
def completed (f : Frame) (blacks : Blacks) (flags : List Flag) : Frame :=
  flags.foldl Frame.withFlag { f with state := .complete, blacks := some blacks }

theorem completed_eq (f : Frame) (blacks : Blacks) (flags : List Flag) : completed f blacks flags =
    { f with state := .complete, blacks := some blacks, flags := (completed f blacks flags).flags } :=
  foldl_withFlag_eq _ _

/-- Ids name the records that they named, when those of the table stay in it. -/
theorem find_congr_live (h : ∀ k, ((t.frame k).state ≠ .free ↔ (s.frame k).state ≠ .free) ∧ (t.frame k).id = (s.frame k).id)
    (id : Word) : t.find id = s.find id := by
  have live : ∀ k, ((t.frame k).state != .free) = ((s.frame k).state != .free) := fun k => by
    rw [Bool.eq_iff_iff, bne_iff_ne, bne_iff_ne]; exact (h k).1
  unfold State.find
  simp only [live, fun k => (h k).2]

/-- A record's completion touches the records and the link lodged with it. -/
theorem completeRecord_eq (s : State) (k : Fin 16) (blacks : Blacks) (flags : List Flag) : completeRecord k blacks flags s =
    { s with store := { s.store with frames := (completeRecord k blacks flags s).store.frames
                                     lodged := (completeRecord k blacks flags s).store.lodged } } := by
  unfold completeRecord
  dsimp only
  split
  · rfl
  · split
    · split
      · unfold settleDark report
        split <;> rfl
      · rfl
    · rfl

theorem completeRecord_light {k : Fin 16} (hk : (s.frame k).kind = .light) (blacks : Blacks) (flags : List Flag) :
    completeRecord k blacks flags s = s.setFrame k { completed (s.frame k) blacks flags with awaitDark := true } := by
  unfold completeRecord
  dsimp only
  split
  · rfl
  · next h => rw [hk] at h; cases h

theorem steady_setFrame (s : State) (k : Fin 16) (f : Frame) : Steady s (s.setFrame k f) :=
  ⟨fun h => h, fun h => h, fun h => h, fun h => h, fun h => h⟩

theorem steady_completeRecord (s : State) (k : Fin 16) (blacks : Blacks) (flags : List Flag) :
    Steady s (completeRecord k blacks flags s) := by
  unfold completeRecord
  dsimp only
  split
  · exact steady_setFrame s k _
  · split
    · split
      · refine .trans ?_ (steady_settleDark _ _ _)
        exact ⟨fun h => h, fun h => h, fun h => h, fun h => h, fun h => h⟩
      · exact steady_setFrame s k _
    · exact steady_setFrame s k _

/-- A LIGHT record in flight completes and is on its way to its dark decision. -/
theorem State.Good.completeLight (g : s.Good pend) {k : Fin 16} (hf : (s.frame k).inFlight = true)
    (hk : (s.frame k).kind = .light) (blacks : Blacks) (flags : List Flag) :
    (completeRecord k blacks flags s).Good ((s.frame k).id :: pend) := by
  rw [completeRecord_light hk, completed_eq]
  refine ⟨?_, fun j hj => ?_, g.rest⟩
  · refine Tab.Core.completeLight (k := k) g.ok (by simpa using hf) hk (replaced_setFrame s k _) rfl rfl rfl rfl rfl ?_
    exact List.perm_middle
  · rw [State.frame_setFrame] at hj ⊢
    split at hj
    · cases hj
    · next hne => rw [if_neg hne]; exact g.flight j hj

/-- The completion of a light frame as the record takes it, before or after what follows it. -/
theorem undecidedOf_append (hs : List Handoff) (m : Message) (n : Nat) :
    undecidedOf (hs ++ [⟨m, n⟩]) = undecidedOf hs ++ undecidedOf [⟨m, n⟩] := List.filterMap_append

/-- A message that carries no completed frame goes its way. -/
theorem Safe.handTo {take : State → State} {m : Message} (h : ∀ s, Safe s (take s)) (hm : ∀ n, undecidedOf [⟨m, n⟩] = [])
    (s : State) : Safe s (handTo take m s) := by
  rcases handTo_cases take m s with he | ⟨n, -, he⟩
  · rw [he]
    exact (tame_lags s _).safe.trans (h _)
  · rw [he]
    refine Safe.trans (t := s.onHandoffs fun hs => hs ++ [⟨m, n + 1⟩]) (Tame.safe (tame_onHandoffs s ?_)) (tame_lags _ _).safe
    rw [undecidedOf_append, hm, List.append_nil]

theorem steady_lightHandTo (s : State) (f : ReadoutFrame) : Steady s (handTo (lightCompleted f) (.completed f) s) := by
  rcases handTo_cases (lightCompleted f) (.completed f) s with he | ⟨n, -, he⟩
  · rw [he]
    exact (tame_lags s _).toSteady.trans (steady_lightCompleted _ f)
  · rw [he]
    exact ⟨fun h => h, fun h => h, fun h => h, fun h => h, fun h => h⟩

/-- A completed light frame is decided at once, or is on its way (R103, R115). -/
theorem State.Good.lightHandTo {f : ReadoutFrame} (g : s.Good (f.id :: pend)) :
    (handTo (Machine.lightCompleted f) (.completed f) s).Good pend := by
  rcases handTo_cases (Machine.lightCompleted f) (.completed f) s with he | ⟨n, -, he⟩
  · rw [he]
    exact ((tame_lags s _).good g).lightCompleted
  · rw [he]
    have flies : State.Flies pend s.shotKey { s with handoffs := s.handoffs ++ [⟨.completed f, n + 1⟩], lags := s.lags.tail } := by
      refine ⟨?_, g.flight⟩
      have : undecidedOf (s.handoffs ++ [⟨.completed f, n + 1⟩]) ++ pend = undecidedOf s.handoffs ++ (f.id :: pend) := by
        rw [undecidedOf_append, List.append_assoc]
        rfl
      unfold State.Ok State.tab
      dsimp only
      rw [this]
      exact g.ok
    exact flies.good g.rest

/-! #### A dark completes -/

theorem completeRecord_linked {k : Fin 16} {light : Word} (hk : (s.frame k).kind = .dark)
    (hl : s.store.lodged = some ((s.frame k).id, light)) (blacks : Blacks) (flags : List Flag) :
    completeRecord k blacks flags s = settleDark light (.linked (s.frame k).id)
      ((s.setFrame k { completed (s.frame k) blacks flags with darkUsers := 1 }).onStore
        fun t => { t with lodged := none }) := by
  unfold completeRecord
  dsimp only
  split
  · next h => rw [hk] at h; cases h
  · rw [hl]
    dsimp only
    rw [if_pos rfl]
    rfl

/-- The records once a dark has completed with a light frame's link lodged with it (R109). -/
theorem completeRecord_linked_frame {k j : Fin 16} {light : Word} (hk : (s.frame k).kind = .dark)
    (hlive : (s.frame k).state ≠ .free) (hl : s.store.lodged = some ((s.frame k).id, light)) (hj : s.find light = some j)
    (hjk : j ≠ k) (blacks : Blacks) (flags : List Flag) (m : Fin 16) :
    (completeRecord k blacks flags s).frame m =
      if m = j then { s.frame j with darkState := .linked (s.frame k).id, awaitDark := false }
      else if m = k then { completed (s.frame k) blacks flags with darkUsers := 1 } else s.frame m := by
  have frame : ∀ i, ((s.setFrame k { completed (s.frame k) blacks flags with darkUsers := 1 }).onStore
      fun t => { t with lodged := none }).frame i =
        if i = k then { completed (s.frame k) blacks flags with darkUsers := 1 } else s.frame i :=
    fun i => State.frame_setFrame s k i _
  have find := find_congr_live (s := s) (t := (s.setFrame k { completed (s.frame k) blacks flags with
      darkUsers := 1 }).onStore fun t => { t with lodged := none }) (fun i => by
    rw [frame]
    split
    · next e => rw [e, completed_eq]; simp [hlive]
    · exact ⟨Iff.rfl, rfl⟩) light
  rw [completeRecord_linked hk hl]
  unfold settleDark
  rw [frame_report, find, hj, frame]
  by_cases e : m = j
  · subst e
    simp [hjk]
  · simp [e, Ne.symm e]

theorem completeRecord_dark_unlinked {k : Fin 16} (hk : (s.frame k).kind = .dark)
    (hl : ∀ i, s.store.lodged ≠ some ((s.frame k).id, i)) (blacks : Blacks) (flags : List Flag) :
    completeRecord k blacks flags s = s.setFrame k (completed (s.frame k) blacks flags) := by
  unfold completeRecord
  dsimp only
  split
  · next h => rw [hk] at h; cases h
  · split
    · next d light h =>
      rw [if_neg fun e : d = (s.frame k).id => hl light (e ▸ h)]
      rfl
    · rfl

/-- At most one record is in flight (R6). -/
theorem State.FlightAt.unique {key : Option (Fin 16 × Word)} (g : s.FlightAt key) {j k : Fin 16}
    (hj : (s.frame j).inFlight = true) (hk : (s.frame k).inFlight = true) : j = k :=
  (Prod.mk.inj (Option.some.inj ((g j hj).symm.trans (g k hk)))).1

/-- A DARK record in flight completes, and the dark unit's job with it. -/
theorem State.Good.completeDark (g : s.Good pend) {k : Fin 16} (hf : (s.frame k).inFlight = true)
    (hk : (s.frame k).kind = .dark) (blacks : Blacks) (flags : List Flag) :
    (endDarkJob (completeRecord k blacks flags s)).Flies pend none := by
  by_cases hl : ∃ i, s.store.lodged = some ((s.frame k).id, i)
  · obtain ⟨light, hl⟩ := hl
    obtain ⟨⟨j, hj, hwait⟩, -⟩ := Tab.Core.lodged g.ok _ _ hl
    have hjs : (s.frame j).state = .complete := by simpa using hwait.1
    have found : s.find light = some j := g.ok.find_iff.2 (by simpa using hj)
    have hjk : j ≠ k := by rintro rfl; simp [Frame.inFlight, hjs] at hf
    have frame := completeRecord_linked_frame hk (Frame.live_of_inFlight hf) hl found hjk blacks flags
    refine ⟨?_, fun m hm => ?_⟩
    · refine Tab.Core.completeDarkLinked (k := k) (j := j) (i := light) g.ok (by simpa using hf) hk hl hj ?_ ?_ ?_ ?_ ?_ rfl ?_
      · intro m
        change ((completeRecord k blacks flags s).frame m).row = _
        rw [frame]
        split
        · next e => subst e; rfl
        · next e =>
          split
          · next e => subst e; rw [completed_eq]; rfl
          · rfl
      · rw [completeRecord_eq]; rfl
      · rw [completeRecord_eq]; rfl
      · rw [completeRecord_eq]; rfl
      · change (completeRecord k blacks flags s).store.lodged = none
        rw [completeRecord_linked hk hl]
        exact report_lodged _ _ _
      · rw [completeRecord_eq]; rfl
    · change ((completeRecord k blacks flags s).frame m).inFlight = true at hm
      rw [frame] at hm
      split at hm
      · simp [Frame.inFlight, hjs] at hm
      · split at hm
        · rw [completed_eq] at hm; cases hm
        · next hmk => exact absurd (g.flight.unique hm hf) hmk
  · have hl : ∀ i, s.store.lodged ≠ some ((s.frame k).id, i) := fun i h => hl ⟨i, h⟩
    rw [completeRecord_dark_unlinked hk hl, completed_eq]
    refine ⟨?_, fun m hm => ?_⟩
    · exact Tab.Core.completeDark (k := k) g.ok (by simpa using hf) hl (replaced_setFrame s k _) rfl rfl rfl rfl nofun rfl
    · change ((s.setFrame k _).frame m).inFlight = true at hm
      rw [State.frame_setFrame] at hm
      split at hm
      · cases hm
      · next hmk => exact absurd (g.flight.unique hm hf) hmk

/-! #### The completion report (R100 steps 3 to 6) -/

theorem steady_darkCompleted (s : State) (f : ReadoutFrame) : Steady s (darkCompleted f s) := by
  unfold darkCompleted
  split
  · exact (steady_endDarkJob s).trans (calm_enterReturn _ _).toSteady
  · exact .refl s

theorem steady_handCompleted (s : State) (kind : FrameKind) (f : ReadoutFrame) : Steady s (handCompleted kind f s) := by
  cases kind with
  | light => exact steady_lightHandTo s f
  | dark => exact steady_darkCompleted s f

theorem steady_takeCompletion (s : State) (f : ReadoutFrame) (blacks : Blacks) (flags : List Flag) :
    Steady s (takeCompletion f blacks flags s) := by
  unfold takeCompletion
  split
  · exact .refl s
  · exact ((steady_completeRecord s _ blacks flags).trans (tame_raise _ _).toSteady).trans (steady_handCompleted _ _ _)

/-- A dark's end leaves its shot. -/
theorem State.Good.darkCompleted (g : s.Good pend) {f : ReadoutFrame} {k : Fin 16} (hid : (s.frame k).id = f.id)
    (hf : (s.frame k).inFlight = true) (hk : (s.frame k).kind = .dark) (blacks : Blacks) (flags : List Flag) (c : Cause) :
    (darkCompleted f (raise c (completeRecord k blacks flags s))).Good pend := by
  have seq : (raise c (completeRecord k blacks flags s)).seq = s.seq := by rw [raise_seq, completeRecord_eq]
  obtain ⟨h, hs, key⟩ := Option.map_eq_some_iff.1 (g.flight k hf)
  have shot : (raise c (completeRecord k blacks flags s)).shotOf f.id = some h := by
    rw [State.shotOf, seq, hs, Option.filter_some, if_pos]
    simpa using (Prod.mk.inj key).2.trans hid
  unfold Machine.darkCompleted
  rw [shot]
  have flies := g.completeDark hf hk blacks flags
  exact (State.Flies.enterReturn ((tame_raise _ c).flies flies) h).good

theorem safe_takeCompletion (s : State) (f : ReadoutFrame) (blacks : Blacks) (flags : List Flag) :
    Safe s (takeCompletion f blacks flags s) := by
  refine ⟨steady_takeCompletion s f blacks flags, fun pend g => ?_⟩
  unfold takeCompletion
  split
  · exact g
  · next k hk =>
    obtain ⟨hk, hs⟩ := Option.filter_eq_some_iff.1 hk
    have hf : (s.frame k).inFlight = true := by simp [Frame.inFlight, eq_of_beq hs]
    have hid : (s.frame k).id = f.id := (g.ok.find_iff.1 hk).2
    dsimp only
    cases hkind : (s.frame k).kind with
    | light => exact State.Good.lightHandTo ((tame_raise _ _).good (hid ▸ g.completeLight hf hkind blacks flags))
    | dark => exact g.darkCompleted hid hf hkind blacks flags _

end Sys2Proof.Machine

namespace Sys2Proof.Machine

/-! ### The sequencer's events and requests (chapter 4) -/

variable {s t : State} {pend : List Word}

/-- A safe operation that leaves its shot. -/
theorem Safe.of_left (steady : Steady s t) (left : ∀ pend, s.Good pend → t.Left pend) : Safe s t :=
  ⟨steady, fun pend g => (left pend g).good⟩

theorem Safe.ite {u : State} {c : Prop} [Decidable c] (h : c → Safe s t) (g : ¬c → Safe s u) :
    Safe s (if c then t else u) := by
  split
  · next hc => exact h hc
  · next hc => exact g hc

theorem Safe.foldl {α : Type} {f : State → α → State} (h : ∀ s a, Safe s (f s a)) (l : List α) (s : State) :
    Safe s (l.foldl f s) := by
  induction l generalizing s with
  | nil => exact .refl s
  | cons a l ih => exact (h s a).trans (ih (f s a))

theorem safe_leaveSpoiled {h : Shot} (hs : s.seq.shot = some h) (reason : SpoilReason) (after : AfterSpoil) :
    Safe s (leaveSpoiled h reason after s) :=
  .of_left (calm_leaveSpoiled s h reason after).toSteady fun _ g => g.leaveSpoiled hs reason after

/-- An allocation that finds no slot is safe. -/
theorem safe_allocate_none {kind : FrameKind} {origin : Origin} {mode : Option ShotMode}
    (h : allocate kind origin mode s = (t, none)) : Safe s t := by
  obtain ⟨-, rfl, -⟩ | ⟨_, _, _, hr, _⟩ := allocate_cases h
  · exact (tame_raise s _).safe
  · cases hr

/-! #### Trip edges (R37, R77) -/

/-- The shot of an armed trip. -/
theorem State.Flies.tripped {k : Fin 16} {id : Word} (g : s.Flies pend (some (k, id))) {h : Shot} (hk : h.slot = k)
    (hid : h.id = id) : (seqEnter .tripped (Machine.makeShot h s)).Good pend := by
  subst hk hid
  exact State.Flies.enter (st := .tripped) g.makeShot rfl (by decide)

theorem safe_tripEdge (s : State) (edge : Word) (params : Exposure) : Safe s (tripEdge edge params s) := by
  unfold tripEdge
  split
  · exact (tame_ordinaryStart s).safe
  · next harmed =>
    have armed : s.seq.state = .armed := not_not.1 harmed
    split
    · next t ha =>
      have refused : Tame t ((missedShot edge .early t).onSeq fun q => { q with refusedTrip := some edge }) :=
        (tame_missedShot t edge .early).trans (tame_onSeq _ rfl rfl)
      refine ⟨(steady_allocate ha).trans refused.toSteady, fun pend g => refused.good ?_⟩
      exact (safe_allocate_none ha).good pend g
    · next t k id ha =>
      extract_lets ret cap _ h u v
      have hu : Tame t u := by
        refine .trans (tame_issueStart t) ?_
        exact tame_report _ _ fun _ => rfl
      have expect : Tame v (v.onSync fun y => { y with expect := .close }) := tame_onSync v fun h => h
      have hv : Calm u v := (calm_makeShot u h).trans (calm_seqEnter _ _)
      refine ⟨((steady_allocate ha).trans hu.toSteady).trans (hv.toSteady.trans expect.toSteady), fun pend g => ?_⟩
      have left := g.left (g.rest (by rw [armed]; decide))
      exact expect.good ((hu.flies (left.flies.allocate ha)).tripped rfl rfl)

theorem safe_answerTrip (s : State) (edge : Word) (params : Exposure) (abandoned : Bool) :
    Safe s (answerTrip edge params abandoned s) := by
  unfold answerTrip
  extract_lets t
  have ht : Safe s t := safe_tripEdge s edge params
  refine .ite (fun _ => ?_) fun _ => ht
  exact (Safe.ite (fun _ => ht.trans (tame_countBounce t).safe) fun _ => ht).trans (tame_closeAbandoned _ _).safe

/-! #### Driver reports (R65, R70) -/

theorem safe_takeCheck (s : State) (shot : Word) (present : Bool) : Safe s (takeCheck shot present s) := by
  unfold takeCheck
  split
  · next h _ hs =>
    refine .ite (fun _ => .ite (fun _ => ?_) fun _ => safe_leaveSpoiled hs _ _) fun _ => .refl s
    refine Tame.safe (.trans ?_ (tame_beginPasses _))
    exact tame_onShot s fun _ => ⟨rfl, rfl⟩
  · exact .refl s

theorem safe_takeDriveEnd (s : State) (cause : DriveEnd) (off : Word) : Safe s (takeDriveEnd cause off s) := by
  unfold takeDriveEnd
  split
  · next h _ hs =>
    cases cause with
    | openAbort => exact safe_leaveSpoiled hs _ _
    | short => exact safe_leaveSpoiled hs _ _
    | lowSupply => exact (tame_addFlag s _ _).safe
    | bulbEnd => exact .refl s
    | holdLimit => exact .refl s
  · next h _ _ =>
    extract_lets u
    have hu : Tame s u := tame_addFlag? s h.id cause.flag
    refine hu.safe.trans (.ite (fun _ => Tame.safe ?_) fun _ => .refl u)
    exact tame_onShot u fun _ => ⟨rfl, rfl⟩
  · exact (tame_addFlag? s _ _).safe
  · exact (tame_addFlag? s _ _).safe
  · exact .refl s

theorem safe_takeReport (s : State) (shot : Option Word) (report : DriverReport) : Safe s (takeReport shot report s) := by
  unfold takeReport
  split
  · split
    · exact safe_takeCheck s _ _
    · exact .refl s
  · exact .ite (fun _ => safe_takeDriveEnd s _ _) fun _ => .refl s
  · exact .ite (fun _ => (tame_takeOpenContinuing s).safe) fun _ => .refl s

/-! #### Qualified edges (R67 to R69, R79) -/

theorem safe_darkRunLeak {h : Shot} (hs : s.seq.shot = some h) (reason : SpoilReason) :
    Safe s (takeOrder h (darkLeak (spoilShot h reason s)).2 (darkLeak (spoilShot h reason s)).1) :=
  ⟨((calm_spoilShot s h reason).toSteady.trans (steady_darkLeak _)).trans (steady_takeOrder _ _ _),
    fun _ g => (g.spoilShot hs reason).flies.darkLeak.takeOrder h⟩

theorem safe_qualifiedClose (s : State) (edge : Word) : Safe s (qualifiedClose edge s) := by
  have missed (reason : MissedReason) : Safe s (missedShot edge reason s) := (tame_missedShot s edge reason).safe
  have early {h : Shot} (hs : s.seq.shot = some h) :
      Safe s (missedShot edge .early (leaveSpoiled h .earlySync .idle s)) :=
    (safe_leaveSpoiled hs _ _).trans (tame_missedShot _ _ _).safe
  unfold qualifiedClose
  split
  · exact missed _
  · exact missed _
  · exact missed _
  · exact .ite (fun _ => (tame_onSeq s rfl rfl).safe) fun _ => missed _
  · exact missed _
  · next hs => exact early hs
  · next hs => exact .ite (fun _ => missed _) fun _ => early hs
  · exact (tame_enterOpen s _).safe
  · refine Tame.safe (.trans ?_ (tame_seqEnter _ (by decide)))
    exact tame_onShot s fun _ => ⟨rfl, rfl⟩
  · exact (tame_addFlag s _ _).safe
  · next h _ hs => exact (missed .darkRun).trans (safe_darkRunLeak (s := missedShot edge .darkRun s) hs .lightLeak)
  · exact .refl s
  · exact .refl s

/-! #### The sensor's answers and the frame's end (R61, R72, R82, R86) -/

theorem tame_flushDone (s : State) : Tame s (flushDone s) := by
  unfold flushDone
  extract_lets closing u
  have hu : Tame s u := tame_onSeq s rfl rfl
  refine hu.trans ?_
  split
  · exact tame_issueFlush u
  · refine .ite (fun _ => .refl u) fun _ => .ite (fun _ => tame_beginPasses u) fun _ => ?_
    refine .trans ?_ (tame_beginPasses _)
    exact tame_onShot u fun _ => ⟨rfl, rfl⟩
  · exact .refl u

theorem tame_endAck (s : State) : Tame s (endAck s) := by
  unfold endAck
  extract_lets u
  have hu : Tame s u := tame_onSeq s rfl rfl
  refine hu.trans ?_
  split
  · exact tame_onReadout u fun h => h
  · exact .refl u

/-- What a sensor fault does to the shot in flight (R82). -/
def faultSpoil (h : Shot) (s : State) : State :=
  let exposing := (s.find h.id).any fun k => (s.frame k).state == .exposing
  let s := clearTarget (driveOff (spoilFrame h.id .sensorFault s))
  let s := if exposing then
      report h.id (fun f => if f.integStart.isSome then { f with integEnd := some s.clock } else f) s
    else s
  s.onSeq fun q => { q with shot := none }

theorem calm_faultSpoil (h : Shot) (s : State) : Calm (spoilFrame h.id .sensorFault s) (faultSpoil h s) := by
  unfold faultSpoil
  extract_lets exposing u v
  have hu : Tame (spoilFrame h.id .sensorFault s) u := (tame_driveOff _).trans (tame_clearTarget _)
  have row : ∀ x : Frame, (if x.integStart.isSome then { x with integEnd := some u.clock } else x : Frame).row = x.row := by
    intro x; split <;> rfl
  have hv : Tame u v := .ite (fun _ => tame_report u _ row) fun _ => .refl u
  exact (hu.trans hv).calm.trans (calm_onSeq v rfl)

/-- FAULT is entered (R82). -/
def enterFault (s : State) : State :=
  seqEnter .fault ((raise .sensorFault s).onSeq fun q =>
    { q with closingFlush := false, flushWait := none, startWait := none, endWait := none })

theorem calm_enterFault (s : State) : Calm s (enterFault s) := by
  unfold enterFault
  refine .trans ?_ (calm_seqEnter _ .fault)
  exact (tame_raise s _).calm.trans (calm_onSeq _ rfl)

theorem enterFault_shot (s : State) : (enterFault s).seq.shot = s.seq.shot := (seqEnter_tab _ .fault).2.1

theorem State.Left.enterFault (g : s.Left pend) : (enterFault s).Left pend :=
  (calm_enterFault s).left g.flies ((enterFault_shot s).trans g.shot)

theorem sensorFault_eq (s : State) : sensorFault s = enterFault (match s.seq.shot with
    | none => s
    | some h => if h.kind = .dark then darkFailure (faultSpoil h s) else faultSpoil h s) := rfl

theorem safe_sensorFault (s : State) : Safe s (sensorFault s) := by
  rw [sensorFault_eq]
  split
  · next hs => exact .of_left (calm_enterFault s).toSteady fun _ g => (g.left hs).enterFault
  · next h hs =>
    have steady : Steady s (faultSpoil h s) := (tame_spoilFrame s h.id .sensorFault).toSteady.trans (calm_faultSpoil h s).toSteady
    have left (pend : List Word) (g : s.Good pend) : (faultSpoil h s).Left pend :=
      (calm_faultSpoil h s).left (g.spoilFrame hs .sensorFault) rfl
    split
    · exact .of_left ((steady.trans (steady_darkFailure _)).trans (calm_enterFault _).toSteady)
        fun pend g => (left pend g).darkFailure.enterFault
    · exact .of_left (steady.trans (calm_enterFault _).toSteady) fun pend g => (left pend g).enterFault

/-- The readout unit's end of a frame as spoiled, with the spoil that it reports (R72, R93). -/
theorem safe_frameSpoiled (s : State) (id : Word) (reason : SpoilReason) :
    Safe s (frameSpoiled id (spoilFrame id reason s)) := by
  have tame := tame_spoilFrame s id reason
  unfold frameSpoiled
  split
  · exact tame.safe
  · next h hs =>
    refine .ite (fun _ => tame.safe) fun hid => ?_
    have landed (pend : List Word) (g : s.Good pend) : (spoilFrame id reason s).Flies pend none := by
      refine g.flies.spoilFrame (fun x hx => ?_) reason
      rw [← tame.shot, shotKey_of_shot hs] at hx
      obtain rfl := Option.some.inj hx
      exact not_not.1 hid
    split
    · exact .of_left ((tame.toSteady.trans (steady_darkFailure _)).trans (calm_enterReturn _ h).toSteady)
        fun pend g => (darkFailure_flies (landed pend g)).enterReturn h
    · exact .of_left (tame.toSteady.trans (calm_enterReturn _ h).toSteady) fun pend g => (landed pend g).enterReturn h

/-! #### Requests (R62 to R64, R75, R76, R80, R112) -/

theorem releaseCheck_none (h : s.releaseCheck = none) : s.seq.state = .idle ∨ s.seq.state = .armed := by
  unfold State.releaseCheck at h
  split at h
  · cases h
  · split at h
    · cases h
    · split at h
      · cases h
      · split at h
        · cases h
        · next hs =>
          by_contra hne
          rw [not_or] at hne
          simp [hne.1, hne.2] at hs

/-- DELAY of a shot just made, with the flush loop stopped where one runs (R63). -/
def enterDelay (h : Shot) (armed : Bool) (s : State) : State :=
  seqEnter .delay (if armed then stopLoop (makeShot h s) else makeShot h s)

theorem calm_enterDelay (s : State) (h : Shot) (armed : Bool) : Calm s (enterDelay h armed s) := by
  unfold enterDelay
  refine .trans ((calm_makeShot s h).trans ?_) (calm_seqEnter _ .delay)
  split
  · exact (tame_stopLoop _).calm
  · exact (Tame.refl _).calm

theorem State.Flies.enterDelay {h : Shot} (g : s.Flies pend (some (h.slot, h.id))) (armed : Bool) :
    (enterDelay h armed s).Good pend := by
  have stopped : Tame (Machine.makeShot h s) (if armed then stopLoop (Machine.makeShot h s) else Machine.makeShot h s) :=
    .ite (fun _ => tame_stopLoop _) fun _ => .refl _
  exact State.Flies.enter (st := .delay) (stopped.flies g.makeShot) (stopped.shot.trans rfl) (by decide)

theorem beginRelease_eq (id : Word) (k : Fin 16) (mode : ShotMode) (bulb delay : Nat) (s : State) :
    ∃ h armed, h.slot = k ∧ h.id = id ∧ beginRelease id k mode bulb delay s =
      if delay = 0 then enterPreparing (enterDelay h armed s) else enterDelay h armed s :=
  ⟨{ newShot id k .light .release (some mode) bulb (s.seq.state == .armed && s.seq.stayArmed) s.setup.exposure 0 with
    delayTimer := some delay }, s.seq.state == .armed, rfl, rfl, rfl⟩

theorem steady_beginRelease (id : Word) (k : Fin 16) (mode : ShotMode) (bulb delay : Nat) (s : State) :
    Steady s (beginRelease id k mode bulb delay s) := by
  obtain ⟨h, armed, -, -, he⟩ := beginRelease_eq id k mode bulb delay s
  rw [he]
  split
  · exact (calm_enterDelay s h armed).toSteady.trans (tame_enterPreparing _).toSteady
  · exact (calm_enterDelay s h armed).toSteady

theorem State.Flies.beginRelease {k : Fin 16} {id : Word} (g : s.Flies pend (some (k, id))) (mode : ShotMode)
    (bulb delay : Nat) : (beginRelease id k mode bulb delay s).Good pend := by
  obtain ⟨h, armed, rfl, rfl, he⟩ := beginRelease_eq id k mode bulb delay s
  rw [he]
  split
  · exact (tame_enterPreparing _).good (g.enterDelay armed)
  · exact g.enterDelay armed

theorem safe_decideRelease (s : State) (mode : Half) (bulbMs delayMs : Word) :
    Safe s (decideRelease mode bulbMs delayMs s).1 := by
  unfold decideRelease
  split
  · exact .refl s
  · split
    · exact .refl s
    · next hc =>
      split
      · next t ha => exact safe_allocate_none ha
      · next t k id ha =>
        have rests : s.seq.state.Rests := by
          rcases releaseCheck_none hc with h | h
          · rw [h]; decide
          · rw [h]; decide
        refine ⟨(steady_allocate ha).trans (steady_beginRelease _ _ _ _ _ _), fun pend g => ?_⟩
        exact ((g.left (g.rest rests)).flies.allocate ha).beginRelease _ _ _

theorem safe_enterArmed (h : s.seq.state.Rests) : Safe s (enterArmed s) :=
  .of_left (calm_enterArmed s).toSteady fun _ g => (g.left (g.rest h)).enterArmed

theorem safe_seqEnter_rests (h : s.seq.state.Rests) (st : SeqState) : Safe s (seqEnter st s) :=
  .of_left (steady_seqEnter s st) fun _ g => (g.left (g.rest h)).enter st

theorem safe_decideArm (s : State) (stay : Bool) : Safe s (decideArm stay s).1 := by
  unfold decideArm
  split
  · exact .refl s
  · split
    · exact .refl s
    · split
      · exact .refl s
      · split
        · exact .refl s
        · next hi =>
          split
          · exact .refl s
          · refine (Tame.safe ?_).trans (safe_enterArmed ?_)
            · exact tame_onSeq s rfl rfl
            · have idle : s.seq.state = .idle := not_not.1 hi
              change s.seq.state.Rests
              rw [idle]; decide

theorem safe_disarmArmed (h : s.seq.state = .armed) : Safe s (disarmArmed s) := by
  unfold disarmArmed
  refine Safe.trans ((tame_stopLoop s).trans (tame_clearStay _)).safe (safe_seqEnter_rests ?_ _)
  change s.seq.state.Rests
  rw [h]; decide

theorem safe_decideDisarm (s : State) : Safe s (decideDisarm s).1 := by
  unfold decideDisarm
  split
  · next h => exact safe_disarmArmed h
  · next h _ hs => exact (safe_leaveSpoiled hs _ _).trans (tame_clearStay _).safe
  all_goals exact .refl s

theorem safe_cancelShot {h : Shot} (hs : s.seq.shot = some h) : Safe s (cancelShot h s) := by
  unfold cancelShot
  extract_lets u
  have steady : Steady s u := (calm_leaveSpoiled s h .cancelled .idle).toSteady.trans (tame_clearStay _).toSteady
  have left (pend : List Word) (g : s.Good pend) : u.Left pend := (tame_clearStay _).left (g.leaveSpoiled hs .cancelled .idle)
  refine .ite (fun _ => ?_) fun _ => .of_left steady left
  exact .of_left (steady.trans (steady_darkFailure _)) fun pend g => (left pend g).darkFailure

theorem safe_decideCancel (s : State) : Safe s (decideCancel s).1 := by
  unfold decideCancel
  split
  · next h => exact safe_disarmArmed h
  · exact .refl s
  · exact .refl s
  · exact .refl s
  · exact .refl s
  · next hs _ _ _ _ _ => exact safe_cancelShot hs
  · exact .refl s

theorem safe_falseStart {h : Shot} (hs : s.seq.shot = some h) : Safe s (falseStart h s) := by
  unfold falseStart
  have counted : Tame s (s.onSeq fun q => { q with falseStarts := satInc 65535 q.falseStarts }) := tame_onSeq s rfl rfl
  have left := safe_leaveSpoiled (s := s.onSeq fun q => { q with falseStarts := satInc 65535 q.falseStarts }) hs
    .falseStart .armed
  exact (counted.safe.trans left).trans (tame_onSync _ fun h => h).safe

theorem safe_decideTakeDark (s : State) (duration : Word) : Safe s (decideTakeDark duration s).1 := by
  unfold decideTakeDark
  split
  · exact .refl s
  · split
    · exact .refl s
    · split
      · exact .refl s
      · next hbusy =>
        split
        · next t ha => exact safe_allocate_none ha
        · next t k id ha =>
          have rests : s.seq.state.Rests := by
            have idle : s.seq.state = .idle := by simpa using (by simpa using hbusy : _ ∧ _).2
            rw [idle]; decide
          extract_lets time u
          have hu : Steady t u := steady_onDark t _
          refine ⟨((steady_allocate ha).trans hu).trans (calm_runDark u _ _ _).toSteady, fun pend g => ?_⟩
          have flies := (g.left (g.rest rests)).flies.allocate ha
          have ok : u.Ok pend := flies.ok.onDark nofun
          exact State.Flies.runDark (o := ⟨id, k, time⟩) .takenDark false ⟨ok, flies.flight⟩

/-! #### Edges that shots wait for (R67, R69, R71, R73, R81) -/

theorem safe_withShot {f : Shot → State → State} (h : ∀ x s, s.seq.shot = some x → Safe s (f x s)) (s : State) :
    Safe s (withShot f s) := by
  unfold withShot
  split
  · next x hs => exact h x s hs
  · exact .refl s

end Sys2Proof.Machine

namespace Sys2Proof.Machine

/-! ### Every command is safe -/

variable {s t : State} {pend : List Word}

/-! #### Rows and the end of a frame in readout (R89, R93, R100) -/

theorem tame_storeRow (s : State) : Tame s (storeRow s) := by
  unfold storeRow
  split
  · extract_lets stored u v
    have hu : Tame s u := tame_onReadout s fun h => h
    have hv : Tame u v := tame_report u _ fun _ => rfl
    exact ((hu.trans hv).trans (tame_developRows _ _ _)).trans (tame_cardRows _ _ _)
  · exact .refl s

theorem tame_storeRows (n : Nat) (s : State) : Tame s (storeRows n s) := by
  induction n generalizing s with
  | zero => exact .refl s
  | succ n ih => exact (tame_storeRow s).trans (ih _)

theorem tame_finishRows (s : State) : Tame s (finishRows s) := (tame_drainReadout s).trans (tame_storeRows _ _)

theorem safe_spoilReadout (s : State) (reason : SpoilReason) : Safe s (spoilReadout reason s) := by
  unfold spoilReadout
  split
  · exact .refl s
  · next f _ =>
    extract_lets u
    have stopped : Tame s (s.onReadout fun u => { u with rowTimer := none }) := tame_onReadout s fun h => h
    have hu : Tame s u := stopped.trans (tame_finishRows _)
    exact (hu.safe.trans (safe_frameSpoiled u f.id reason)).trans (tame_leaveReadout _).safe

theorem safe_rowPacket (s : State) (row : Half) (samples : List Sample) (check : Half) :
    Safe s (rowPacket row samples check s) := by
  unfold rowPacket
  split
  · exact .refl s
  · exact .ite (fun _ => (tame_takeRow s _ _ _ _).safe) fun _ => safe_spoilReadout s _

theorem safe_frameEndMarker (s : State) : Safe s (frameEndMarker s) := by
  unfold frameEndMarker
  split
  · exact .refl s
  · refine .ite (fun _ => safe_spoilReadout s _) fun _ => Tame.safe ?_
    exact tame_onReadout s fun h => h

/-- The black history keeps its bound (R98). -/
theorem length_pushHistory (h : List Nat) (m : Nat) (hb : h.length ≤ historyTop) :
    (pushHistory h m).length ≤ historyTop := by
  unfold pushHistory
  split
  · rw [List.length_append, List.length_tail, List.length_singleton]
    unfold historyTop at *
    omega
  · rw [List.length_append, List.length_singleton]
    omega

/-! #### Messages handed on (log 23) -/

theorem safe_handDriver (s : State) (shot : Option Word) (r : DriverReport) : Safe s (handOn (.driver shot r) s) :=
  Safe.handTo (fun s => safe_takeReport s shot r) (fun _ => rfl) s

theorem safe_handTrip (s : State) (edge : Word) (params : Exposure) (abandoned : Bool) :
    Safe s (handOn (.tripEdge edge params abandoned) s) :=
  Safe.handTo (fun s => safe_answerTrip s edge params abandoned) (fun _ => rfl) s

theorem safe_handCompletion (s : State) (f : ReadoutFrame) (blacks : Blacks) (flags : List Flag) :
    Safe s (handOn (.completion f blacks flags) s) :=
  Safe.handTo (fun s => safe_takeCompletion s f blacks flags) (fun _ => rfl) s

theorem safe_completeFrame (s : State) (f : ReadoutFrame) : Safe s (completeFrame f s) := by
  unfold completeFrame
  extract_lets u blacks flags v
  have hu : Tame s u := tame_finishRows s
  have hv : Tame u v := .ite (fun _ => tame_onReadout u (length_pushHistory _ _)) fun _ => .refl u
  exact ((hu.trans hv).trans (tame_leaveReadout v)).safe.trans (safe_handCompletion _ _ _ _)

/-! #### The sync input (R27 to R33) -/

theorem safe_closeStart (s : State) (edge : Word) : Safe s (closeStart edge s) :=
  .ite (fun _ => safe_handTrip s _ _ _) fun _ => (tame_ordinaryStart s).safe

theorem safe_beginRun (s : State) (closing : Bool) : Safe s (beginRun closing s) := by
  unfold beginRun
  extract_lets edge u
  have hu : Tame s u := tame_onSync s fun h => h
  exact hu.safe.trans (.ite (fun _ => safe_closeStart u _) fun _ => .refl u)

theorem safe_takeEdge (s : State) (closed : Bool) : Safe s (takeEdge closed s) := by
  unfold takeEdge
  split
  · exact .ite (fun _ => (tame_abandonRun s _).safe) fun _ => .refl s
  · exact .ite (fun _ => .refl s) fun _ => safe_beginRun s _

theorem safe_rawEdge (s : State) (closed : Bool) : Safe s (rawEdge closed s) := by
  unfold rawEdge
  refine .ite (fun _ => .refl s) fun _ => ?_
  extract_lets u
  have hu : Tame s u := tame_onPins s _
  exact hu.safe.trans (.ite (fun _ => .refl u) fun _ => safe_takeEdge u _)

theorem safe_qualify (s : State) (r : Run) : Safe s (qualify r s) := by
  unfold qualify
  extract_lets u v
  have hu : Tame s u := tame_onSync s fun h => h
  have hv : Tame s v := hu.trans (tame_recordEdge u r)
  exact hv.safe.trans (.ite (fun _ => safe_qualifiedClose v _) fun _ => (tame_qualifiedOpen v).safe)

theorem safe_blankingEnd (s : State) : Safe s (blankingEnd s) := by
  unfold blankingEnd
  extract_lets u w
  have hu : Tame s u := tame_onSync s fun h => h
  refine hu.safe.trans ?_
  split
  · exact .ite (fun _ => (tame_abandonRun u _).safe) fun _ => .refl u
  · refine .ite (fun _ => .refl u) fun _ => ?_
    have hw : Tame u w := by
      simp only [w]
      split
      · exact tame_addFlag u _ _
      · exact .refl u
    exact hw.safe.trans (safe_beginRun _ _)

/-! #### The release driver's reports (R41, R42, R47, R50, R52, R54) -/

/-- The driver once a check has ended, a pending one begun (R42, R44). -/
def checkOver (present : Bool) (s : State) : State :=
  let s := s.onDriver fun d =>
    { d with phase := .off, checkTimer := none, checkFor := none, cable := if present then .present else .absent }
  match s.driver.pendingCheck with
  | some p => (startCheck (some p) s).onDriver fun d => { d with pendingCheck := none }
  | none => s

theorem tame_checkOver (s : State) (present : Bool) : Tame s (checkOver present s) := by
  unfold checkOver
  extract_lets u
  have hu : Tame s u := tame_onDriver s _
  refine hu.trans ?_
  split
  · exact (tame_startCheck u _).trans (tame_onDriver _ _)
  · exact .refl u

theorem checkEnd_eq (microamps : Nat) (s : State) : checkEnd microamps s =
    match s.driver.checkFor with
    | none => checkOver (decide (checkThreshold ≤ microamps)) s
    | some id => handOn (.driver (some id) (.checkResult (decide (checkThreshold ≤ microamps))))
        (if decide (checkThreshold ≤ microamps) then checkOver (decide (checkThreshold ≤ microamps)) s
          else raise .releaseFault (checkOver (decide (checkThreshold ≤ microamps)) s)) := rfl

theorem safe_checkEnd (s : State) (microamps : Nat) : Safe s (checkEnd microamps s) := by
  rw [checkEnd_eq]
  have ended := tame_checkOver s (decide (checkThreshold ≤ microamps))
  split
  · exact ended.safe
  · exact Safe.trans (.ite (fun _ => ended.safe) fun _ => (ended.trans (tame_raise _ _)).safe) (safe_handDriver _ _ _)

theorem safe_endDrive (s : State) (cause : DriveEnd) : Safe s (endDrive cause s) :=
  (tame_driveOff s).safe.trans (safe_handDriver _ _ _)

theorem safe_latchOpen (s : State) : Safe s (latchOpen s) := by
  unfold latchOpen
  extract_lets response u
  have hu : Tame s u := by
    refine .trans ?_ (tame_raise _ _)
    exact tame_onDriver s _
  refine hu.safe.trans (.ite (fun _ => ?_) fun _ => safe_endDrive u _)
  exact (tame_onDriver u _).safe.trans (safe_handDriver _ _ _)

theorem safe_latchShort (s : State) : Safe s (latchShort s) := by
  unfold latchShort
  extract_lets u
  have hu : Tame s u := (tame_driveOff s).trans (tame_onDriver _ _)
  exact (hu.trans (tame_raise u _)).safe.trans (safe_handDriver _ _ _)

theorem safe_indicateSupply (s : State) : Safe s (indicateSupply s) := by
  unfold indicateSupply
  extract_lets fell u
  have hu : Tame s u := tame_onDriver s _
  exact hu.safe.trans (.ite (fun _ => safe_endDrive u _) fun _ => .refl u)

/-! #### Setup (R193, R195) -/

theorem safe_decideSetupSensor (s : State) (f : SensorFields) : Safe s (decideSetupSensor f s).1 := by
  unfold decideSetupSensor
  split
  · exact .refl s
  · split
    · exact .refl s
    · split
      · exact .refl s
      · split
        · exact .refl s
        · extract_lets u v
          have hu : Tame s u := tame_onSetup s _
          have hv : Tame u v := (tame_computeLayout u).trans (tame_onReadout _ fun _ => Nat.zero_le _)
          refine (hu.trans hv).safe.trans (.ite (fun hs => safe_seqEnter_rests ?_ _) fun _ => .refl v)
          rw [hs]; decide

theorem tame_decideSetupStore (s : State) (f : StoreFields) : Tame s (decideSetupStore f s).1 := by
  unfold decideSetupStore
  extract_lets limit moved
  split
  · exact .refl s
  · split
    · exact .refl s
    · exact (tame_onSetup s _).trans (.ite (fun _ => tame_computeLayout _) fun _ => .refl _)

theorem tame_decideSetupExposure (s : State) (f : ExposureFields) : Tame s (decideSetupExposure f s).1 := by
  unfold decideSetupExposure
  split
  · exact .refl s
  · exact (tame_onSetup s fun u => { u with exposure := exposureApply f u.exposure } :)

/-! #### Records (R19 to R21) -/

theorem tame_decideKeep (keep : Bool) (k : Fin 16) (s : State) : Tame s (decideKeep keep k s).1 := tame_setFrame s rfl

theorem tame_decideSettle (k : Fin 16) (s : State) : Tame s (decideSettle k s).1 := by
  unfold decideSettle
  split
  · exact .refl s
  · exact tame_setFrame s rfl

/-- What a record that is discarded does not hold (R21). -/
theorem discardCheck_none {f : Frame} (h : f.discardCheck = none) : f.viewPins = 0 ∧ f.cardPins = 0 ∧ f.darkUsers = 0
    ∧ f.darkState ≠ .pending ∧ f.awaitDark = false ∧ f.inFlight = false := by
  unfold Frame.discardCheck at h
  split at h
  · cases h
  · next h1 =>
    split at h
    · cases h
    · next h2 =>
      simp only [Bool.or_eq_true, decide_eq_true_eq, beq_iff_eq, not_or, Nat.not_lt, Nat.le_zero, Bool.not_eq_true]
        at h1 h2
      exact ⟨h2.1.1.1, h2.1.1.2, h2.1.2, h2.2, h1.2, h1.1⟩

theorem freeRecord_tame_of {k : Fin 16} (hk : (s.frame k).state ≠ .free) (h : (s.frame k).discardCheck = none) :
    Tame s (freeRecord k s) := by
  obtain ⟨hv, hc, hu, hp, ha, hf⟩ := discardCheck_none h
  have only := freeRecord_onlyFrames k s
  have seq : (freeRecord k s).seq = s.seq := freeRecord_seq s k
  refine ⟨only.steady, fun pend ok => ok.freeRecord hk hv hc hu hp ha hf, fun m hm => ?_, by rw [State.shotKey, seq]; rfl,
    fun x => seq ▸ x⟩
  by_cases hmk : m = k
  · subst hmk
    simp [Frame.free, Frame.inFlight] at hm
  · rw [freeRecord_frame_other s hmk] at hm ⊢
    exact ⟨hm, rfl⟩

theorem tame_onRecord {d : Fin 16 → State → State × Option ResultCode} (id : Word) (s : State)
    (h : ∀ k, (s.frame k).state ≠ .free → Tame s (d k s).1) : Tame s (onRecord id d s).1 := by
  unfold onRecord
  split
  · next k hk => exact h k (find_spec hk).2.1
  · exact .refl s

theorem tame_decideDiscard {k : Fin 16} (hk : (s.frame k).state ≠ .free) : Tame s (decideDiscard k s).1 := by
  unfold decideDiscard
  split
  · exact .refl s
  · next h => exact freeRecord_tame_of hk h

/-! #### The request unit (R175 to R178) -/

theorem tame_writeAwaited (s : State) : Tame s (writeAwaited s) := by
  unfold writeAwaited
  extract_lets u
  have hu : Tame s u := .foldl (fun s k => tame_writeMirror s k) _ s
  exact hu.trans (.ite (fun _ => tame_writeQueueMirror u) fun _ => .refl u)

/-- A request unit that counts anew, in range. -/
theorem tame_onReq_posts {f : RequestUnit → RequestUnit} (h : s.PostsInRange → (s.onReq f).PostsInRange) :
    Tame s (s.onReq f) :=
  ⟨⟨fun h => h, h, fun h => h, fun h => h, fun h => h⟩, fun _ h => h, fun _ h => ⟨h, rfl⟩, rfl, fun h => h⟩

theorem tame_postEffect (s : State) (lo hi : Option Byte) : Tame s (postEffect lo hi s) := by
  unfold postEffect
  extract_lets count
  refine .ite (fun h => tame_onReq_posts fun _ => ?_) fun _ => tame_raise s _
  simp only [RequestUnit.admits, Bool.and_eq_true, decide_eq_true_eq, Bool.or_eq_true, Option.isNone_iff_eq_none] at h
  refine ⟨h.1, fun hh heq => ?_⟩
  have heq : count = s.req.consumed := heq
  rcases h.2 with hn | hn
  · rw [State.onReq_req, hn] at hh
    cases hh
  · rw [heq, BitVec.sub_self] at hn
    cases hn

theorem canFetch_spec (h : s.canFetch = true) : s.req.post ≠ s.req.consumed ∧ s.req.hand = none := by
  simp only [State.canFetch, Bool.and_eq_true, bne_iff_ne, Option.isNone_iff_eq_none] at h
  exact h.1

theorem recordRead_req (s : State) (a n : Nat) : (recordRead a n s).1.req = s.req := by
  have drained : (drain .record (issue .record (readBursts ((List.range n).map (a + ·))) s)).req = s.req := by
    rw [drain_onlyMemory]
    rfl
  exact drained

theorem recordWrite_req (s : State) (a : Nat) (bytes : List Byte) : (recordWrite a bytes s).req = s.req := by
  rw [recordWrite_onlyMemory]

theorem writeMirror_req (s : State) (k : Fin 16) : (writeMirror k s).req = s.req := by
  simp [writeMirror, recordWrite_req]

theorem writeQueueMirror_req (s : State) : (writeQueueMirror s).req = s.req := by
  simp [writeQueueMirror, recordWrite_req]

theorem writeAwaited_req (s : State) : (writeAwaited s).req = s.req := by
  unfold writeAwaited
  extract_lets u
  have hu : u.req = s.req := List.foldlRecOn _ _ (motive := fun t => t.req = s.req) rfl
    fun t ht k _ => (writeMirror_req t k).trans ht
  split
  · exact (writeQueueMirror_req u).trans hu
  · exact hu

theorem tame_fetchRequest (h : s.canFetch = true) : Tame s (fetchRequest s) := by
  unfold fetchRequest
  extract_lets r
  have req : r.1.req = s.req := recordRead_req s _ _
  refine (tame_recordRead s _ _).trans (tame_onReq_posts fun g => ⟨g.1, fun _ => ?_⟩)
  change r.1.req.post ≠ r.1.req.consumed
  rw [req]
  exact (canFetch_spec h).1

/-- A posted request that is completed leaves one fewer ahead (R176, R178). -/
theorem sub_succ_le {a b : Half} (h : (a - b).toNat ≤ 16) (hne : a ≠ b) : (a - (b + 1)).toNat ≤ 16 := by
  have : a.toNat ≠ b.toNat := fun e => hne (BitVec.eq_of_toNat_eq e)
  bv_omega

theorem tame_completeRequest (s : State) : Tame s (completeRequest s) := by
  unfold completeRequest
  split
  · next h code hh _ =>
    extract_lets u word v
    have hu : Tame s u := tame_writeAwaited s
    have hv : Tame u v := tame_recordWrite u _ _
    have req : v.req = s.req := (recordWrite_req u _ _).trans (writeAwaited_req s)
    refine .trans ((hu.trans hv).trans ?_) (tame_raise _ _)
    refine tame_onReq_posts fun g => ⟨?_, nofun⟩
    change (v.req.post - (v.req.consumed + 1)).toNat ≤ 16
    have hand : v.req.hand.isSome := by rw [req, hh]; rfl
    exact sub_succ_le g.1 (g.2 hand)
  · exact .refl s

end Sys2Proof.Machine

namespace Sys2Proof.Machine

variable {s t : State} {pend : List Word}

/-! ### RESTART (R187) -/

theorem tame_restartDriver (s : State) : Tame s (restartDriver s) := (tame_driveOff s).trans (tame_onDriver _ _)

theorem restartSequencer_shot (s : State) : (restartSequencer s).seq.shot = none := rfl

theorem steady_restartSequencer (s : State) : Steady s (restartSequencer s) := by
  have dropped : Steady s (dropTrips s) := (tame_dropTrips s).toSteady
  exact ⟨dropped.wf, dropped.posts, dropped.nextId, dropped.lists, fun _ => nofun⟩

theorem State.Flies.restartSequencer {key : Option (Fin 16 × Word)} (g : s.Flies pend key) :
    (restartSequencer s).Flies pend key :=
  ⟨((tame_dropTrips s).flies g).ok, ((tame_dropTrips s).flies g).flight⟩

/-- The record in flight, if there is one (R25). -/
def State.flying (s : State) : Option (Fin 16) := slots.find? fun k => (s.frame k).inFlight

/-- RESTART spoils the record in flight (R25). -/
def spoilFlying (s : State) : State :=
  match s.flying with
  | some k => spoilRecord k .restart s
  | none => s

theorem flying_inFlight {k : Fin 16} (h : s.flying = some k) : (s.frame k).inFlight = true :=
  List.find?_some (p := fun k => (s.frame k).inFlight) h

theorem flying_none (h : s.flying = none) (k : Fin 16) : (s.frame k).inFlight = false := by
  have := List.find?_eq_none.1 h k (mem_slots k)
  simpa using this

theorem tame_spoilFlying (s : State) : Tame s (spoilFlying s) := by
  unfold spoilFlying
  split
  · next k hk => exact tame_spoilRecord s (flying_inFlight hk) _
  · exact .refl s

theorem State.Flies.spoilFlying {key : Option (Fin 16 × Word)} (g : s.Flies pend key) : (spoilFlying s).Flies pend none := by
  refine ⟨(tame_spoilFlying s).ok pend g.ok, fun j hj => ?_⟩
  exfalso
  obtain ⟨hs, -⟩ := (tame_spoilFlying s).flight j hj
  unfold Machine.spoilFlying at hj
  split at hj
  · next k hk =>
    obtain rfl := g.flight.unique hs (flying_inFlight hk)
    have spoiled : (spoilRecord j .restart s).frame j = { s.frame j with state := .spoiled, spoil := some .restart } :=
      State.frame_setFrame_same s j _
    rw [spoiled] at hj
    cases hj
  · next hn => rw [flying_none hn] at hs; cases hs

/-- A block's part of RESTART that the operands put before or behind the handoff of the spoil. -/
def handSpoil (id : Option Word) (first : Bool) (f : Word → State → State) (s : State) : State :=
  match id with
  | some i => if first then f i s else s
  | none => s

theorem tame_handSpoil (id : Option Word) (first : Bool) {f : Word → State → State} (h : ∀ i s, Tame s (f i s)) (s : State) :
    Tame s (handSpoil id first f s) := by
  unfold handSpoil
  split
  · exact .ite (fun _ => h _ s) fun _ => .refl s
  · exact .refl s

/-- RESTART up to the sequencer's part: the shot is left, its record still in flight. -/
def restartBegun (s : State) : State := restartSequencer (restartDriver (settle s (s.onReq fun r => { r with causes := 0 })))

theorem steady_restartBegun (s : State) : Steady s (restartBegun s) := by
  have settled : Tame s (settle s (s.onReq fun r => { r with causes := 0 })) := by
    refine .trans ?_ (tame_settle _ _)
    exact tame_onReq s rfl rfl rfl
  exact (settled.trans (tame_restartDriver _)).toSteady.trans (steady_restartSequencer _)

theorem State.Good.restartBegun (g : s.Good pend) : (restartBegun s).Flies pend s.shotKey := by
  have settled : Tame s (settle s (s.onReq fun r => { r with causes := 0 })) := by
    refine .trans ?_ (tame_settle _ _)
    exact tame_onReq s rfl rfl rfl
  exact ((settled.trans (tame_restartDriver _)).flies g.flies).restartSequencer

/-- What RESTART does behind the spoil of the record, of the frame `id`. -/
def restartBlocks (id : Option Word) (v c : Bool) (s : State) : State :=
  restartReadout (restartCard (handSpoil id c cardSpoiled (restartViews (handSpoil id v breakViews s))))

theorem tame_restartReadout (s : State) : Tame s (restartReadout s) :=
  .ite (fun _ => (tame_finishRows s).trans (tame_leaveReadout _)) fun _ => .refl s

theorem tame_restartBlocks (id : Option Word) (v c : Bool) (s : State) : Tame s (restartBlocks id v c s) := by
  unfold restartBlocks
  refine .trans ?_ (tame_restartReadout _)
  refine .trans ?_ (tame_restartCard _)
  refine .trans ?_ (tame_handSpoil id c (fun i s => tame_cardSpoiled s i) _)
  refine .trans ?_ (tame_restartViews _)
  exact tame_handSpoil id v (fun i s => tame_breakViews s i) s

theorem restart_eq (v c : Bool) (s : State) : restart v c s = darkFailure (restartBlocks
    ((restartBegun s).flying.map fun k => ((restartBegun s).frame k).id) v c (spoilFlying (restartBegun s))) := rfl

theorem safe_restart (v c : Bool) (s : State) : Safe s (restart v c s) := by
  rw [restart_eq]
  have rest := (tame_spoilFlying (restartBegun s)).trans
    (tame_restartBlocks ((restartBegun s).flying.map fun k => ((restartBegun s).frame k).id) v c _)
  refine .of_left (((steady_restartBegun s).trans rest.toSteady).trans (steady_darkFailure _)) fun pend g => ?_
  refine State.Left.darkFailure ⟨(tame_restartBlocks _ v c _).flies g.restartBegun.spoilFlying, ?_⟩
  exact shotKey_eq_none.1 (rest.shot.trans (shotKey_eq_none.2 (restartSequencer_shot _)))

/-! ### The handoffs that arrive (log 23) -/

/-- A message that is taken may be of a frame on its way to its decision. -/
theorem steady_takeMessage (m : Message) (s : State) : Steady s (takeMessage m s) := by
  cases m with
  | tripEdge edge params abandoned => exact (safe_answerTrip s edge params abandoned).toSteady
  | driver shot report => exact (safe_takeReport s shot report).toSteady
  | completion f blacks flags => exact steady_takeCompletion s f blacks flags
  | completed f => exact steady_lightCompleted s f

theorem State.Good.takeMessage {h : Handoff} (g : s.Good (undecidedOf [h] ++ pend)) :
    (takeMessage h.message s).Good pend := by
  obtain ⟨m, n⟩ := h
  cases m with
  | tripEdge edge params abandoned => exact (safe_answerTrip s edge params abandoned).good pend g
  | driver shot report => exact (safe_takeReport s shot report).good pend g
  | completion f blacks flags => exact (safe_takeCompletion s f blacks flags).good pend g
  | completed f => exact State.Good.lightCompleted g

/-- Handoffs are taken one after the other. -/
def takeAll (hs : List Handoff) (s : State) : State := hs.foldl (fun s h => settle s (takeMessage h.message s)) s

theorem steady_takeAll (hs : List Handoff) (s : State) : Steady s (takeAll hs s) := by
  induction hs generalizing s with
  | nil => exact .refl s
  | cons h hs ih => exact ((steady_takeMessage h.message s).trans (tame_settle s _).toSteady).trans (ih _)

theorem State.Good.takeAll {hs : List Handoff} (g : s.Good (undecidedOf hs ++ pend)) : (takeAll hs s).Good pend := by
  induction hs generalizing s with
  | nil => exact g
  | cons h hs ih =>
    have cons : undecidedOf (h :: hs) = undecidedOf [h] ++ undecidedOf hs :=
      List.filterMap_append (l := [h]) (l' := hs)
    rw [cons, List.append_assoc] at g
    exact ih ((tame_settle s _).good g.takeMessage)

/-- Handoffs that have arrived are no more on their way. -/
theorem State.Good.arrive {rest arrived : List Handoff} (g : s.Good pend)
    (h : (undecidedOf s.handoffs).Perm (undecidedOf arrived ++ undecidedOf rest)) :
    (s.onHandoffs fun _ => rest).Good (undecidedOf arrived ++ pend) := by
  refine ⟨?_, g.flight, g.rest⟩
  refine Tab.Core.rehold g.ok rfl rfl rfl rfl g.ok.lodged g.ok.light ?_
  change (undecidedOf rest ++ (undecidedOf arrived ++ pend)).Perm (undecidedOf s.handoffs ++ pend)
  rw [← List.append_assoc]
  exact (List.perm_append_comm.trans h.symm).append_right _

theorem safe_takeArrived (s : State) : Safe s (takeArrived s) := by
  have waits : undecidedOf ((s.handoffs.filter fun h => decide (1 < h.lag)).map fun h => { h with lag := h.lag - 1 })
      = undecidedOf (s.handoffs.filter fun h => !decide (h.lag ≤ 1)) := by
    rw [undecidedOf, undecidedOf, List.filterMap_map]
    congr 1
    refine List.filter_congr fun h _ => ?_
    rw [Bool.eq_iff_iff, Bool.not_eq_true', decide_eq_false_iff_not, decide_eq_true_iff, Nat.not_le]
  have split : (undecidedOf s.handoffs).Perm (undecidedOf (s.handoffs.filter fun h => decide (h.lag ≤ 1))
      ++ undecidedOf ((s.handoffs.filter fun h => decide (1 < h.lag)).map fun h => { h with lag := h.lag - 1 })) := by
    rw [waits, undecidedOf, undecidedOf, undecidedOf, ← List.filterMap_append]
    exact ((List.filter_append_perm _ s.handoffs).filterMap _).symm
  have steady (rest : List Handoff) : Steady s (s.onHandoffs fun _ => rest) :=
    ⟨fun h => h, fun h => h, fun h => h, fun h => h, fun h => h⟩
  exact ⟨(steady _).trans (steady_takeAll _ _), fun pend g => (g.arrive split).takeAll⟩

/-! ### Every command -/

theorem tame_setMask (s : State) (mask : Half) :
    Tame s (accept (s.onReq fun r => { r with mask := mask.setWidth 14 })).1 := by
  unfold accept
  exact (tame_onReq s (f := fun r => { r with mask := mask.setWidth 14 }) rfl rfl rfl :)

theorem tame_decideCheckRelease (s : State) : Tame s (decideCheckRelease s).1 := by
  unfold decideCheckRelease
  split
  · exact tame_startCheck s none
  · exact .refl s

theorem tame_takeBare {e : State → State} (h : ∀ s, Tame s (e s)) (s : State) : Tame s (takeBare e s) :=
  .ite (fun _ => .refl s) fun _ => (tame_drain s _).trans (h _)

theorem tame_takePost (s : State) (lo hi : Option Byte) : Tame s (takePost lo hi s) := by
  unfold takePost
  split
  · exact tame_takeBare (fun s => tame_postEffect s lo hi) s
  · refine .ite (fun _ => .trans ?_ (tame_postEffect _ lo hi)) fun _ => .refl s
    exact (tame_grantUntil s _ _).trans (tame_onPath _ _)

theorem tame_clearEffect (s : State) (b4 b5 : Option Byte) : Tame s (clearEffect b4 b5 s) := tame_onReq s rfl rfl rfl

theorem tame_takeClear (s : State) (b4 b5 b6 b7 : Option Byte) : Tame s (takeClear b4 b5 b6 b7 s) := by
  unfold takeClear
  split
  · exact tame_takeBare (fun s => tame_clearEffect s b4 b5) s
  · refine .ite (fun _ => .trans ?_ (tame_clearEffect _ b4 b5)) fun _ => .refl s
    exact (tame_grantUntil s _ _).trans (tame_onPath _ _)

theorem safe_effect (i : Instr) (s : State) : Safe s (effect i s) := by
  cases i <;> dsimp only [effect]
  case powerOnReset => exact .refl s
  case resetEnd => exact .refl s
  case processorWrite => exact .ite (fun _ => (tame_onPath s _).safe) fun _ => (tame_takeWrite s _).safe
  case postWrite lo hi => exact (tame_takePost s lo hi).safe
  case causeClearWrite b4 b5 b6 b7 => exact (tame_takeClear s b4 b5 b6 b7).safe
  case apertureRead => exact .ite (fun _ => (tame_onPath s _).safe) fun _ => (tame_takeRead s _ _).safe
  case apertureReadComplete => exact safe_whenDue s fun _ => (tame_completeRead s).safe
  case heldReadExpiry => exact safe_whenDue s fun _ => (tame_expireRead s).safe
  case arbiterGrant => exact (tame_grant s).safe
  case requestFetch => exact safe_whenDue s fun h => (tame_fetchRequest h).safe
  case requestComplete => exact safe_whenDue s fun _ => (tame_completeRequest s).safe
  case statusPageWrite => exact safe_whenDue s fun _ => (tame_writeStatusPage s).safe
  case mirrorWrite k => exact safe_whenDue s fun _ => (tame_writeMirror s k).safe
  case cardQueueMirrorWrite => exact safe_whenDue s fun _ => (tame_writeQueueMirror s).safe
  case setupSensor f => exact safe_asked s _ fun s => safe_decideSetupSensor s f
  case setupStore f => exact safe_asked s _ fun s => (tame_decideSetupStore s f).safe
  case setupExposure f => exact safe_asked s _ fun s => (tame_decideSetupExposure s f).safe
  case setMask mask => exact safe_asked s _ fun s => (tame_setMask s mask).safe
  case restart v c => exact safe_asked s _ fun s => safe_restart v c s
  case release mode bulb delay => exact safe_asked s _ fun s => safe_decideRelease s mode bulb delay
  case arm stay => exact safe_asked s _ fun s => safe_decideArm s stay
  case disarm => exact safe_asked s _ safe_decideDisarm
  case cancel => exact safe_asked s _ safe_decideCancel
  case checkRelease => exact safe_asked s _ fun s => (tame_decideCheckRelease s).safe
  case clearFaults => exact safe_asked s _ fun s => (tame_clearFaults s).safe
  case takeDark duration => exact safe_asked s _ fun s => safe_decideTakeDark s duration
  case keep id => exact safe_asked s _ fun s => (tame_onRecord id s fun k _ => tame_decideKeep true k s).safe
  case unkeep id => exact safe_asked s _ fun s => (tame_onRecord id s fun k _ => tame_decideKeep false k s).safe
  case settle id => exact safe_asked s _ fun s => (tame_onRecord id s fun k _ => tame_decideSettle k s).safe
  case discard id => exact safe_asked s _ fun s => (tame_onRecord id s fun _ => tame_decideDiscard).safe
  case openView f => exact safe_asked s _ fun s => (tame_decideOpenView s f).safe
  case closeView view => exact safe_asked s _ fun s => (tame_decideCloseView s view).safe
  case loadTone table addr => exact safe_asked s _ fun s => (tame_decideLoadTone s table addr).safe
  case toneBankWrite => exact safe_whenDue s fun _ => (tame_writeTone s).safe
  case cardJob f => exact safe_asked s _ fun s => (tame_decideCardJob s f).safe
  case cardResume => exact safe_asked s _ fun s => (tame_decideCardResume s).safe
  case cardFlush => exact safe_asked s _ fun s => (tame_decideCardFlush s).safe
  case unknownRequest kind => exact safe_asked s _ fun s => .refl s
  case syncRawEdge closed => exact safe_rawEdge s closed
  case runQualifies =>
    refine safe_whenDue s fun _ => ?_
    split
    · exact safe_qualify s _
    · exact .refl s
  case blankingEnd => exact safe_whenDue s fun _ => safe_blankingEnd s
  case checkEnd microamps => exact safe_whenDue s fun _ => safe_checkEnd s microamps
  case pullInEnd => exact safe_whenDue s fun _ => (tame_enterHold s).safe
  case holdChop => exact safe_whenDue s fun _ => (tame_chop s).safe
  case bulbEnd => exact safe_whenDue s fun _ => safe_endDrive s _
  case holdLimit => exact safe_whenDue s fun _ => safe_endDrive s _
  case openLoadLatch => exact safe_whenDue s fun _ => safe_latchOpen s
  case shortDetected => exact safe_whenDue s fun _ => safe_latchShort s
  case lowSupplyIndication => exact safe_whenDue s fun _ => safe_indicateSupply s
  case tripDelayEnd => exact safe_whenDue s fun _ => (tame_enterPreparing s).safe
  case flushDone => exact safe_whenDue s fun _ => (tame_flushDone s).safe
  case startAck => exact (tame_onSeq s rfl rfl).safe
  case endAck => exact safe_whenDue s fun _ => (tame_endAck s).safe
  case flushTimeout => exact safe_whenDue s fun _ => safe_sensorFault s
  case ackTimeout => exact safe_whenDue s fun _ => safe_sensorFault s
  case syncTimeout =>
    exact safe_whenDue s fun _ => safe_withShot (fun h s _ =>
      (((tame_driveOff s).trans (tame_addFlag _ _ _)).trans (tame_endIntegration _ h)).safe) s
  case openWaitExpiry =>
    exact safe_whenDue s fun _ => safe_withShot (fun h s _ => ((tame_addFlag s _ _).trans (tame_endIntegration _ h)).safe) s
  case tailEnd => exact safe_whenDue s fun _ => safe_withShot (fun h s _ => (tame_endIntegration s h).safe) s
  case integrationCap =>
    exact safe_whenDue s fun _ => safe_withShot (fun h s _ => ((tame_addFlag s _ _).trans (tame_endIntegration _ h)).safe) s
  case falseStartWindowExpiry => exact safe_whenDue s fun _ => safe_withShot (fun _ _ hs => safe_falseStart hs) s
  case darkDurationEnd => exact safe_whenDue s fun _ => safe_withShot (fun h s _ => (tame_endIntegration s h).safe) s
  case rowPacket row samples check => exact safe_rowPacket s row samples check
  case rowStored => exact safe_whenDue s fun _ => ((tame_drainReadout s).trans (tame_storeRow _)).safe
  case frameEndMarker => exact safe_frameEndMarker s
  case frameComplete =>
    refine safe_whenDue s fun _ => ?_
    split
    · exact safe_completeFrame s _
    · exact .refl s
  case readoutTimeout => exact safe_whenDue s fun _ => safe_spoilReadout s _
  case detectLineChange a b => exact (tame_detectLine s a b).safe
  case detectDebounceExpiry => exact safe_whenDue s fun _ => (tame_debounced s).safe
  case identifyAnswer block check => exact safe_whenDue s fun _ => (tame_identify s block check).safe
  case capacityAnswer bytes check => exact safe_whenDue s fun _ => (tame_takeCapacity s bytes check).safe
  case cardInitTimeout => exact safe_whenDue s fun _ => (tame_cardUnusable s).safe
  case sectorFetched => exact safe_whenDue s fun _ => (tame_sectorFetched s).safe
  case cardToken token => exact safe_whenDue s fun _ => (tame_takeToken s token).safe
  case cardBusyEnd => exact safe_whenDue s fun _ => (tame_busyEnd s).safe
  case sectorLimitExpiry => exact safe_whenDue s fun _ => (tame_sectorLimit s).safe
  case readSectorReceived bytes check =>
    exact safe_whenDue s fun _ => (tame_afterStoring (fun s => tame_receiveSector s bytes check) s).safe
  case readSectorStored => exact safe_whenDue s fun _ => (tame_readStored s).safe
  case rampBlankEnd => exact safe_whenDue s fun _ => (tame_onDriver s _).safe
  case currentSenseChange microamps => exact (tame_senseCurrent s microamps).safe
  case supplyComparatorChange low => exact (tame_compareSupply s low).safe

/-! ### Power-on reset (R209) -/

theorem tame_endReset (c d : Bool) (s : State) : Tame s (endReset c d s) := by
  unfold endReset
  extract_lets u v w x y z
  have hu : Tame s u := ⟨⟨fun h => h, fun h => h, fun h => h, fun h => h, fun h => h⟩, fun _ h => h,
    fun _ h => ⟨h, rfl⟩, rfl, fun h => h⟩
  have hv : Tame u v := tame_onPins u _
  have hw : Tame v w := tame_onSync v fun h => h
  have hx : Tame w x := tame_onCard_same w rfl rfl
  have hy : Tame x y := tame_onDriver x _
  have hz : Tame y z := .foldl (fun s k => tame_writeMirror s k) _ y
  exact ((((((hu.trans hv).trans hw).trans hx).trans hy).trans hz).trans (tame_writeQueueMirror z)).trans
    (tame_writeStatusPage _)

theorem State.reset_frame (k : Fin 16) : State.reset.frame k = Frame.free 0 := by
  revert k
  decide

/-- A table of FREE records that nothing refers to. -/
theorem Tab.Core.of_free {T : Tab} (free : ∀ k, (T.rows k).state = .free) (nextId : T.nextId ≠ 0) (lodged : T.lodged = none)
    (viewed : T.viewed = []) (carded : T.carded = []) (light : T.light = none) (undecided : T.undecided = []) : T.Core where
  nextId := nextId
  id_ne_zero k h := absurd (free k) h
  id_inj j _ h := absurd (free j) h
  rank_inj j _ h := absurd (free j) h
  rank_lt k h := absurd (free k) h
  viewPins k h := absurd (free k) h
  cardPins k h := absurd (free k) h
  viewed := by simp [viewed]
  carded := by simp [carded]
  users k h := absurd (free k) h
  linked j _ h := absurd (free j) h
  lodged := by simp [lodged]
  light := by simp [light]
  nodup := by simp [undecided]
  undecided := by simp [undecided]

theorem good_of_free (free : ∀ k, (s.frame k).state = .free) (nextId : s.store.nextId ≠ 0) (lodged : s.store.lodged = none)
    (views : ∀ v, (s.view v).state = .closed) (jobs : s.card.jobs = []) (dark : s.dark.job = none)
    (handoffs : s.handoffs = []) (shot : s.seq.shot = none) : s.Good [] := by
  refine ⟨(ok_nil s).2 (.of_free (fun k => ?_) nextId lodged ?_ ?_ ?_ ?_), fun k hk => ?_, fun _ => shot⟩
  · simpa using free k
  · exact List.flatMap_eq_nil_iff.2 fun v _ => View.pins_of_not_open (by simp [views v])
  · simp [State.tab, jobs]
  · simp [dark]
  · simp [handoffs, undecidedOf]
  · exact absurd (free k) (Frame.live_of_inFlight hk)

theorem resetFrame_free (k : Fin 16) : (State.reset.frame k).state = .free := by rw [State.reset_frame]; rfl

theorem resetView_closed (v : Fin 4) : (State.reset.view v).state = .closed := by
  revert v
  decide

theorem reset_tabled : State.reset.Tabled :=
  (tabled_iff _).2 (good_of_free resetFrame_free (by decide) rfl resetView_closed rfl rfl rfl rfl)

theorem reset_listsBounded : State.reset.ListsBounded := ⟨Nat.zero_le _, Nat.zero_le _, Nat.zero_le _⟩

theorem reset_postsInRange : State.reset.PostsInRange := ⟨by decide, nofun⟩

theorem reset_sound : State.reset.Sound :=
  ⟨rfl, fun _ => rfl, reset_postsInRange, by decide, reset_listsBounded⟩

theorem reset_driveLocked : State.reset.DriveLocked := by
  refine ⟨fun h => ?_, fun h hs => ?_⟩
  · cases (h : (false : Bool) = true)
  · cases (hs : (none : Option Shot) = some h)

theorem reset_fenced : State.reset.Fenced := by
  refine ⟨fun cells h => ?_, fun w h => ?_⟩
  · cases (h : _ ∈ ([] : List Burst))
  · cases (h : _ ∈ ([] : List PortTxn))

theorem reset_listensInArmed : State.reset.ListensInArmed := by
  intro h
  cases (h : (false : Bool) = true)

/-- Settles O39: each invariant is of records, lists and drives that reset leaves empty or off. -/
theorem invariantsHoldAtReset : Obligations.InvariantsHoldAtReset := by
  unfold Obligations.InvariantsHoldAtReset
  exact ⟨rfl, reset_sound, reset_driveLocked, reset_fenced, reset_tabled, reset_listensInArmed⟩

/-- Power-on reset leaves the outside, DRAM and the commands that wait (R209). -/
theorem poweredOn_steady (s : State) : Steady s (poweredOn s) :=
  ⟨fun h => h, fun _ => reset_postsInRange, fun _ => (by decide : (1 : Word) ≠ 0), fun _ => reset_listsBounded,
    fun _ => reset_listensInArmed⟩

theorem poweredOn_frame (s : State) (k : Fin 16) : (poweredOn s).frame k = State.reset.frame k :=
  State.frame_congr _ _ rfl k

theorem poweredOn_good (s : State) : (poweredOn s).Good [] := by
  refine good_of_free (fun k => ?_) (by decide : (1 : Word) ≠ 0) rfl (fun v => ?_) rfl rfl rfl rfl
  · rw [poweredOn_frame]
    exact resetFrame_free k
  · have view : (poweredOn s).view v = State.reset.view v := congrArg (Four.get · v) (rfl : _ = resetDevelop.views)
    rw [view]
    exact resetView_closed v

/-! ### Every step -/

theorem tame_pending (s : State) (l : List Instr) : Tame s { s with pending := l } :=
  ⟨⟨fun h => h, fun h => h, fun h => h, fun h => h, fun h => h⟩, fun _ h => h, fun _ h => ⟨h, rfl⟩, rfl, fun h => h⟩

theorem safe_answered {e : State → State} (he : ∀ s, Safe s (e s)) (h : Answered e s t) : Safe s t := by
  obtain ⟨-, level, rfl⟩ | ⟨-, rfl⟩ := h
  · exact ((tame_quiet s).trans (tame_onPins _ _)).safe
  · exact ((tame_quiet s).safe.trans (he _)).trans ((tame_pump _).trans (tame_settle _ _)).safe

theorem safe_tick (s : State) : Safe s (tick s) := by
  unfold tick
  split
  · exact (tame_quiet s).safe
  · exact (((tame_quiet s).trans (tame_microsecond _)).safe.trans (safe_takeArrived _)).trans
      ((tame_pump _).trans (tame_settle _ _)).safe

/-- A step is safe, or it is power-on reset. -/
theorem safe_step (h : step s = .next t) : Safe s t ∨ ∃ s', Steady s s' ∧ t = poweredOn s' := by
  obtain ⟨-, rfl⟩ | ⟨i, rest, -, he⟩ := step_cases h
  · exact .inl (safe_tick s)
  · have pending := tame_pending s rest
    obtain ⟨-, rfl⟩ | ⟨c, d, -, rfl⟩ | ha := exec_cases he
    · exact .inr ⟨_, pending.toSteady, rfl⟩
    · exact .inl (pending.safe.trans (.ite (fun _ => (tame_endReset c d _).safe) fun _ => (tame_quiet _).safe))
    · exact .inl (pending.safe.trans (safe_answered (safe_effect i) ha))

theorem steady_step (h : step s = .next t) : Steady s t := by
  obtain hs | ⟨s', hs, rfl⟩ := safe_step h
  · exact hs.toSteady
  · exact hs.trans (poweredOn_steady s')

/-- Settles O14: the table stays consistent with the shot through every operation, and a record in flight is the shot's. -/
theorem everyStepKeepsTheRecordTable : Obligations.EveryStepKeepsTheRecordTable := by
  unfold Obligations.EveryStepKeepsTheRecordTable
  refine ⟨fun s hs j k hj hk => ((tabled_iff s).1 hs).flight.unique hj hk, fun s t hs h => ?_⟩
  rw [tabled_iff] at hs ⊢
  obtain safe | ⟨s', -, rfl⟩ := safe_step h
  · exact safe.good [] hs
  · exact poweredOn_good s'

/-! #### The processor port (R171) -/

theorem grant_port (s : State) : (grant s).path.port = s.path.port := by
  unfold grant
  split
  · rfl
  · split
    · rfl
    · next c _ =>
      split
      · rfl
      · cases c <;> rfl

theorem grantUntil_port (stop : MemPath → Bool) (n : Nat) (s : State) : (grantUntil stop n s).path.port = s.path.port := by
  induction n generalizing s with
  | zero => rfl
  | succ n ih =>
    unfold grantUntil
    split
    · rfl
    · exact (ih _).trans (grant_port s)

theorem recordWrite_port (a : Nat) (bytes : List Byte) (s : State) : (recordWrite a bytes s).path.port = s.path.port :=
  grantUntil_port _ _ _

theorem recordWrite_develop (a : Nat) (bytes : List Byte) (s : State) : (recordWrite a bytes s).develop = s.develop := by
  rw [recordWrite_onlyMemory]

/-- The port and the read in service are as they were. -/
def SamePort (s t : State) : Prop := t.path.port = s.path.port ∧ t.develop = s.develop

theorem SamePort.trans {u : State} (h : SamePort s t) (g : SamePort t u) : SamePort s u :=
  ⟨g.1.trans h.1, g.2.trans h.2⟩

theorem samePort_writeMirror (k : Fin 16) (s : State) : SamePort s (writeMirror k s) := by
  constructor <;> simp [writeMirror, recordWrite_port, recordWrite_develop]

theorem samePort_endReset (c d : Bool) (s : State) : SamePort s (endReset c d s) := by
  have mirrors (l : List (Fin 16)) (s : State) : SamePort s (l.foldl (fun s k => writeMirror k s) s) := by
    induction l generalizing s with
    | nil => exact ⟨rfl, rfl⟩
    | cons k l ih => exact (samePort_writeMirror k s).trans (ih _)
  have pages (s : State) : SamePort s (writeStatusPage (writeQueueMirror s)) := by
    constructor <;> simp [writeStatusPage, writeQueueMirror, recordWrite_port, recordWrite_develop]
  unfold endReset
  extract_lets u v w x y z
  have hy : SamePort s y := ⟨rfl, rfl⟩
  have hz : SamePort y z := mirrors slots y
  exact (hy.trans hz).trans (pages z)

/-- After the transactions have been taken none waits but behind a read (R171). -/
theorem takeTransactions_served (l : List PortTxn) (s : State) : (takeTransactions l s).PortServed := by
  induction l generalizing s with
  | nil => exact fun _ => rfl
  | cons x l ih =>
    cases x with
    | write w => exact ih _
    | read addr len =>
      intro h
      unfold takeTransactions takeRead at h
      dsimp only at h
      split at h <;> cases h

theorem pump_served (s : State) : (pump s).PortServed := by
  unfold pump
  split
  · next h => exact fun hn => nomatch h.symm.trans hn
  · exact takeTransactions_served _ _

theorem settle_served (a : State) (h : s.PortServed) : (settle a s).PortServed := by
  unfold State.PortServed
  rw [settle_develop, settle_path]
  exact h

theorem portServed_answered {e : State → State} (hs : s.PortServed) (h : Answered e s t) : t.PortServed := by
  obtain ⟨-, level, rfl⟩ | ⟨-, rfl⟩ := h
  · exact hs
  · exact settle_served _ (pump_served _)

theorem portServed_step (hs : s.PortServed) (h : step s = .next t) : t.PortServed := by
  obtain ⟨-, rfl⟩ | ⟨i, rest, -, he⟩ := step_cases h
  · unfold tick
    split
    · exact hs
    · exact settle_served _ (pump_served _)
  · obtain ⟨-, rfl⟩ | ⟨c, d, -, rfl⟩ | ha := exec_cases he
    · exact fun _ => rfl
    · split
      · obtain ⟨hport, hdevelop⟩ := samePort_endReset c d { s with pending := rest }
        intro hn
        rw [hport]
        exact hs (hdevelop ▸ hn)
      · exact hs
    · exact portServed_answered (s := { s with pending := rest }) hs ha

/-- Settles O36: every operation keeps the bounds, and a step ends with the transactions taken that no read holds up. -/
theorem everyStepKeepsTheStateSound : Obligations.EveryStepKeepsTheStateSound := by
  unfold Obligations.EveryStepKeepsTheStateSound
  refine ⟨fun s t ⟨hwf, hport, hposts, hid, hlists⟩ h => ?_, fun s t hs h => (steady_step h).listens hs⟩
  have steady := steady_step h
  exact ⟨steady.wf hwf, portServed_step hport h, steady.posts hposts, steady.nextId hid, steady.lists hlists⟩

end Sys2Proof.Machine

namespace Sys2Proof.Machine

/-! ### What the card engine's operations touch -/

theorem frame_of_store {s t : State} (h : t.store = s.store) (k : Fin 16) : t.frame k = s.frame k := by
  unfold State.frame
  rw [h]

theorem find_of_store {s t : State} (h : t.store = s.store) (id : Word) : t.find id = s.find id :=
  find_congr (fun k => by rw [frame_of_store h]; exact ⟨rfl, rfl⟩) id

theorem Keeps.same {c : List Part} {p : Part} {s t : State} (h : Keeps (p :: c) s t) (hp : p.Same s t) : Keeps c s t := by
  intro q hq
  by_cases e : q = p
  · exact e ▸ hp
  · exact h q (by simp [e, hq])

theorem keeps_settle {c : List Part} {s t : State} (a : State) (h : Keeps c s t) : Keeps c s (settle a t) := by
  intro p hp
  have hk := h p hp
  cases p
  case due =>
    obtain ⟨hmirror, hqueue, hstatus⟩ := hk
    exact ⟨fun k m => settle_keeps_mirrorDue _ _ k (hmirror k m), fun m => by simp [hqueue m], fun m => by simp [hstatus m]⟩
  case card => exact hk
  all_goals exact hk

/-- A row that is due, with an effect that leaves the port alone, yields its effect, settled. -/
theorem yields_runWhen {i : Instr} {due : State → Bool} {f : State → State} {s : State} {P : State → Prop} (hs : s.Awake)
    (hi : exec i s = runWhen due f s) (hd : due s.quiet = true)
    (hv : (f s.quiet).develop.service = s.develop.service) (hp : (f s.quiet).path.port = s.path.port)
    (h : P (settle s (f s.quiet))) : Yields i s P :=
  ⟨_, hi.trans (runWhen_keeps_port hs hd hv hp), h⟩

/-- Only what the card engine works on differs: the engine, its client at the arbiter, the records, the cause set, what
is sent, and what an answer waits for. -/
def CardWork (s t : State) : Prop := t = { s with
  card := t.card
  store := { s.store with frames := t.store.frames, mirrorDue := t.store.mirrorDue }
  path := { s.path with card := t.path.card }
  req := { s.req with causes := t.req.causes, waits := t.req.waits, waitsQueue := t.req.waitsQueue }
  sent := t.sent }

theorem CardWork.refl (s : State) : CardWork s s := rfl

theorem CardWork.trans {s t u : State} (h : CardWork s t) (g : CardWork t u) : CardWork s u := by
  unfold CardWork at *
  rw [g, h]

theorem CardWork.service {s t : State} (h : CardWork s t) : t.develop.service = s.develop.service := by rw [h]

theorem CardWork.port {s t : State} (h : CardWork s t) : t.path.port = s.path.port := by rw [h]

theorem onCard_work (s : State) (f : CardEngine → CardEngine) : CardWork s (s.onCard f) := rfl

theorem dropTransfer_work (s : State) : CardWork s (dropTransfer s) := rfl

theorem raise_work (s : State) (c : Cause) : CardWork s (raise c s) := rfl

theorem OnlyCard.work {s t : State} (h : OnlyCard s t) : CardWork s t := by
  unfold CardWork
  rw [h]

/-- What the card engine's work keeps, provided no write that was due is forgotten. -/
theorem CardWork.keeps {s t : State} (h : CardWork s t) (hstore : ∀ k, k ∈ s.store.mirrorDue → k ∈ t.store.mirrorDue)
    (hcard : s.card.mirrorDue = true → t.card.mirrorDue = true) :
    Keeps [.records, .card, .path, .answer, .causes, .sent] s t := by
  intro p hp
  cases p
  case records | card | path | answer | causes | sent => simp at hp
  case due => exact ⟨hstore, hcard, fun hd => by rw [h]; exact hd⟩
  all_goals rw [h]
  case dram => exact fun _ => rfl
  case clock => exact ⟨rfl, rfl⟩
  case store => exact ⟨rfl, rfl, rfl⟩
  case counts => exact ⟨rfl, rfl, rfl, rfl, rfl⟩
  all_goals rfl

/-- What the card engine's work keeps when it touches neither its client at the arbiter nor the cause set, and sends
nothing. -/
theorem CardWork.keeps_quietly {s t : State} (h : CardWork s t)
    (hstore : ∀ k, k ∈ s.store.mirrorDue → k ∈ t.store.mirrorDue) (hcard : s.card.mirrorDue = true → t.card.mirrorDue = true)
    (hpath : t.path = s.path) (hcauses : t.req.causes = s.req.causes) (hsent : t.sent = []) : Keeps [.records, .card, .answer] s t := by
  have hk := h.keeps hstore hcard
  have perm : Keeps [.path, .causes, .sent, .records, .card, .answer] s t := hk.mono (by decide)
  exact ((perm.same hpath).same hcauses).same hsent

/-! ### The socket and CARD_FLUSH (R145, R147, R161, R163) -/

/-- Jobs that end change completions and pins alone. -/
theorem endJobs_card_but (outcome : JobOutcome) (jobs : List Job) (s : State) :
    (endJobs outcome jobs s).card = { s.card with completions := (endJobs outcome jobs s).card.completions } := by
  induction jobs generalizing s with
  | nil => rfl
  | cons j jobs ih =>
    rw [endJobs_cons, ih]
    simp only [addCompletion, State.onCard_card, releasePin_card]

/-- The jobs that CARD_FLUSH cancels. -/
def State.queued (s : State) : List Job := s.card.jobs.filter fun j => !j.active

theorem cancelQueued_eq (s : State) : cancelQueued s = endJobs .cancelled s.queued
    (s.onCard fun c => { c with jobs := c.jobs.filter (·.active), halted := false }) := rfl

theorem cancelQueued_onlyCard (s : State) : OnlyCard s (cancelQueued s) :=
  (onCard_onlyCard s _).trans (endJobs_onlyCard _ _ _)

theorem cancelQueued_frame (s : State) : PinsReturned s.queued s (cancelQueued s) := endJobs_frame _ _ _

theorem cancelQueued_card (s : State) : (cancelQueued s).card = { s.card with
    jobs := s.card.jobs.filter (·.active), halted := false, completions := (cancelQueued s).card.completions } := by
  rw [cancelQueued_eq, endJobs_card_but]
  rfl

theorem cancelQueued_completions {s : State} (h : s.ListsBounded) : (cancelQueued s).card.completions =
    ((s.queued.map fun j => (⟨j.tag, .cancelled, j.sectorsDone⟩ : Completion)).reverse ++ s.card.completions).take 8 := by
  rw [cancelQueued_eq, endJobs_card _ _ _ (by exact h.2.1)]
  rfl

/-- The state in which CARD_FLUSH cancels: on an empty queue no mirror write is awaited (log 41). -/
def State.flushing (s : State) : State := if s.card.jobs.isEmpty then s else awaitQueue s

theorem flushing_eq (s : State) : s.flushing = { s with
    card := s.flushing.card, req := { s.req with waitsQueue := s.flushing.req.waitsQueue } } := by
  unfold State.flushing
  split <;> rfl

theorem flushing_work (s : State) : CardWork s s.flushing := by
  unfold CardWork
  rw [flushing_eq]

theorem flushing_frame (s : State) (k : Fin 16) : s.flushing.frame k = s.frame k := by
  rw [flushing_eq]; rfl

theorem flushing_card (s : State) :
    s.flushing.card = { s.card with mirrorDue := s.card.mirrorDue || !s.card.jobs.isEmpty } := by
  unfold State.flushing
  split
  · next h => simp [h]
  · next h => simp [h, awaitQueue, scheduleQueue]

theorem flushing_waitsQueue (s : State) : s.flushing.req.waitsQueue = (s.req.waitsQueue || !s.card.jobs.isEmpty) := by
  unfold State.flushing
  split
  · next h => simp [h]
  · next h => simp [h, awaitQueue, scheduleQueue]

/-- What CARD_FLUSH makes of the machine before its answer. -/
def State.flushed (s : State) : State := cancelQueued s.flushing

theorem decideCardFlush_eq (s : State) : decideCardFlush s = accept s.flushed := rfl

theorem flushed_frame (s : State) : PinsReturned s.queued s s.flushed := by
  intro k
  have find : ∀ id, s.flushing.find id = s.find id := find_congr fun i => by rw [flushing_frame]; exact ⟨rfl, rfl⟩
  have queued : s.flushing.queued = s.queued := by rw [State.queued, flushing_card]; rfl
  rw [State.flushed, cancelQueued_frame, flushing_frame, queued]
  simp only [find]

theorem flushed_card (s : State) : s.flushed.card = { s.card with
    jobs := s.card.jobs.filter (·.active), halted := false, mirrorDue := s.card.mirrorDue || !s.card.jobs.isEmpty
    completions := s.flushed.card.completions } := by
  rw [State.flushed, cancelQueued_card, flushing_card]

theorem flushed_completions {s : State} (h : s.ListsBounded) : s.flushed.card.completions =
    ((s.queued.map fun j => (⟨j.tag, .cancelled, j.sectorsDone⟩ : Completion)).reverse ++ s.card.completions).take 8 := by
  have bounded : s.flushing.ListsBounded := by
    rw [State.ListsBounded, flushing_card, flushing_work]
    exact h
  rw [State.flushed, cancelQueued_completions bounded, State.queued, flushing_card]
  rfl

theorem flushed_waitsQueue (s : State) :
    s.flushed.req.waitsQueue = (s.req.waitsQueue || !s.card.jobs.isEmpty) := by
  rw [State.flushed, cancelQueued_onlyCard, ← flushing_waitsQueue]

theorem flushed_eq (s : State) : s.flushed = { s with
    card := s.flushed.card
    store := { s.store with frames := s.flushed.store.frames }
    req := { s.req with waitsQueue := s.flushed.req.waitsQueue } } := by
  have only : OnlyCard s.flushing s.flushed := cancelQueued_onlyCard _
  rw [only, flushing_eq]

theorem flushed_work (s : State) : CardWork s s.flushed := by
  unfold CardWork
  rw [flushed_eq]

theorem deciding_work (s : State) : CardWork s s.deciding := rfl

theorem flushed_keeps (s : State) : Keeps [.records, .card, .answer] s s.deciding.flushed := by
  refine ((deciding_work s).trans (flushed_work _)).keeps_quietly (fun k hk => ?_) (fun hd => ?_) ?_ ?_ ?_
  case refine_1 =>
    rw [flushed_eq]
    exact hk
  case refine_2 =>
    rw [flushed_card]
    exact Bool.or_eq_true_iff.2 (.inl hd)
  all_goals rw [flushed_eq]; rfl

/-- An engine whose queue is as before has no write made due by settling. -/
theorem settle_card_of_jobs {a s : State} (h : a.card.jobs = s.card.jobs) : (settle a s).card = s.card := by
  rw [settle_card, h]
  simp

/-- A request that its owner accepts, working on the card engine, yields what it makes of the machine. -/
theorem yields_accept {i : Instr} {d : State → State × Option ResultCode} {s u : State} {P : State → Prop} (hs : s.Awake)
    (ha : s.asks i = true) (hi : exec i s = request i d s) (hd : d s.deciding = accept u) (work : CardWork s.deciding u)
    (h : P (settle s (endDecision s.deciding (accept u)))) : Yields i s P := by
  refine yields_request hs hi ha ?_ ?_ ?_
  · rw [hd]; exact work.service
  · rw [hd]; exact work.port
  · rw [hd]; exact h

/-- R163: what CARD_FLUSH yields. -/
theorem cardFlush_yields {s : State} (hs : s.Awake) (ha : s.asks .cardFlush = true) : Yields .cardFlush s fun t =>
    let queued := s.card.jobs.filter fun j => !j.active
    t.req.answer = some .ok ∧ t.card.jobs = s.card.jobs.filter (·.active) ∧ t.card.halted = false
      ∧ t.card.transfer = s.card.transfer ∧ t.card.pendingEnd = s.card.pendingEnd ∧ t.card.state = s.card.state
      ∧ (s.ListsBounded → t.card.completions
          = ((queued.map fun j => (⟨j.tag, .cancelled, j.sectorsDone⟩ : Completion)).reverse ++ s.card.completions).take 8)
      ∧ PinsReturned queued s t ∧ Awaits s t
      ∧ (s.card.jobs ≠ [] → t.card.mirrorDue = true ∧ t.req.waitsQueue = true)
      ∧ (s.card.jobs = [] → t.card.mirrorDue = s.card.mirrorDue ∧ t.req.waitsQueue = false)
      ∧ Keeps [.records, .card, .answer] s t := by
  set u := s.deciding.flushed with hu
  have card : u.card = { s.card with
      jobs := s.card.jobs.filter (·.active), halted := false, mirrorDue := s.card.mirrorDue || !s.card.jobs.isEmpty
      completions := u.card.completions } := flushed_card s.deciding
  have waits : u.req.waitsQueue = !s.card.jobs.isEmpty := (flushed_waitsQueue _).trans (Bool.false_or _)
  have frame : PinsReturned s.queued s u := flushed_frame s.deciding
  have counts : ∀ k, (u.frame k).changeCount = (s.frame k).changeCount := fun k => by rw [frame]
  have work : CardWork s.deciding u := flushed_work _
  refine yields_accept hs ha (d := decideCardFlush) rfl (decideCardFlush_eq _) work ?_
  set t := settle s (endDecision s.deciding (accept u)) with ht
  have tcard : t.card = { u.card with mirrorDue := u.card.mirrorDue || decide (s.card.jobs ≠ u.card.jobs) } := rfl
  have twaits : t.req.waitsQueue = (u.req.waitsQueue || decide (s.card.jobs ≠ u.card.jobs)) := rfl
  rw [card] at tcard twaits
  rw [waits] at twaits
  have keeps : Keeps [.records, .card, .answer] s t := keeps_settle_endDecision (flushed_keeps s) (by simp)
  have awaits : Awaits s t := awaits_settle_endDecision counts
  have tframe : PinsReturned s.queued s t := fun k => (settle_frame _ _ k).trans (frame k)
  have answer : t.req.answer = some .ok := rfl
  clear_value t
  refine ⟨answer, ?_, ?_, ?_, ?_, ?_, fun hb => ?_, tframe, awaits, fun hne => ?_, fun he => ?_, keeps⟩
  case refine_6 => rw [tcard]; exact flushed_completions (s := s.deciding) hb
  case refine_7 => rw [tcard, twaits]; simp [hne]
  case refine_8 => rw [tcard, twaits]; simp [he]
  all_goals rw [tcard]

/-- R145: what a change of the detect line yields. -/
theorem detectLineChange_yields {s : State} (hs : s.Awake) (cardIn protect : Bool) :
    Yields (.detectLineChange cardIn protect) s fun t =>
      t.pins = { s.pins with detectIn := cardIn, wprot := protect }
        ∧ t.card = { s.card with
            debounce := if cardIn = s.card.detectIn then none else some (s.card.debounce.getD 25000) }
        ∧ Keeps [.pins, .card] s t := by
  refine ⟨_, (runLine_of_awake hs.1).trans (run_keeps_port hs rfl rfl), rfl, settle_card_of_jobs rfl, keeps_settle _ ?_⟩
  intro p hp
  cases p
  case pins | card => simp at hp
  case records | dram => exact fun _ => rfl
  case due => exact ⟨fun _ h => h, fun h => h, fun h => h⟩
  all_goals simp [Part.Same, detectLine]

/-- The detect state takes the raw level once the debounce timer has run out. -/
def State.detected (s : State) : State := s.onCard fun c => { c with detectIn := s.pins.detectIn, debounce := none }

theorem detected_work (s : State) : CardWork s s.quiet.detected := rfl

theorem debounced_eq (s : State) : debounced s = if s.pins.detectIn then insertion s.detected else removal s.detected := rfl

/-- A debounce timer that has run out yields what it makes of the machine. -/
theorem debounce_yields {s u : State} {P : State → Prop} (hs : s.Awake) (hd : s.card.debounce = some 0)
    (effect : debounced s.quiet = u) (work : CardWork s u) (h : P (settle s u)) : Yields .detectDebounceExpiry s P := by
  subst effect
  refine yields_runWhen (due := fun s => timerDue s.card.debounce) hs rfl ?_ work.service work.port h
  simp [timerDue, hd]

/-- Identification begins. -/
def State.identifying (s : State) : State := (s.onCard fun c =>
  { c with state := .initializing, initStage := some .identify, initLimit := some initTime }).send .cardIdentify

theorem identifying_work (s : State) : CardWork s s.quiet.detected.identifying := rfl

theorem identifying_card (s : State) : (settle s s.quiet.detected.identifying).card = { s.card with
    detectIn := s.pins.detectIn, debounce := none, state := .initializing, initStage := some .identify
    initLimit := some 1000000 } :=
  settle_card_of_jobs rfl

theorem identifying_keeps (s : State) : Keeps [.card, .sent] s s.quiet.detected.identifying := by
  have keeps := (identifying_work s).keeps (fun _ h => h) fun h => h
  have perm : Keeps [.records, .path, .answer, .causes, .card, .sent] s s.quiet.detected.identifying :=
    keeps.mono (by decide)
  exact (((perm.same fun _ => rfl).same rfl).same ⟨rfl, rfl, rfl⟩).same rfl

/-- R146: an insertion into an empty socket starts identification. -/
theorem insertion_yields {s : State} (hs : s.Awake) (hd : s.card.debounce = some 0) (hin : s.pins.detectIn = true)
    (habs : s.card.state = .absent) : Yields .detectDebounceExpiry s fun t =>
      t.card = { s.card with
          detectIn := true, debounce := none, state := .initializing, initStage := some .identify
          initLimit := some 1000000 }
        ∧ t.sent = [.cardIdentify] ∧ Keeps [.card, .sent] s t := by
  have effect : debounced s.quiet = s.quiet.detected.identifying := by
    rw [debounced_eq, if_pos (by exact hin), insertion, if_pos (by exact habs)]
    rfl
  refine debounce_yields hs hd effect (identifying_work s) ⟨?_, rfl, keeps_settle _ (identifying_keeps s)⟩
  rw [identifying_card, hin]

/-- A level that agrees with the socket's state is taken over, and nothing else happens. -/
theorem agreed_yields {s : State} (hs : s.Awake) (hd : s.card.debounce = some 0)
    (h : s.pins.detectIn = true ∧ s.card.state ≠ .absent ∨ s.pins.detectIn = false ∧ s.card.state = .absent) :
    Yields .detectDebounceExpiry s fun t =>
      t.card = { s.card with detectIn := s.pins.detectIn, debounce := none } ∧ Keeps [.card] s t := by
  have effect : debounced s.quiet = s.quiet.detected := by
    rw [debounced_eq]
    rcases h with ⟨hin, hst⟩ | ⟨hin, hst⟩
    · rw [if_pos (by exact hin), insertion, if_neg (by exact hst)]
    · rw [if_neg (by simp [hin]), removal, if_pos (by exact hst)]
  refine debounce_yields hs hd effect (detected_work s) ⟨settle_card_of_jobs rfl, keeps_settle _ ?_⟩
  have keeps := (detected_work s).keeps (fun _ h => h) fun h => h
  have perm : Keeps [.sent, .records, .path, .answer, .causes, .card] s _ := keeps.mono (by decide)
  exact ((((perm.same rfl).same fun _ => rfl).same rfl).same ⟨rfl, rfl, rfl⟩).same rfl

/-- The state in which the jobs of a removed card fail. -/
def State.emptied (s : State) : State := (cardGone s).onCard fun c => { c with jobs := [] }

theorem emptied_work (s : State) : CardWork s s.emptied := by
  unfold State.emptied cardGone scheduleQueue
  refine .trans (.trans ?_ (onCard_work _ _)) (onCard_work _ _)
  exact .trans (onCard_work s _) (dropTransfer_work _)

theorem emptied_card (s : State) : s.quiet.detected.emptied.card = { s.card with
    detectIn := s.pins.detectIn, debounce := none, state := .absent, initStage := none, initLimit := none
    capacity := none, wpSample := none, jobs := [], halted := false, transfer := none, pendingEnd := none
    mirrorDue := true } := rfl

/-- Every job of the removed card has failed. -/
def State.gone (s : State) : State := endJobs (.failed .cardGone) s.card.jobs s.quiet.detected.emptied

theorem gone_onlyCard (s : State) : OnlyCard s.quiet.detected.emptied s.gone := endJobs_onlyCard _ _ _

theorem gone_work (s : State) : CardWork s s.gone :=
  ((detected_work s).trans (emptied_work _)).trans (gone_onlyCard s).work

theorem gone_card (s : State) :
    s.gone.card = { s.quiet.detected.emptied.card with completions := s.gone.card.completions } := endJobs_card_but _ _ _

theorem emptied_store (s : State) : s.quiet.detected.emptied.store = s.store := by
  simp [State.emptied, cardGone, scheduleQueue, dropTransfer, State.detected]

theorem emptied_frame (s : State) (k : Fin 16) : s.quiet.detected.emptied.frame k = s.frame k :=
  frame_of_store (emptied_store s) k

theorem gone_frame (s : State) : PinsReturned s.card.jobs s s.gone := by
  intro k
  have find : ∀ id, s.quiet.detected.emptied.find id = s.find id :=
    find_congr fun i => by rw [emptied_frame]; exact ⟨rfl, rfl⟩
  rw [State.gone, endJobs_frame, emptied_frame]
  simp only [find]

theorem gone_completions {s : State} (h : s.ListsBounded) : s.gone.card.completions =
    ((s.card.jobs.map fun j => (⟨j.tag, .failed .cardGone, j.sectorsDone⟩ : Completion)).reverse
      ++ s.card.completions).take 8 :=
  congrArg CardEngine.completions (endJobs_card (.failed .cardGone) s.card.jobs s.quiet.detected.emptied h.2.1)

theorem gone_keeps (s : State) : Keeps [.records, .card, .path, .causes] s (raise .cardChange s.gone) := by
  have keeps : Keeps [.records, .card, .path, .answer, .causes, .sent] s (raise .cardChange s.gone) := by
    refine ((gone_work s).trans (raise_work _ _)).keeps (fun k hk => ?_) fun _ => ?_
    · rw [raise_store, gone_onlyCard]
      exact hk
    · rw [raise_card, gone_card, emptied_card]
  have perm : Keeps [.answer, .sent, .records, .card, .path, .causes] s (raise .cardChange s.gone) :=
    keeps.mono (by decide)
  refine (perm.same ?_).same ?_
  · change s.gone.req.answer = _ ∧ s.gone.req.waits = _ ∧ s.gone.req.waitsQueue = _
    rw [gone_onlyCard]
    exact ⟨rfl, rfl, rfl⟩
  · change s.gone.sent = _
    rw [gone_onlyCard]
    rfl

theorem debounced_gone {s : State} (hin : s.pins.detectIn = false) (hst : s.card.state ≠ .absent) :
    debounced s.quiet = raise .cardChange s.gone := by
  rw [debounced_eq, if_neg (by simp [hin]), removal_eq (by exact hst)]
  rfl

/-- R147, R161: a removal fails every job. -/
theorem removal_yields {s : State} (hs : s.Awake) (hd : s.card.debounce = some 0) (hin : s.pins.detectIn = false)
    (hst : s.card.state ≠ .absent) : Yields .detectDebounceExpiry s fun t =>
      t.card.detectIn = false ∧ t.card.debounce = none ∧ t.card.state = .absent ∧ t.card.initStage = none
        ∧ t.card.initLimit = none ∧ t.card.capacity = none ∧ t.card.wpSample = none ∧ t.card.jobs = []
        ∧ t.card.halted = false ∧ t.card.transfer = none ∧ t.card.pendingEnd = none ∧ t.card.mirrorDue = true
        ∧ (s.ListsBounded → t.card.completions
            = ((s.card.jobs.map fun j => (⟨j.tag, .failed .cardGone, j.sectorsDone⟩ : Completion)).reverse
                ++ s.card.completions).take 8)
        ∧ PinsReturned s.card.jobs s t ∧ t.req.causes = s.req.causes ||| Cause.cardChange.bit
        ∧ Keeps [.records, .card, .path, .causes] s t := by
  refine debounce_yields hs hd (debounced_gone hin hst) ((gone_work s).trans (raise_work _ _)) ?_
  have card : (settle s (raise .cardChange s.gone)).card =
    { s.gone.card with mirrorDue := s.gone.card.mirrorDue || decide (s.card.jobs ≠ s.gone.card.jobs) } := rfl
  have causes : (settle s (raise .cardChange s.gone)).req.causes = s.req.causes ||| Cause.cardChange.bit := by
    rw [settle_causes, raise_causes, gone_onlyCard]
    rfl
  have keeps := keeps_settle s (gone_keeps s)
  have frame : PinsReturned s.card.jobs s (settle s (raise .cardChange s.gone)) :=
    fun k => (settle_frame _ _ k).trans (gone_frame s k)
  rw [gone_card, emptied_card, hin] at card
  generalize settle s (raise .cardChange s.gone) = t at *
  refine ⟨?_, ?_, ?_, ?_, ?_, ?_, ?_, ?_, ?_, ?_, ?_, ?_, fun hb => ?_, frame, causes, keeps⟩
  case refine_13 => rw [card]; exact gone_completions hb
  case refine_12 => rw [card]; rfl
  all_goals rw [card]

/-- Settles O57. -/
theorem flushAndRemovalEmptyTheQueue : Obligations.FlushAndRemovalEmptyTheQueue := by
  unfold Obligations.FlushAndRemovalEmptyTheQueue
  intro s hs
  exact ⟨cardFlush_yields hs, detectLineChange_yields hs, fun hd =>
    ⟨insertion_yields hs hd, agreed_yields hs hd, removal_yields hs hd⟩⟩

end Sys2Proof.Machine

namespace Sys2Proof.Machine

/-! ### How a job begins and fails (R155, R159) -/

/-- What running a job touches: the engine without the mirror write due for it, its client at the arbiter, the records,
the cause set and what is sent. -/
def CardRun (s t : State) : Prop := t = { s with
  card := { t.card with mirrorDue := s.card.mirrorDue }
  store := { s.store with frames := t.store.frames }
  path := { s.path with card := t.path.card }
  req := { s.req with causes := t.req.causes }
  sent := t.sent }

theorem CardRun.refl (s : State) : CardRun s s := rfl

theorem CardRun.trans {s t u : State} (h : CardRun s t) (g : CardRun t u) : CardRun s u := by
  unfold CardRun at *
  rw [g, h]

theorem CardRun.work {s t : State} (h : CardRun s t) : CardWork s t := by
  unfold CardWork
  rw [h]

theorem CardRun.mirrorDue {s t : State} (h : CardRun s t) : t.card.mirrorDue = s.card.mirrorDue := by rw [h]

theorem OnlyFrames.run {s t : State} (h : OnlyFrames s t) : CardRun s t := by
  unfold CardRun
  rw [h]
  rfl

theorem onCard_run (s : State) {f : CardEngine → CardEngine} (h : (f s.card).mirrorDue = s.card.mirrorDue) :
    CardRun s (s.onCard f) := by
  change _ = { s with card := { f s.card with mirrorDue := s.card.mirrorDue } }
  rw [← h]
  rfl

theorem onPath_run (s : State) (f : Client → Client) : CardRun s (s.onPath fun p => { p with card := f p.card }) := rfl

theorem send_run (s : State) (x : Signal) : CardRun s (s.send x) := rfl

theorem raise_run (s : State) (c : Cause) : CardRun s (raise c s) := rfl

theorem CardRun.ite {p : Prop} [Decidable p] {s t u : State} (h : p → CardRun s t) (g : ¬p → CardRun s u) :
    CardRun s (if p then t else u) := by
  split
  · next hp => exact h hp
  · next hp => exact g hp

theorem dropTransfer_run (s : State) : CardRun s (dropTransfer s) := rfl

theorem closeTransfer_run (s : State) : CardRun s (closeTransfer s) := by
  unfold closeTransfer
  exact .trans (.ite (fun _ => send_run s _) fun _ => .refl s) (dropTransfer_run _)

theorem endHead_onlyCard (s : State) (outcome : JobOutcome) (mark : Bool) : OnlyCard s (endHead outcome mark s) := by
  unfold endHead
  split
  · exact .refl s
  · exact ((onCard_onlyCard s _).trans (releasePin_onlyFrames _ _ _).onlyCard).trans (addCompletion_onlyCard _ _)

theorem endHead_run (s : State) (outcome : JobOutcome) (mark : Bool) : CardRun s (endHead outcome mark s) := by
  unfold endHead
  split
  · exact .refl s
  · exact .trans (.trans (onCard_run s rfl) (releasePin_onlyFrames _ _ _).run) (onCard_run _ rfl)

theorem failActive_run (s : State) (reason : FailReason) (quiet : Bool) : CardRun s (failActive reason quiet s) := by
  unfold failActive
  refine .trans ((closeTransfer_run s).trans (endHead_run _ _ _)) (.ite (fun _ => .refl _) fun _ => ?_)
  exact .trans (onCard_run _ rfl) (raise_run _ _)

theorem startSector_run (s : State) (j : Job) : CardRun s (startSector j s) := by
  unfold startSector
  refine .ite (fun _ => ?_) fun _ => onCard_run s rfl
  exact .trans (onCard_run s rfl) (onPath_run _ fun c => { c with waiting := c.waiting ++ _ })

theorem openWrite_run (s : State) (j : Job) : CardRun s (openWrite j s) := by
  unfold openWrite
  refine .trans ?_ (startSector_run _ _)
  exact .trans (onCard_run s rfl) (send_run _ _)

theorem openRead_run (s : State) (j : Job) : CardRun s (openRead j s) := by
  unfold openRead
  exact .trans (onCard_run s rfl) (send_run _ _)

theorem onHead_run (s : State) (f : Job → Job) : CardRun s (s.onCard fun c => c.onHead f) := by
  refine onCard_run s ?_
  unfold CardEngine.onHead
  split <;> rfl

theorem activate_run (s : State) : CardRun s (activate s) := by
  unfold activate
  split
  · exact .refl s
  · refine .ite (fun _ => .refl s) fun _ => ?_
    extract_lets u v
    have hu : CardRun s u := onHead_run s _
    have hv : CardRun s v := hu.trans (onCard_run u rfl)
    split
    · exact hu.trans (openRead_run _ _)
    · exact hv.trans (.ite (fun _ => failActive_run _ _ _) fun _ => openWrite_run _ _)
    · refine hv.trans (.ite (fun _ => failActive_run _ _ _) fun _ => ?_)
      split
      · exact failActive_run _ _ _
      · exact .ite (fun _ => failActive_run _ _ _) fun _ => .trans (onCard_run v rfl) (openWrite_run _ _)

/-! #### What becomes of the engine -/

section Failing
variable {s : State} {j : Job} {rest : List Job} (reason : FailReason)

theorem closeTransfer_card (s : State) :
    (closeTransfer s).card = { s.card with transfer := none, pendingEnd := none } := by
  unfold closeTransfer
  split <;> rfl

theorem closeTransfer_sent (s : State) :
    (closeTransfer s).sent = s.sent ++ (if s.card.transfer = none then [] else [.cardEnd]) := by
  unfold closeTransfer
  cases h : s.card.transfer with
  | none => simp [dropTransfer]
  | some x => simp [dropTransfer, State.send]

theorem closeTransfer_store (s : State) : (closeTransfer s).store = s.store := by
  unfold closeTransfer
  split <;> simp [dropTransfer, State.send]

theorem endHead_of_jobs (outcome : JobOutcome) (mark : Bool) (h : s.card.jobs = j :: rest) :
    endHead outcome mark s = addCompletion ⟨j.tag, outcome, j.sectorsDone⟩
      (releasePin j mark (s.onCard fun c => { c with jobs := rest })) := by
  unfold endHead
  rw [h]

theorem failActive_eq (s : State) : failActive reason false s = raise .cardHalted
    ((endHead (.failed reason) false (closeTransfer s)).onCard fun c => { c with halted := true }) := rfl

/-- The engine once its active job has failed. -/
theorem failActive_card (h : s.card.jobs = j :: rest) : (failActive reason false s).card = { s.card with
    jobs := rest, halted := true, transfer := none, pendingEnd := none
    completions := (⟨j.tag, .failed reason, j.sectorsDone⟩ :: s.card.completions).take 8 } := by
  rw [failActive_eq, endHead_of_jobs _ _ (by rw [closeTransfer_card]; exact h)]
  simp only [raise_card, State.onCard_card, addCompletion, releasePin_card, closeTransfer_card, completionTop]

theorem closeTransfer_causes (s : State) : (closeTransfer s).req.causes = s.req.causes := by
  unfold closeTransfer
  split <;> simp [dropTransfer, State.send]

theorem failActive_causes (s : State) :
    (failActive reason false s).req.causes = s.req.causes ||| Cause.cardHalted.bit := by
  rw [failActive_eq, raise_causes, State.onCard_req, endHead_onlyCard, ← closeTransfer_causes s]

theorem failActive_sent (s : State) :
    (failActive reason false s).sent = s.sent ++ (if s.card.transfer = none then [] else [.cardEnd]) := by
  rw [failActive_eq, raise_sent, State.onCard_sent, endHead_onlyCard, ← closeTransfer_sent]

theorem failActive_frame (h : s.card.jobs = j :: rest) : PinReturned j false s (failActive reason false s) := by
  intro k
  set u := (closeTransfer s).onCard fun c => { c with jobs := rest } with hu
  have store : u.store = s.store := closeTransfer_store s
  have released := releasePin_frame u j false k
  rw [frame_of_store store, find_of_store store] at released
  rw [failActive_eq, raise_frame, endHead_of_jobs _ _ (by rw [closeTransfer_card]; exact h)]
  simpa only [← hu] using (frame_of_store (by simp only [State.onCard_store, addCompletion]) k).trans released

end Failing

/-! #### Activation, case by case (R155) -/

/-- The head job, `rest` behind it, may become ACTIVE. -/
structure State.Startable (s : State) (j : Job) (rest : List Job) : Prop where
  jobs : s.card.jobs = j :: rest
  running : s.card.halted = false
  ready : s.card.state = .ready
  queued : j.active = false

/-- The head job is ACTIVE. -/
def State.headActive (s : State) : State := s.onCard fun c => c.onHead fun j => { j with active := true }

/-- The head job is ACTIVE and the write-protect switch sampled. -/
def State.sampled (s : State) : State := sampleWriteProtect s.headActive

theorem headActive_card {s : State} {j : Job} {rest : List Job} (h : s.card.jobs = j :: rest) :
    s.headActive.card = { s.card with jobs := { j with active := true } :: rest } := by
  simp [State.headActive, CardEngine.onHead, h]

theorem sampled_card {s : State} {j : Job} {rest : List Job} (h : s.card.jobs = j :: rest) :
    s.sampled.card = { s.card with jobs := { j with active := true } :: rest, wpSample := some s.pins.wprot } := by
  simp [State.sampled, sampleWriteProtect, headActive_card h]
  rfl

/-- A halted queue, an empty one and an ACTIVE head stay as they are. -/
theorem activate_stays {s : State} (h : s.card.halted = true ∨ s.card.jobs = [] ∨ s.card.activeJob ≠ none) :
    activate s = s := by
  unfold activate
  split
  · rfl
  · next j rest hj =>
    refine if_pos ?_
    rcases h with h | h | h
    · simp [h]
    · simp [hj] at h
    · simp only [CardEngine.activeJob, hj] at h
      simp only [Bool.or_eq_true]
      exact .inr (by by_contra ha; simp [ha] at h)

section Starting
variable {s : State} {j : Job} {rest : List Job} (h : s.Startable j rest)
include h

theorem State.Startable.activate_eq : activate s = match j.kind with
    | .readMem => openRead j s.headActive
    | .writeMem => if s.pins.wprot then failActive .writeProtected false s.sampled else openWrite j s.sampled
    | .writeFrame =>
      if s.pins.wprot then failActive .writeProtected false s.sampled
      else match (s.find j.frame).map s.frame with
        | none => failActive .sourceLost false s.sampled
        | some f =>
          if f.state = .spoiled then failActive .sourceLost false s.sampled
          else openWrite j (s.sampled.onCard fun c =>
            { c with rows := if f.state = .complete then s.height else f.rowsStored }) := by
  unfold activate
  rw [h.jobs]
  simp only [h.running, h.ready, h.queued]
  rfl

end Starting

/-! #### What an opened transfer leaves -/

section Opening
variable (u : State) (j : Job)

theorem openRead_card : (openRead j u).card =
    { u.card with transfer := some ⟨false, 0, [], .receiving, .none, some 500000⟩ } := by
  simp [openRead, sectorTime]

theorem openRead_sent : (openRead j u).sent = u.sent ++ [.cardRead j.start] := by
  simp [openRead, State.send]

theorem openRead_path : (openRead j u).path = u.path := by
  simp [openRead]

theorem openRead_causes : (openRead j u).req.causes = u.req.causes := by
  simp [openRead]

theorem openRead_store : (openRead j u).store = u.store := by
  simp [openRead]

/-- The machine when a write transfer has opened and its first sector is not yet asked for. -/
def State.writeOpened : State :=
  (u.onCard fun c => { c with transfer := some ⟨true, 0, [], .fetching, .none, none⟩ }).send (.cardWrite j.start)

theorem writeOpened_sendable (i : Nat) : (u.writeOpened j).sendable j i = u.sendable j i := by
  unfold State.sendable
  split
  · simp [State.writeOpened]
  · rfl

/-- The write transfer with its first sector's condition. -/
def State.writeBegun (c : SectorCond) : State := (u.writeOpened j).onCard fun e => e.onTransfer fun t =>
  { t with cond := c, prefetch := .none, limit := none }

theorem openWrite_eq : openWrite j u = if u.sendable j 0
    then issue .card (readBursts ((u.writeBegun j .fetching).sectorAddrs j 0)) (u.writeBegun j .fetching)
    else u.writeBegun j .waitingRows := by
  rw [← writeOpened_sendable]
  rfl

theorem writeBegun_card (c : SectorCond) : (u.writeBegun j c).card =
    { u.card with transfer := some ⟨true, 0, [], c, .none, none⟩ } := by
  simp [State.writeBegun, State.writeOpened, CardEngine.onTransfer]

/-- What a written sector's fetch leaves is what the opened transfer leaves. -/
theorem openWrite_of {α : Type} {f : State → α} {a : α} (hi : ∀ s bs, f (issue .card bs s) = f s)
    (h : ∀ c, f (u.writeBegun j c) = a) : f (openWrite j u) = a := by
  rw [openWrite_eq]
  split
  · rw [hi, h]
  · rw [h]

theorem openWrite_card : (openWrite j u).card = { u.card with
    transfer := some ⟨true, 0, [], if u.sendable j 0 then .fetching else .waitingRows, .none, none⟩ } := by
  rw [openWrite_eq]
  split
  · simp only [issue, State.onPath_card, writeBegun_card]
  · simp only [writeBegun_card]

theorem openWrite_sent : (openWrite j u).sent = u.sent ++ [.cardWrite j.start] :=
  openWrite_of u j (f := State.sent) (fun _ _ => rfl) fun _ => rfl

theorem openWrite_causes : (openWrite j u).req.causes = u.req.causes :=
  openWrite_of u j (f := fun s => s.req.causes) (fun _ _ => rfl) fun _ => rfl

theorem openWrite_store : (openWrite j u).store = u.store :=
  openWrite_of u j (f := State.store) (fun _ _ => rfl) fun _ => rfl

/-- A job that writes from the staging region fetches its first sector at once. -/
theorem openWrite_path (h : j.kind = .writeMem) : (openWrite j u).path = { u.path with card := { u.path.card with
    waiting := u.path.card.waiting ++ readBursts ((List.range 512).map (j.address + ·)) } } := by
  have sendable : u.sendable j 0 = true := by simp [State.sendable, h]
  have addrs : (u.writeBegun j .fetching).sectorAddrs j 0 = (List.range 512).map (j.address + ·) := by
    simp [State.sectorAddrs, h]
  rw [openWrite_eq, if_pos sendable, addrs]
  rfl

end Opening

/-! #### The head job becomes ACTIVE (R155) -/

section Starts
variable {s : State} {j : Job} {rest : List Job}

theorem State.Startable.protected (h : s.Startable j rest) (hk : j.kind ≠ .readMem) (hw : s.pins.wprot = true) :
    activate s = failActive .writeProtected false s.sampled := by
  rw [h.activate_eq]
  cases e : j.kind with
  | readMem => exact absurd e hk
  | writeMem => exact if_pos hw
  | writeFrame => exact if_pos hw

theorem State.Startable.readMem (h : s.Startable j rest) (hk : j.kind = .readMem) : activate s = openRead j s.headActive := by
  rw [h.activate_eq, hk]

theorem State.Startable.writeMem (h : s.Startable j rest) (hk : j.kind = .writeMem) (hw : s.pins.wprot = false) :
    activate s = openWrite j s.sampled := by
  rw [h.activate_eq, hk]
  simp [hw]

/-- The rows that a WRITE_FRAME job of record `k` has available when it becomes ACTIVE (R155, R157). -/
def State.rowsOf (s : State) (k : Fin 16) : Nat :=
  if (s.frame k).state = .complete then s.height else (s.frame k).rowsStored

theorem State.Startable.writeFrame (h : s.Startable j rest) (hk : j.kind = .writeFrame) (hw : s.pins.wprot = false) {k : Fin 16}
    (hf : s.find j.frame = some k) : activate s =
      if (s.frame k).state = .spoiled then failActive .sourceLost false s.sampled
      else openWrite j (s.sampled.onCard fun c => { c with rows := s.rowsOf k }) := by
  rw [h.activate_eq, hk, hf]
  simp only [hw, Bool.false_eq_true, if_false, Option.map_some]
  rfl

theorem sampled_path (s : State) : s.sampled.path = s.path := rfl
theorem sampled_causes (s : State) : s.sampled.req.causes = s.req.causes := rfl
theorem sampled_sent (s : State) : s.sampled.sent = s.sent := rfl
theorem sampled_store (s : State) : s.sampled.store = s.store := rfl

/-- A job that fails as it becomes ACTIVE. -/
theorem State.Startable.jobFailed (h : s.Startable j rest) (hs : s.sent = []) (reason : FailReason) :
    JobFailed reason j rest s (failActive reason false s.sampled)
      ∧ (failActive reason false s.sampled).card.wpSample = some s.pins.wprot := by
  have card := failActive_card (s := s.sampled) reason (by rw [sampled_card h.jobs])
  rw [sampled_card h.jobs] at card
  have causes := failActive_causes reason s.sampled
  have sent := failActive_sent reason s.sampled
  rw [sampled_sent, hs, sampled_card h.jobs, List.nil_append] at sent
  unfold JobFailed
  rw [card]
  exact ⟨⟨rfl, rfl, rfl, rfl, rfl, causes, sent, rfl, rfl⟩, rfl⟩

/-- R155: the head job becomes ACTIVE. -/
theorem State.Startable.starts (h : s.Startable j rest) (hs : s.sent = []) : JobStarts j rest s (activate s) := by
  refine ⟨fun hk => ?_, fun hk hw => ?_, fun hk hw => ?_, fun k hk hw hf => ⟨fun hsp => ?_, fun hsp => ?_⟩⟩
  · rw [h.readMem hk, openRead_card, openRead_sent, openRead_path, openRead_causes, headActive_card h.jobs]
    exact ⟨rfl, by simp [State.headActive, hs], rfl, rfl, rfl⟩
  · rw [h.protected hk hw, ← hw]
    exact h.jobFailed hs _
  · have sendable : s.sampled.sendable j 0 = true := by simp [State.sendable, hk]
    rw [h.writeMem hk hw, openWrite_card, openWrite_sent, openWrite_path _ _ hk, openWrite_causes, sampled_card h.jobs,
      sampled_sent, hs, sendable, hw]
    exact ⟨rfl, rfl, rfl, rfl, rfl, rfl⟩
  · rw [h.writeFrame hk hw hf, if_pos hsp]
    exact (h.jobFailed hs _).1
  · rw [h.writeFrame hk hw hf, if_neg hsp, openWrite_card, openWrite_sent, openWrite_causes]
    simp only [State.onCard_card, State.onCard_sent, State.onCard_req, sampled_card h.jobs, sampled_sent, hs, hw, true_and]
    refine ⟨rfl, rfl, rfl, ?_⟩
    simp only [State.sendable, hk, Nat.zero_add, Nat.mul_one, decide_eq_true_eq]
    rfl

theorem State.Startable.pinReturned (h : s.Startable j rest) (reason : FailReason) :
    PinReturned j false s (failActive reason false s.sampled) := by
  intro k
  have returned := failActive_frame (s := s.sampled) reason (by rw [sampled_card h.jobs]) k
  rwa [frame_of_store (sampled_store s), find_of_store (sampled_store s)] at returned

theorem State.Startable.failed_card (h : s.Startable j rest) (reason : FailReason) :
    (failActive reason false s.sampled).card.jobs = rest ∧ (failActive reason false s.sampled).card.halted = true := by
  rw [failActive_card (s := s.sampled) reason (by rw [sampled_card h.jobs])]
  exact ⟨rfl, rfl⟩

/-- A job that becomes ACTIVE and does not fail heads the queue and leaves the records as they are. -/
theorem State.Startable.opens (h : s.Startable j rest) (hw : j.kind = .readMem ∨ s.pins.wprot = false)
    (hf : j.kind = .writeFrame → ∃ k, s.find j.frame = some k ∧ (s.frame k).state ≠ .spoiled) :
    (activate s).store = s.store ∧ (activate s).card.jobs = { j with active := true } :: rest := by
  have read (hk : j.kind = .readMem) :
      (activate s).store = s.store ∧ (activate s).card.jobs = { j with active := true } :: rest := by
    rw [h.readMem hk, openRead_store, openRead_card, headActive_card h.jobs]
    exact ⟨rfl, rfl⟩
  rcases hw with hk | hw
  · exact read hk
  · have kinds : j.kind = .readMem ∨ j.kind = .writeMem ∨ j.kind = .writeFrame := by cases j.kind <;> simp
    rcases kinds with hk | hk | hk
    · exact read hk
    · rw [h.writeMem hk hw, openWrite_store, openWrite_card, sampled_card h.jobs]
      exact ⟨rfl, rfl⟩
    · obtain ⟨k, hfind, hsp⟩ := hf hk
      rw [h.writeFrame hk hw hfind, if_neg hsp, openWrite_store, openWrite_card, State.onCard_store, State.onCard_card,
        sampled_card h.jobs]
      exact ⟨rfl, rfl⟩

/-- A job that becomes ACTIVE opens its transfer or fails. -/
theorem State.Startable.opens_or_fails (h : s.Startable j rest) :
    ((activate s).store = s.store ∧ (activate s).card.jobs = { j with active := true } :: rest)
      ∨ ∃ reason, activate s = failActive reason false s.sampled := by
  by_cases hw : j.kind = .readMem ∨ s.pins.wprot = false
  · by_cases hf : j.kind = .writeFrame → ∃ k, s.find j.frame = some k ∧ (s.frame k).state ≠ .spoiled
    · exact .inl (h.opens hw hf)
    · push Not at hf
      obtain ⟨hk, hf⟩ := hf
      have hw : s.pins.wprot = false := hw.resolve_left (by simp [hk])
      refine .inr ⟨.sourceLost, ?_⟩
      cases hfind : s.find j.frame with
      | none =>
        rw [h.activate_eq, hk, hfind, hw]
        rfl
      | some k => rw [h.writeFrame hk hw hfind, if_pos (hf k hfind)]
  · rw [not_or, Bool.not_eq_false] at hw
    exact .inr ⟨_, h.protected hw.1 hw.2⟩

/-- A job that becomes ACTIVE and leaves the queue running leaves the records as they are. -/
theorem State.Startable.running_opens (h : s.Startable j rest) (hr : (activate s).card.halted = false) :
    (activate s).store = s.store := by
  rcases h.opens_or_fails with ⟨hstore, -⟩ | ⟨reason, hfail⟩
  · exact hstore
  · rw [hfail, (h.failed_card reason).2] at hr
    cases hr

theorem State.Startable.changeCount (h : s.Startable j rest) (k : Fin 16) :
    ((activate s).frame k).changeCount = (s.frame k).changeCount := by
  rcases h.opens_or_fails with ⟨hstore, -⟩ | ⟨reason, hfail⟩
  · rw [frame_of_store hstore]
  · rw [hfail, h.pinReturned reason k]
    split <;> rfl

/-- Once its head job has become ACTIVE the queue is another. -/
theorem State.Startable.jobs_ne (h : s.Startable j rest) : (activate s).card.jobs ≠ s.card.jobs := by
  rw [h.jobs]
  rcases h.opens_or_fails with ⟨-, hjobs⟩ | ⟨reason, hfail⟩
  · rw [hjobs]
    intro e
    have := congrArg Job.active (List.cons.inj e).1
    rw [h.queued] at this
    cases this
  · rw [hfail, (h.failed_card reason).1]
    exact (List.cons_ne_self j rest).symm

end Starts

end Sys2Proof.Machine

namespace Sys2Proof.Machine

/-! ### CARD_JOB and CARD_RESUME (R152, R153, R162) -/

/-- A check and those behind it. -/
theorem firstOf_if {p : Prop} [Decidable p] {c : ResultCode} {rest : List (Prop × ResultCode)} {r : Option ResultCode}
    (h : ¬p → FirstOf rest r) : FirstOf ((p, c) :: rest) (if p then some c else r) := by
  split
  · next hp => exact .inl ⟨hp, rfl⟩
  · next hp => exact .inr ⟨hp, h hp⟩

theorem jobKindOf_cases (v : Half) : (v = 1 ∧ jobKindOf v = some .writeFrame) ∨ (v = 2 ∧ jobKindOf v = some .writeMem)
    ∨ (v = 3 ∧ jobKindOf v = some .readMem) ∨ ((v ≠ 1 ∧ v ≠ 2 ∧ v ≠ 3) ∧ jobKindOf v = none) := by
  unfold jobKindOf
  by_cases h1 : v = 1
  · exact .inl ⟨h1, if_pos h1⟩
  by_cases h2 : v = 2
  · exact .inr (.inl ⟨h2, (if_neg h1).trans (if_pos h2)⟩)
  by_cases h3 : v = 3
  · exact .inr (.inr (.inl ⟨h3, ((if_neg h1).trans (if_neg h2)).trans (if_pos h3)⟩))
  · exact .inr (.inr (.inr ⟨⟨h1, h2, h3⟩, ((if_neg h1).trans (if_neg h2)).trans (if_neg h3)⟩))

theorem jobKindOf_writeFrame (v : Half) : jobKindOf v = some .writeFrame ↔ v = 1 := by
  rcases jobKindOf_cases v with ⟨rfl, h⟩ | ⟨rfl, h⟩ | ⟨rfl, h⟩ | ⟨hv, h⟩
  · exact ⟨fun _ => rfl, fun _ => h⟩
  · rw [h]; decide
  · rw [h]; decide
  · rw [h]; simpa using hv.1

theorem jobKindOf_readMem (v : Half) : jobKindOf v = some .readMem ↔ v = 3 := by
  rcases jobKindOf_cases v with ⟨rfl, h⟩ | ⟨rfl, h⟩ | ⟨rfl, h⟩ | ⟨hv, h⟩
  · rw [h]; decide
  · rw [h]; decide
  · exact ⟨fun _ => rfl, fun _ => h⟩
  · rw [h]; simpa using hv.2.2

/-- What R152's third check refuses. -/
theorem jobInRange_iff (f : CardJobFields) (capacity : Nat) : (!jobInRange f capacity) = true ↔
    (f.kind ≠ 1 ∧ f.kind ≠ 2 ∧ f.kind ≠ 3) ∨ f.length.toNat = 0 ∨ f.length.toNat % 512 ≠ 0
      ∨ (f.kind = 1 ∧ f.offset.toNat % 512 ≠ 0)
      ∨ (f.kind ≠ 1 ∧ (f.address.toNat % 512 ≠ 0 ∨ f.address.toNat < 0x100000
        ∨ 0x1000000 < f.address.toNat + f.length.toNat))
      ∨ capacity < f.start.toNat + f.length.toNat / 512 := by
  unfold jobInRange
  rcases jobKindOf_cases f.kind with ⟨hk, h⟩ | ⟨hk, h⟩ | ⟨hk, h⟩ | ⟨hk, h⟩
  · have h1 : (f.kind = 1) = True := eq_true hk
    simp only [h, h1, ne_eq, not_true_eq_false, true_and, false_and, false_or,
       Bool.not_eq_true', Bool.and_eq_false_iff, decide_eq_false_iff_not]
    omega
  · have h1 : (f.kind = 1) = False := by rw [hk]; decide
    have h2 : (f.kind = 2) = True := eq_true hk
    simp only [h, h1, h2, ne_eq, not_true_eq_false, not_false_eq_true, true_and, false_and, and_false, false_or,
      Bool.not_eq_true', Bool.and_eq_false_iff, decide_eq_false_iff_not]
    unfold stagingBase stagingEnd
    omega
  · have h1 : (f.kind = 1) = False := by rw [hk]; decide
    have h3 : (f.kind = 3) = True := eq_true hk
    simp only [h, h1, h3, ne_eq, not_true_eq_false, not_false_eq_true, true_and, false_and, and_false, false_or,
      Bool.not_eq_true', Bool.and_eq_false_iff, decide_eq_false_iff_not]
    unfold stagingBase stagingEnd
    omega
  · simp only [h, Bool.not_false, true_iff]
    exact .inl hk

/-- The model's check is the first of R152's that applies. -/
theorem firstOf_cardJobChecks (s : State) (f : CardJobFields) : FirstOf (cardJobChecks s f) (s.cardJobCheck f) := by
  unfold cardJobChecks State.cardJobCheck
  refine firstOf_if fun _ => firstOf_if fun _ => ?_
  have readMem : (f.kind ≠ 3) = (jobKindOf f.kind ≠ some .readMem) := propext (not_congr (jobKindOf_readMem _).symm)
  rw [← jobInRange_iff, readMem]
  refine firstOf_if fun _ => firstOf_if fun _ => ?_
  simp only [jobKindOf_writeFrame]
  by_cases hk : f.kind = 1
  · rw [if_pos hk, State.frameJobCheck]
    cases hf : s.find f.frame with
    | none => exact .inl ⟨⟨hk, rfl⟩, rfl⟩
    | some k =>
      refine .inr ⟨by simp, ?_⟩
      have ready : (f.kind = 1 ∧ ∀ i, some k = some i → (s.frame i).state ≠ .readout ∧ (s.frame i).state ≠ .complete)
          ↔ (s.frame k).state ≠ .readout ∧ (s.frame k).state ≠ .complete :=
        ⟨fun h => h.2 k rfl, fun h => ⟨hk, fun i hi => Option.some.inj hi ▸ h⟩⟩
      have within : (f.kind = 1 ∧ (s.store.layout.frameSize + 511) / 512 * 512 < f.offset.toNat + f.length.toNat)
          ↔ roundSector s.store.layout.frameSize < f.offset.toNat + f.length.toNat := by
        rw [and_iff_right hk]
        rfl
      rw [ready, within]
      exact firstOf_if fun _ => firstOf_if fun _ => rfl
  · rw [if_neg hk]
    exact .inr ⟨fun h => hk h.1, .inr ⟨fun h => hk h.1, .inr ⟨fun h => hk h.1, rfl⟩⟩⟩

/-! #### A job joins the queue (R153) -/

/-- What an accepted job is, and what the checks say of it. -/
theorem accepted_of_firstOf {s : State} {f : CardJobFields} (h : FirstOf (cardJobChecks s f) none) :
    decideCardJob f s = accept (activate (awaitQueue (enqueueJob (jobOf f) s))) ∧ s.card.state = .ready
      ∧ ((jobOf f).kind = .writeFrame → ∃ k, s.find (jobOf f).frame = some k ∧ (s.frame k).state ≠ .spoiled) := by
  have check : s.cardJobCheck f = none := firstOf_unique (firstOf_cardJobChecks s f) h
  simp only [cardJobChecks, FirstOf, reduceCtorEq, and_false, false_or] at h
  obtain ⟨hstate, -, hrange, -, hframe, hready, -⟩ := h
  have kind : jobKindOf f.kind = some (jobOf f).kind := by
    unfold jobOf
    rcases jobKindOf_cases f.kind with ⟨hk, h⟩ | ⟨hk, h⟩ | ⟨hk, h⟩ | ⟨hk, -⟩
    · rw [h, if_pos hk]
    · rw [h, if_neg (by rw [hk]; decide), if_pos hk]
    · rw [h, if_neg (by rw [hk]; decide), if_neg (by rw [hk]; decide)]
    · exact absurd (.inl hk) hrange
  refine ⟨decideCardJob_accepted check kind, not_not.1 hstate, fun hk => ?_⟩
  have one : f.kind = 1 := (jobKindOf_writeFrame _).1 (hk ▸ kind)
  obtain ⟨k, hf⟩ := Option.ne_none_iff_exists'.1 fun hn => hframe ⟨one, hn⟩
  refine ⟨k, hf, fun hsp => hready ⟨one, fun i hi => ?_⟩⟩
  obtain rfl : k = i := Option.some.inj (hf.symm.trans hi)
  simp [hsp]

/-- The machine once job `j` has joined the queue. -/
def State.joined (s : State) (j : Job) : State := awaitQueue (enqueueJob j s)

section Joined
variable (s : State) (j : Job)

theorem joined_eq : s.joined j = { s with
    card := (s.joined j).card
    store := { s.store with frames := (s.joined j).store.frames, mirrorDue := (s.joined j).store.mirrorDue }
    req := { s.req with waits := (s.joined j).req.waits, waitsQueue := true } } := by
  unfold State.joined
  rw [enqueueJob_eq]
  rfl

theorem joined_card : (s.joined j).card = { s.card with jobs := s.card.jobs ++ [j], mirrorDue := true } := by
  simp only [State.joined, awaitQueue, scheduleQueue, State.onReq_card, State.onCard_card, enqueueJob_jobs]

theorem joined_frame (k : Fin 16) : (s.joined j).frame k =
    if j.kind = .writeFrame ∧ s.find j.frame = some k then { s.frame k with cardPins := (s.frame k).cardPins + 1 }
    else s.frame k := by
  rw [← enqueueJob_frame]
  exact frame_of_store (by simp only [State.joined, awaitQueue, scheduleQueue, State.onReq_store, State.onCard_store]) k

theorem joined_find (id : Word) : (s.joined j).find id = s.find id :=
  find_congr (fun k => by rw [joined_frame]; split <;> exact ⟨rfl, rfl⟩) id

theorem joined_work : CardWork s (s.joined j) := by
  unfold CardWork
  rw [joined_eq]

/-- The record that the job names has its mirror write due and awaited (R23). -/
theorem joined_awaits {k : Fin 16} (hk : j.kind = .writeFrame) (hf : s.find j.frame = some k) :
    k ∈ (s.joined j).store.mirrorDue ∧ k ∈ (s.joined j).req.waits := by
  have pinned : enqueueJob j s = pinCard j.frame (s.onCard fun c => { c with jobs := c.jobs ++ [j] }) := if_pos hk
  have found : (s.onCard fun c => { c with jobs := c.jobs ++ [j] }).find j.frame = some k := hf
  simp only [State.joined, awaitQueue, scheduleQueue, pinned, pinCard, found, awaitMirrors]
  simp

theorem joined_mirrorDue {k : Fin 16} (h : k ∈ s.store.mirrorDue) : k ∈ (s.joined j).store.mirrorDue := by
  simp only [State.joined, awaitQueue, scheduleQueue, enqueueJob, State.onReq_store, State.onCard_store]
  split
  · unfold pinCard
    split
    · simp [awaitMirrors, h]
    · exact h
  · exact h

end Joined

/-! #### The start of a job, told from other states -/

/-- A job that fails tells of the state by its list, its cause set and its transfer. -/
theorem JobFailed.of_eq {reason : FailReason} {j : Job} {rest : List Job} {s s' t : State}
    (h : JobFailed reason j rest s t) (card : { s.card with jobs := s'.card.jobs, mirrorDue := s'.card.mirrorDue } = s'.card)
    (causes : s.req.causes = s'.req.causes) : JobFailed reason j rest s' t := by
  unfold JobFailed at *
  rw [← card, ← causes]
  exact h

/-- A job starts in the machine that it joined as it would have in the one before. -/
theorem JobStarts.of_joined {i j : Job} {rest : List Job} {s t : State} (h : JobStarts j rest (s.joined i) t) :
    JobStarts j rest s t := by
  have card : { (s.joined i).card with jobs := s.card.jobs, mirrorDue := s.card.mirrorDue } = s.card := by rw [joined_card]
  have causes : (s.joined i).req.causes = s.req.causes := by rw [joined_eq]
  have state : ∀ k, ((s.joined i).frame k).state = (s.frame k).state := fun k => by rw [joined_frame]; split <;> rfl
  have rows : ∀ k, ((s.joined i).frame k).rowsStored = (s.frame k).rowsStored := fun k => by
    rw [joined_frame]; split <;> rfl
  have pins : (s.joined i).pins = s.pins := by rw [joined_eq]
  have path : (s.joined i).path = s.path := by rw [joined_eq]
  have height : (s.joined i).height = s.height := by rw [joined_eq]; rfl
  have layout : (s.joined i).store.layout = s.store.layout := by rw [joined_eq]
  obtain ⟨readMem, isProtected, writeMem, writeFrame⟩ := h
  simp only [pins, path, causes, state, rows, height, layout, joined_find] at readMem isProtected writeMem writeFrame
  refine ⟨readMem, fun hk hw => ?_, writeMem, fun k hk hw hf => ⟨fun hsp => ?_, (writeFrame k hk hw hf).2⟩⟩
  · exact ⟨(isProtected hk hw).1.of_eq card causes, (isProtected hk hw).2⟩
  · exact ((writeFrame k hk hw hf).1 hsp).of_eq card causes

/-- What is told of a started job depends on the engine, the cause set, the path and what was sent. -/
theorem JobStarts.of_parts {j : Job} {rest : List Job} {s t t' : State} (h : JobStarts j rest s t)
    (card : { t'.card with mirrorDue := t.card.mirrorDue } = t.card) (causes : t'.req.causes = t.req.causes)
    (path : t'.path = t.path) (sent : t'.sent = t.sent) : JobStarts j rest s t' := by
  unfold JobStarts JobFailed at *
  rw [causes, path, sent]
  rw [← card] at h
  exact h

/-- The step that answers a request shows the start of its job. -/
theorem JobStarts.answered {j : Job} {rest : List Job} {s a b t : State} (h : JobStarts j rest s t) :
    JobStarts j rest s (settle a (endDecision b (accept t))) :=
  h.of_parts rfl rfl rfl rfl

/-! #### The requests -/

/-- What a joined job's answer waits for (R23, R153). -/
theorem joined_awaited {s v : State} {j : Job} (work : CardRun (s.deciding.joined j) v)
    (counts : ∀ k, (v.frame k).changeCount = (s.frame k).changeCount) :
    let t := settle s (endDecision s.deciding (accept v))
    t.card.mirrorDue = true ∧ t.req.waitsQueue = true ∧ Awaits s t
      ∧ ∀ k, j.kind = .writeFrame → s.find j.frame = some k → k ∈ t.store.mirrorDue ∧ k ∈ t.req.waits := by
  have due : v.card.mirrorDue = true := work.mirrorDue.trans (by rw [joined_card])
  have waits : v.req.waitsQueue = true := by rw [work, joined_eq]
  refine ⟨by rw [settle_queueDue]; exact Bool.or_eq_true_iff.2 (.inl due), ?_, awaits_settle_endDecision counts, fun k hk hf => ?_⟩
  · rw [settle_waitsQueue, endDecision_waitsQueue, accept, waits]
    rfl
  · obtain ⟨mirror, wait⟩ := joined_awaits s.deciding j hk hf
    refine ⟨(mem_settle_mirrorDue _ _ _).2 (.inl ?_), ?_⟩
    · rw [endDecision_store, accept, work]
      exact mirror
    · rw [settle_waits]
      refine (mem_endDecision_waits _ _ _).2 (.inl ?_)
      rw [accept, work]
      exact wait

theorem answered_card {a b v : State} (h : v.card.mirrorDue = true) : (settle a (endDecision b (accept v))).card = v.card := by
  rw [settle_card, endDecision_card, accept, h, Bool.true_or, ← h]

theorem JobStarts.of_deciding {j : Job} {rest : List Job} {s t : State} (h : JobStarts j rest s.deciding t) :
    JobStarts j rest s t := by
  unfold JobStarts JobFailed at *
  exact h

/-- The records once a job has joined an empty queue and become ACTIVE: a switch that refuses it gives its pin back. -/
theorem cardJob_frame {s : State} {j : Job} (h : (s.deciding.joined j).Startable j [])
    (held : j.kind = .writeFrame → ∃ k, s.find j.frame = some k ∧ (s.frame k).state ≠ .spoiled) (k : Fin 16) :
    (activate (s.deciding.joined j)).frame k =
      if j.kind = .writeFrame ∧ s.find j.frame = some k ∧ s.pins.wprot = false then
        { s.frame k with cardPins := (s.frame k).cardPins + 1 } else s.frame k := by
  set v := s.deciding.joined j with hv
  have frame : ∀ k, v.frame k = if j.kind = .writeFrame ∧ s.find j.frame = some k then
      { s.frame k with cardPins := (s.frame k).cardPins + 1 } else s.frame k := joined_frame s.deciding j
  have find : v.find j.frame = s.find j.frame := joined_find s.deciding j _
  have pins : v.pins = s.pins := by rw [hv, joined_eq]; rfl
  cases hw : s.pins.wprot with
  | false =>
    have opens := by
      refine h.opens (.inr (pins ▸ hw)) fun hk => ?_
      obtain ⟨i, hi, hsp⟩ := held hk
      refine ⟨i, find.trans hi, ?_⟩
      rw [frame]
      split <;> exact hsp
    rw [frame_of_store opens.1, frame]
    simp only [and_true]
  | true =>
    simp only [reduceCtorEq, and_false, if_false]
    by_cases hk : j.kind = .writeFrame
    · rw [h.protected (by simp [hk]) (pins ▸ hw), h.pinReturned _ k, find, frame]
      simp only [hk, true_and]
      split
      · simp
      · rfl
    · have same : v.frame k = s.frame k := (frame k).trans (if_neg fun e => hk e.1)
      by_cases hr : j.kind = .readMem
      · rw [frame_of_store (h.opens (.inl hr) fun e => absurd e hk).1, same]
      · rw [h.protected hr (pins ▸ hw), h.pinReturned _ k, if_neg fun e => hk e.1, same]

/-- R152, R153: a job behind an active one, or in a halted queue, waits there. -/
theorem cardJob_waits {s : State} (hs : s.Awake) {f : CardJobFields} (ha : s.asks (.cardJob f) = true)
    (hc : FirstOf (cardJobChecks s f) none) (hq : s.card.halted = true ∨ s.card.activeJob ≠ none) :
    let j := jobOf f
    Yields (.cardJob f) s fun t =>
      t.req.answer = some .ok ∧ (t.card.mirrorDue = true ∧ t.req.waitsQueue = true ∧ Awaits s t
          ∧ ∀ k, j.kind = .writeFrame → s.find j.frame = some k → k ∈ t.store.mirrorDue ∧ k ∈ t.req.waits)
        ∧ t.card = { s.card with jobs := s.card.jobs ++ [j], mirrorDue := true }
        ∧ (∀ k, t.frame k = if j.kind = .writeFrame ∧ s.find j.frame = some k then
            { s.frame k with cardPins := (s.frame k).cardPins + 1 } else s.frame k)
        ∧ Keeps [.records, .card, .answer] s t := by
  intro j
  set v := s.deciding.joined j with hv
  have card : v.card = { s.card with jobs := s.card.jobs ++ [j], mirrorDue := true } := joined_card s.deciding j
  have frame : ∀ k, v.frame k = if j.kind = .writeFrame ∧ s.find j.frame = some k then
      { s.frame k with cardPins := (s.frame k).cardPins + 1 } else s.frame k := joined_frame s.deciding j
  have counts : ∀ k, (v.frame k).changeCount = (s.frame k).changeCount := fun k => by rw [frame]; split <;> rfl
  have stays : activate v = v := by
    refine activate_stays ?_
    rcases hq with hq | hq
    · exact .inl (by rw [card]; exact hq)
    · refine .inr (.inr ?_)
      rw [card]
      cases e : s.card.jobs with
      | nil => simp [CardEngine.activeJob, e] at hq
      | cons a l => simpa [CardEngine.activeJob, e] using hq
  have effect : decideCardJob f s.deciding = accept v := by
    rw [(accepted_of_firstOf (s := s.deciding) hc).1, ← State.joined, ← hv, stays]
  have keeps : Keeps [.records, .card, .answer] s v := by
    refine ((deciding_work s).trans (joined_work _ _)).keeps_quietly (fun k hk => joined_mirrorDue _ _ hk)
      (fun _ => by rw [card]) ?_ ?_ ?_
    all_goals rw [joined_eq]; rfl
  refine yields_accept hs ha (d := decideCardJob f) rfl effect (joined_work _ _) ⟨rfl, joined_awaited (.refl _) counts, ?_,
    fun k => (settle_frame _ _ k).trans (frame k), keeps_settle_endDecision keeps (by simp)⟩
  rw [answered_card (by rw [card]), card]

/-- R152, R153, R155: a job that joins an empty running queue becomes ACTIVE. -/
theorem cardJob_starts {s : State} (hs : s.Awake) {f : CardJobFields} (ha : s.asks (.cardJob f) = true)
    (hc : FirstOf (cardJobChecks s f) none) (hh : s.card.halted = false) (hj : s.card.jobs = []) :
    let j := jobOf f
    Yields (.cardJob f) s fun t =>
      t.req.answer = some .ok ∧ (t.card.mirrorDue = true ∧ t.req.waitsQueue = true ∧ Awaits s t
          ∧ ∀ k, j.kind = .writeFrame → s.find j.frame = some k → k ∈ t.store.mirrorDue ∧ k ∈ t.req.waits)
        ∧ JobStarts j [] s t
        ∧ (∀ k, t.frame k = if j.kind = .writeFrame ∧ s.find j.frame = some k ∧ s.pins.wprot = false then
            { s.frame k with cardPins := (s.frame k).cardPins + 1 } else s.frame k)
        ∧ Keeps [.records, .card, .path, .answer, .causes, .sent] s t := by
  intro j
  obtain ⟨decided, ready, held⟩ := accepted_of_firstOf (s := s.deciding) hc
  set v := s.deciding.joined j with hv
  have card : v.card = { s.card with jobs := s.card.jobs ++ [j], mirrorDue := true } := joined_card s.deciding j
  have startable : v.Startable j [] := by
    refine ⟨?_, ?_, ?_, rfl⟩
    · rw [card, hj]; rfl
    · rw [card]; exact hh
    · rw [card]; exact ready
  have run : CardRun v (activate v) := activate_run v
  have work : CardWork s.deciding (activate v) := (joined_work _ _).trans run.work
  have frame := cardJob_frame startable fun hk => (held hk)
  have counts : ∀ k, ((activate v).frame k).changeCount = (s.frame k).changeCount := fun k => by rw [frame]; split <;> rfl
  have starts : JobStarts j [] s (activate v) :=
    (startable.starts (by rw [hv, joined_eq]; rfl)).of_joined.of_deciding
  have keeps : Keeps [.records, .card, .path, .answer, .causes, .sent] s (activate v) := by
    refine ((deciding_work s).trans work).keeps (fun k hk => ?_) fun _ => ?_
    · rw [run]
      exact joined_mirrorDue _ _ hk
    · rw [run.mirrorDue, card]
  exact yields_accept hs ha (d := decideCardJob f) rfl decided work ⟨rfl, joined_awaited run counts, starts.answered,
    fun k => (settle_frame _ _ k).trans (frame k), keeps_settle_endDecision keeps (by simp)⟩

/-- The machine once the queue runs again. -/
def State.resumed (s : State) : State := s.onCard fun c => { c with halted := false }

theorem resumed_work (s : State) : CardWork s s.resumed := rfl

theorem decideCardResume_halted {s : State} (h : s.card.halted = true) :
    decideCardResume s = accept (activate s.resumed) := if_pos h

/-- R162: a halted queue without jobs runs again. -/
theorem cardResume_empty {s : State} (hs : s.Awake) (ha : s.asks .cardResume = true) (hh : s.card.halted = true)
    (hj : s.card.jobs = []) : Yields .cardResume s fun t =>
      t.req.answer = some .ok ∧ t.card = { s.card with halted := false } ∧ Keeps [.card, .answer] s t := by
  have decided : decideCardResume s.deciding = accept s.deciding.resumed := by
    rw [decideCardResume_halted (by exact hh), activate_stays (s := s.deciding.resumed) (.inr (.inl hj))]
  have keeps : Keeps [.card, .answer] s s.deciding.resumed := by
    have quietly : Keeps [.records, .card, .answer] s s.deciding.resumed :=
      ((deciding_work s).trans (resumed_work _)).keeps_quietly (fun _ h => h) (fun h => h) rfl rfl rfl
    exact quietly.same fun _ => rfl
  exact yields_accept hs ha rfl decided (resumed_work _)
    ⟨rfl, settle_card_of_jobs rfl, keeps_settle_endDecision keeps (by simp)⟩

theorem JobStarts.of_resumed {j : Job} {rest : List Job} {s t : State} (h : JobStarts j rest s.resumed t) :
    JobStarts j rest s t := by
  unfold JobStarts JobFailed at *
  exact h

/-- R162: a halted queue runs again, and its head job becomes ACTIVE. -/
theorem cardResume_starts {s : State} (hs : s.Awake) (ha : s.asks .cardResume = true) {j : Job} {rest : List Job}
    (hh : s.card.halted = true) (hj : s.card.jobs = j :: rest) (hq : j.active = false) (hr : s.card.state = .ready) :
    Yields .cardResume s fun t =>
      t.req.answer = some .ok ∧ t.card.mirrorDue = true ∧ Awaits s t ∧ JobStarts j rest s t
        ∧ (t.card.halted = false → ∀ k, t.frame k = s.frame k)
        ∧ Keeps [.records, .card, .path, .answer, .causes, .sent] s t := by
  have startable : s.deciding.resumed.Startable j rest := ⟨hj, rfl, hr, hq⟩
  set v := activate s.deciding.resumed with hv
  have run : CardRun s.deciding.resumed v := activate_run _
  have decided : decideCardResume s.deciding = accept v := decideCardResume_halted hh
  have work : CardWork s.deciding v := (resumed_work _).trans run.work
  have starts : JobStarts j rest s v := (startable.starts rfl).of_resumed.of_deciding
  have counts : ∀ k, (v.frame k).changeCount = (s.frame k).changeCount := startable.changeCount
  have keeps : Keeps [.records, .card, .path, .answer, .causes, .sent] s v := by
    refine ((deciding_work s).trans work).keeps (fun k hk => ?_) fun hd => ?_
    · rw [run]
      exact hk
    · rw [run.mirrorDue]
      exact hd
  have opens : v.card.halted = false → ∀ k, v.frame k = s.frame k := fun hf k =>
    frame_of_store (startable.running_opens hf) k
  refine yields_accept hs ha rfl decided work ⟨rfl, ?_, awaits_settle_endDecision counts, starts.answered,
    fun hf k => (settle_frame _ _ k).trans (opens hf k), keeps_settle_endDecision keeps (by simp)⟩
  have changed : s.card.jobs ≠ v.card.jobs := startable.jobs_ne.symm
  rw [settle_queueDue]
  exact Bool.or_eq_true_iff.2 (.inr (decide_eq_true changed))

/-- Settles O56. -/
theorem cardJobsQueueAndStart : Obligations.CardJobsQueueAndStart := by
  unfold Obligations.CardJobsQueueAndStart
  intro s hs
  refine ⟨fun f ha => ⟨fun c hc => ?_, fun hc hq => cardJob_waits hs ha hc hq, fun hc hh hj _ => cardJob_starts hs ha hc hh hj⟩,
    fun ha => ⟨fun hh => ?_, fun hh hj => cardResume_empty hs ha hh hj, fun j rest hh hj hq hr _ =>
      cardResume_starts hs ha hh hj hq hr⟩⟩
  · have check : s.deciding.cardJobCheck f = some c := firstOf_unique (firstOf_cardJobChecks s f) hc
    exact yields_refuse hs rfl ha (by rw [decideCardJob, check])
  · exact yields_refuse hs rfl ha (if_neg (by rw [beginDecision_card, quiet_card, hh]; decide))

end Sys2Proof.Machine

namespace Sys2Proof.Machine

/-! ### Bytes that stand in DRAM -/

theorem mem_cellsAt {a : Nat} {bytes : List Byte} {c : Host.Cell} (h : c ∈ cellsAt a bytes) :
    a ≤ c.1 ∧ c.1 < a + bytes.length := by
  induction bytes generalizing a with
  | nil => cases h
  | cons b rest ih =>
    rcases List.mem_cons.1 h with rfl | h
    · exact ⟨Nat.le_refl _, by simp⟩
    · obtain ⟨lo, hi⟩ := ih h
      rw [List.length_cons]
      omega

/-- The bytes stand in DRAM from an address on. -/
def Shows (m : Memory) (a : Nat) (bytes : List Byte) : Prop := m.readBytes a bytes.length = bytes

theorem readBytes_succ (m : Memory) (a n : Nat) : m.readBytes a (n + 1) = m.read a :: m.readBytes (a + 1) n := by
  simp [Memory.readBytes, List.range_succ_eq_map, Function.comp_def, Nat.add_comm, Nat.add_left_comm]

theorem shows_cons {m : Memory} {a : Nat} {b : Byte} {rest : List Byte} :
    Shows m a (b :: rest) ↔ m.read a = b ∧ Shows m (a + 1) rest := by
  simp [Shows, readBytes_succ]

theorem shows_append {m : Memory} {a : Nat} {xs ys : List Byte} :
    Shows m a (xs ++ ys) ↔ Shows m a xs ∧ Shows m (a + xs.length) ys := by
  induction xs generalizing a with
  | nil => simp [Shows, Memory.readBytes]
  | cons x xs ih =>
    have next : a + (xs.length + 1) = a + 1 + xs.length := by omega
    rw [List.cons_append, shows_cons, shows_cons, ih, and_assoc, List.length_cons, next]

/-- Bytes at addresses that read as before still stand. -/
theorem Shows.congr {m m' : Memory} {a : Nat} {bytes : List Byte} (h : Shows m a bytes)
    (same : ∀ c, a ≤ c → c < a + bytes.length → m'.read c = m.read c) : Shows m' a bytes := by
  induction bytes generalizing a with
  | nil => rfl
  | cons b rest ih =>
    rw [shows_cons] at h ⊢
    rw [List.length_cons] at same
    exact ⟨(same a (Nat.le_refl _) (by omega)).trans h.1, ih h.2 fun c lo hi => same c (by omega) (by omega)⟩

/-- Bytes of equal entries stand entry by entry. -/
theorem shows_entries {m : Memory} {a len n : Nat} {f : Nat → List Byte} (hlen : ∀ i, (f i).length = len)
    (h : Shows m a ((List.range n).flatMap f)) {i : Nat} (hi : i < n) : Shows m (a + len * i) (f i) := by
  have lengths : ∀ n, ((List.range n).flatMap f).length = len * n := fun n => by
    simp [List.length_flatMap, hlen, Nat.mul_comm]
  induction n with
  | zero => omega
  | succ n ih =>
    rw [List.range_succ, List.flatMap_append, shows_append, lengths] at h
    rcases Nat.lt_succ_iff_lt_or_eq.1 hi with hi | rfl
    · exact ih h.1 hi
    · simpa using h.2

/-- What writing some bytes leaves. -/
theorem writeCells_shows {m : Memory} (hm : m.wf = true) {a : Nat} {bytes : List Byte} (h : a + bytes.length ≤ dramSize) :
    Shows (m.writeCells (cellsAt a bytes)) a bytes := by
  induction bytes generalizing m a with
  | nil => rfl
  | cons b rest ih =>
    rw [List.length_cons] at h
    rw [shows_cons]
    refine ⟨?_, ih (Memory.wf_write hm a b) (by omega)⟩
    have later : ∀ c ∈ cellsAt (a + 1) rest, c.1 ≠ a := fun c hc => by have := mem_cellsAt hc; omega
    exact (Memory.read_writeCells_other (Memory.wf_write hm a b) _ later).trans
      (Memory.read_write_same hm b (by omega))

theorem writeCells_other {m : Memory} (hm : m.wf = true) {a c : Nat} {bytes : List Byte}
    (h : c < a ∨ a + bytes.length ≤ c) : (m.writeCells (cellsAt a bytes)).read c = m.read c :=
  Memory.read_writeCells_other hm _ fun d hd => by have := mem_cellsAt hd; omega

theorem writeCells_append (m : Memory) (xs ys : List Host.Cell) :
    m.writeCells (xs ++ ys) = (m.writeCells xs).writeCells ys := List.foldl_append

theorem blockGroups_flatten (cells : List Host.Cell) : (blockGroups cells).flatten = cells := by
  induction cells with
  | nil => rfl
  | cons c rest ih =>
    unfold blockGroups
    split
    · next d g gs hg =>
      rw [hg] at ih
      split <;> simpa using ih
    · rw [List.flatten_cons, ih]
      rfl

/-- Bursts that write, one after the other, write their cells. -/
theorem foldl_writes (m : Memory) (groups : List (List Host.Cell)) :
    (groups.map Burst.write).foldl burstDram m = m.writeCells groups.flatten := by
  induction groups generalizing m with
  | nil => rfl
  | cons g gs ih =>
    rw [List.map_cons, List.foldl_cons, ih, List.flatten_cons, writeCells_append]
    rfl

/-! ### Record traffic on an idle path (R173, R174) -/

/-- No client but record traffic has a burst waiting, and it has some, with nothing brought back. -/
def MemPath.RecordAlone (p : MemPath) (bs : List Burst) : Prop :=
  p.readout.waiting = [] ∧ p.processor.waiting = [] ∧ p.develop.waiting = [] ∧ p.card.waiting = []
    ∧ p.record = ⟨bs, []⟩

theorem MemPath.Idle.recordAlone {p : MemPath} (h : p.Idle) : p.RecordAlone [] := by
  obtain ⟨readout, processor, develop, card, waiting, got⟩ := h
  refine ⟨readout, processor, develop, card, ?_⟩
  rw [← waiting, ← got]

/-- The arbiter serves record traffic when nothing else waits. -/
theorem MemPath.RecordAlone.nextClient {p : MemPath} {b : Burst} {bs : List Burst} (h : p.RecordAlone (b :: bs)) :
    p.nextClient = some .record := by
  obtain ⟨-, processor, develop, card, record⟩ := h
  unfold MemPath.nextClient rotationFrom
  cases p.rotation <;> simp [RotClient.succ, MemPath.client, processor, develop, card, record]

/-- A grant to a write of record traffic. -/
theorem grant_recordAlone {s : State} {cells : List Host.Cell} {bs : List Burst}
    (h : s.path.RecordAlone (.write cells :: bs)) : grant s = { s with
      path := { s.path with record := ⟨bs, []⟩, rotation := .processor }, dram := s.dram.writeCells cells } := by
  have next := h.nextClient
  obtain ⟨readout, -, -, -, record⟩ := h
  unfold grant
  rw [readout]
  simp only [next, MemPath.client, record, MemPath.setClient, Client.served, burstGot, List.tail_cons, List.append_nil]
  rfl

/-- Record traffic that is alone at the port is carried through. -/
theorem grantUntil_recordAlone {s : State} (groups : List (List Host.Cell))
    (h : s.path.RecordAlone (groups.map .write)) : ∃ r,
      grantUntil (fun p => (p.client .record).waiting.isEmpty) groups.length s = { s with
        path := { s.path with record := ⟨[], []⟩, rotation := r }, dram := s.dram.writeCells groups.flatten } := by
  induction groups generalizing s with
  | nil =>
    refine ⟨s.path.rotation, ?_⟩
    obtain ⟨-, -, -, -, record⟩ := h
    rw [← List.map_nil (f := Burst.write), ← record]
    rfl
  | cons g gs ih =>
    have waits : (s.path.client .record).waiting.isEmpty = false := by
      rw [MemPath.client, h.2.2.2.2]
      rfl
    obtain ⟨r, hr⟩ := ih (s := grant s) (by
      rw [grant_recordAlone h]
      exact ⟨h.1, h.2.1, h.2.2.1, h.2.2.2.1, rfl⟩)
    refine ⟨r, ?_⟩
    rw [List.length_cons, grantUntil, waits, if_neg (by decide), hr, grant_recordAlone h, List.flatten_cons,
      writeCells_append]

/-- What record traffic writes on an idle path: its bytes, and the place of the rotation. -/
theorem recordWrite_idle {s : State} (h : s.path.Idle) (a : Nat) (bytes : List Byte) : ∃ r, recordWrite a bytes s =
    { s with path := { s.path with rotation := r }, dram := s.dram.writeCells (cellsAt a bytes) } := by
  obtain ⟨readout, processor, develop, card, record⟩ := h.recordAlone
  set u := issue .record (writeBursts (cellsAt a bytes)) s with hu
  have upath : u.path = { s.path with record := ⟨(blockGroups (cellsAt a bytes)).map .write, []⟩ } := by
    simp [hu, issue, MemPath.setClient, MemPath.client, record, writeBursts]
  have alone : u.path.RecordAlone ((blockGroups (cellsAt a bytes)).map .write) := by
    rw [upath]
    exact ⟨readout, processor, develop, card, rfl⟩
  obtain ⟨r, hr⟩ := grantUntil_recordAlone _ alone
  have total : u.path.total = (blockGroups (cellsAt a bytes)).length := by
    simp [MemPath.total, upath, readout, processor, develop, card]
  refine ⟨r, ?_⟩
  rw [recordWrite, drain, ← hu, total, hr, upath, blockGroups_flatten, hu]
  have same : s.path.record = ⟨[], []⟩ := record
  rw [← same]
  rfl

end Sys2Proof.Machine

namespace Sys2Proof.Machine

/-! ### Fields at their offsets (R204) -/

theorem leBytes_length (n v : Nat) : (leBytes n v).length = n := by
  induction n generalizing v with
  | zero => rfl
  | succ n ih => simp [leBytes, ih]

theorem leBytes_zero (n : Nat) : leBytes n 0 = List.replicate n 0 := by
  induction n with
  | zero => rfl
  | succ n ih => rw [leBytes, Nat.zero_div, ih]; rfl

/-- The bytes of some values, each of its size. -/
def packed (values : List (Nat × Nat)) : List Byte := values.flatMap fun v => leBytes v.1 v.2

/-- Values that follow one another from an offset on, each at its offset. -/
def placed : Nat → List (Nat × Nat) → List (Nat × Nat × Nat)
  | _, [] => []
  | o, v :: rest => (o, v.1, v.2) :: placed (o + v.1) rest

theorem fieldsAt_nil (m : Memory) (base : Nat) : FieldsAt m base [] := fun _ h => nomatch h

theorem fieldsAt_cons {m : Memory} {base : Nat} {f : Nat × Nat × Nat} {fs : List (Nat × Nat × Nat)} :
    FieldsAt m base (f :: fs) ↔ Shows m (base + f.1) (leBytes f.2.1 f.2.2) ∧ FieldsAt m base fs := by
  simp [FieldsAt, Shows, leBytes_length]

theorem fieldsAt_append {m : Memory} {base : Nat} {fs gs : List (Nat × Nat × Nat)} :
    FieldsAt m base (fs ++ gs) ↔ FieldsAt m base fs ∧ FieldsAt m base gs := by
  simp [FieldsAt, or_imp, forall_and]

/-- Where the bytes of some values stand, each value stands at its offset. -/
theorem fieldsAt_placed {m : Memory} {base o : Nat} {values : List (Nat × Nat)} (h : Shows m (base + o) (packed values)) :
    FieldsAt m base (placed o values) := by
  induction values generalizing o with
  | nil => exact fieldsAt_nil m base
  | cons v rest ih =>
    have split : packed (v :: rest) = leBytes v.1 v.2 ++ packed rest := rfl
    rw [split, shows_append, leBytes_length, Nat.add_assoc] at h
    exact fieldsAt_cons.2 ⟨h.1, ih h.2⟩

theorem packed_length (values : List (Nat × Nat)) : (packed values).length = (values.map Prod.fst).sum := by
  simp [packed, List.length_flatMap, leBytes_length]

theorem packed_nil : packed [] = [] := rfl

theorem packed_cons (v : Nat × Nat) (rest : List (Nat × Nat)) : packed (v :: rest) = leBytes v.1 v.2 ++ packed rest := rfl

/-! #### Codes and position sets -/

theorem positions_eq (l : List Bool) : positions l = bitSet l := by
  have shifted : ∀ (l : List Bool) (n : Nat),
      ((l.zipIdx n).map fun x => if x.1 then 2 ^ x.2 else 0).sum = 2 ^ n * bitSet l := by
    intro l
    induction l with
    | nil => intro n; rfl
    | cons b rest ih =>
      intro n
      rw [List.zipIdx_cons, List.map_cons, List.sum_cons, ih, bitSet]
      cases b
      · simp only [bitNat, Bool.false_eq_true, if_false]
        ring
      · simp only [bitNat, if_true]
        ring
  have whole := shifted l 0
  rwa [pow_zero, one_mul] at whole

theorem positions_one (b : Bool) : positions [b] = bitNat b := by
  rw [positions_eq]
  simp [bitSet]

theorem optWord_eq (w : Option Word) : optWord w = leBytes 4 (orZero w) := rfl

theorem state_number (a : FrameState) : [FrameState.free, .exposing, .readout, .complete, .spoiled].idxOf a = a.number := by
  cases a <;> rfl

theorem frameKind_number (a : FrameKind) : (if a = .light then 1 else 2) = a.number := by
  cases a <;> rfl

theorem shotMode_number (a : Option ShotMode) :
    (if a = some .timedBulb then 1 else 0) = (a.map ShotMode.number).getD 0 := by
  cases a with
  | none => rfl
  | some m => cases m <;> rfl

/-- The dark state of a DARK record is absent and reads 0. -/
theorem darkShown_eq (k : FrameKind) (d : DarkState) : (if k = .light then d.number else 0) =
    if k = .dark then 0 else if d = .pending then 1 else if d.link.isSome then 2 else if d = .missing then 3 else 0 := by
  cases k
  · cases d <;> rfl
  · rfl

theorem spoilReason_number (a : Option SpoilReason) : codeFrom1 [.cancelled, .releaseFault, .noCable, .earlySync,
    .falseStart, .lightLeak, .linkLost, .readoutTimeout, .sensorFault, .restart] a = (a.map SpoilReason.number).getD 0 := by
  cases a with
  | none => rfl
  | some r => cases r <;> rfl

theorem origin_number (o : Origin) : codeFrom1 [.release, .tripped, .autoDark, .takenDark] (some o) = o.number := by
  cases o <;> rfl

theorem jobKind_number (k : JobKind) : codeFrom1 [.writeFrame, .writeMem, .readMem] (some k) = k.number := by
  cases k <;> rfl

theorem failReason_number (a : Option FailReason) : codeFrom1 [.writeFault, .crcReject, .busyTimeout, .readError,
    .writeProtected, .sourceLost, .cardGone, .cancelled] a = (a.map FailReason.number).getD 0 := by
  cases a with
  | none => rfl
  | some r => cases r <;> rfl

theorem missedReason_number (a : Option MissedReason) :
    codeFrom1 [.notArmed, .early, .readoutBusy, .darkRun] a = (a.map MissedReason.number).getD 0 := by
  cases a with
  | none => rfl
  | some r => cases r <;> rfl

/-! #### The entry of a frame (R206) -/

/-- The values of a frame's entry, in their order. -/
def Frame.values (f : Frame) (k base : Nat) : List (Nat × Nat) := (frameFields f k base).map Prod.snd

theorem placed_values (f : Frame) (k base : Nat) : placed 4 (f.values k base) = frameFields f k base := by
  unfold Frame.values frameFields
  split <;> rfl

theorem presence_eq (f : Frame) : f.presence = positions [f.shotMode.isSome, f.spoil.isSome, f.release.isSome,
    f.integStart.isSome, f.syncClose.isSome, f.syncOpen.isSome, f.integEnd.isSome,
    f.syncClose.isSome && f.syncOpen.isSome, f.integStart.isSome && f.integEnd.isSome, f.firstBad.isSome,
    f.blacks.isSome, f.kind == .light, f.kind == .dark, f.darkState.link.isSome] := by
  have between : ∀ a b : Option Word, (duration a b).isSome = (a.isSome && b.isSome) := by
    intro a b
    cases a <;> cases b <;> rfl
  rw [positions_eq, Frame.presence, Frame.shutterOpen, Frame.integration, between, between]

theorem duration_eq (a b : Option Word) : orZero (duration a b) = orZero (a.bind fun x => b.map (· - x)) := by
  cases a <;> cases b <;> rfl

theorem entryBody_eq (f : Frame) (k base : Nat) : f.entryBody k base = packed (f.values k base) := by
  unfold Frame.values frameFields Frame.entryBody
  by_cases h : f.state = .free
  · rw [if_pos h, if_pos h]
    simp [packed, leBytes_zero]
  · rw [if_neg h, if_neg h]
    unfold Frame.entryTail
    simp only [presence_eq, ← state_number, ← frameKind_number, ← spoilReason_number, ← origin_number,
      ← shotMode_number, darkShown_eq, ← leBytes_zero, List.map_cons, List.map_nil, packed_cons,
      packed_nil, optWord_eq, Frame.shutterOpen, Frame.integration, duration_eq, ← positions_eq, List.append_assoc,
      List.append_nil]

theorem entryBody_length (f : Frame) (k base : Nat) : (f.entryBody k base).length = 120 := by
  rw [entryBody_eq, packed_length]
  unfold Frame.values frameFields
  split
  · simp only [List.map_cons, List.map_nil, List.sum_cons, List.sum_nil, Nat.reduceAdd]
  · simp only [List.map_cons, List.map_nil, List.sum_cons, List.sum_nil, Nat.reduceAdd]

/-! #### The card queue mirror (R207) -/

theorem jobEntry_eq (j : Job) : j.entry = packed ((jobFields j).map Prod.snd) := by
  have consign : bitNat (j.consign && decide (j.kind = .writeFrame)) =
      positions [decide (j.kind = .writeFrame) && j.consign] := by rw [positions_one, Bool.and_comm]
  have last : [0] ++ List.replicate 34 0 = leBytes 35 0 := by rw [leBytes_zero]; rfl
  unfold Job.entry jobFields
  simp only [consign, jobKind_number, List.map_cons, List.map_nil, packed_cons, packed_nil, ← last, List.append_assoc,
    List.append_nil]

theorem jobEntry_length (j : Job) : j.entry.length = 64 := by
  rw [jobEntry_eq, packed_length]
  simp only [jobFields, List.map_cons, List.map_nil, List.sum_cons, List.sum_nil, Nat.reduceAdd]

/-- The entry at a place of the queue. -/
def queueEntry (jobs : List Job) (i : Nat) : List Byte := ((jobs[i]?).map Job.entry).getD (List.replicate 64 0)

theorem queueEntry_length (jobs : List Job) (i : Nat) : (queueEntry jobs i).length = 64 := by
  unfold queueEntry
  cases jobs[i]? with
  | none => rfl
  | some j => exact jobEntry_length j

theorem queueEntries_eq (jobs : List Job) : queueEntries jobs = (List.range 16).flatMap (queueEntry jobs) := rfl

theorem queueEntries_length (jobs : List Job) : (queueEntries jobs).length = 1024 := by
  simp [queueEntries_eq, List.length_flatMap, queueEntry_length]

/-- Where the sixteen entries stand, each job's fields stand in its entry. -/
theorem fieldsAt_job {m : Memory} {a i : Nat} {jobs : List Job} {j : Job} (h : Shows m a (queueEntries jobs)) (hi : i < 16)
    (hj : jobs[i]? = some j) : FieldsAt m (a + 64 * i) (jobFields j) := by
  have entry := shows_entries (queueEntry_length jobs) h hi
  have here : queueEntry jobs i = packed ((jobFields j).map Prod.snd) := by rw [queueEntry, hj, ← jobEntry_eq]; rfl
  rw [here] at entry
  exact fieldsAt_placed (o := 0) entry

/-- An entry behind the last job is 0. -/
theorem fieldsAt_noJob {m : Memory} {a i : Nat} {jobs : List Job} (h : Shows m a (queueEntries jobs)) (hi : i < 16)
    (hj : jobs.length ≤ i) : FieldsAt m (a + 64 * i) [(0, 64, 0)] := by
  have entry := shows_entries (queueEntry_length jobs) h hi
  have here : queueEntry jobs i = leBytes 64 0 := by
    rw [queueEntry, List.getElem?_eq_none hj, leBytes_zero]
    rfl
  rw [here] at entry
  exact fieldsAt_cons.2 ⟨entry, fieldsAt_nil _ _⟩

/-! #### The status page (R208) -/

theorem viewState_number (a : ViewState) : [ViewState.closed, .open, .broken].idxOf a = a.number := by
  cases a <;> rfl

theorem form_number (a : Form) : (if a = .quadRgb8 then 1 else 0) = a.number := by
  cases a <;> rfl

theorem seqState_number (a : SeqState) : [SeqState.unset, .idle, .armed, .delay, .preparing, .waitSync, .open, .tail,
    .tripped, .darkRun, .readout, .fault].idxOf a = a.number := by
  cases a <;> rfl

theorem phase_number (a : Phase) : [Phase.off, .check, .pullIn, .hold].idxOf a = a.number := by
  cases a <;> rfl

theorem cable_number (a : Cable) : [Cable.unknown, .present, .absent].idxOf a = a.number := by
  cases a <;> rfl

theorem cardState_number (a : CardState) : [CardState.absent, .initializing, .ready, .unusable].idxOf a = a.number := by
  cases a <;> rfl

theorem retention_number (a : Retention) : (if a = .ring then 1 else 0) = a.number := by
  cases a <;> rfl

theorem viewBytes_eq (x : View) : x.summary.bytes = packed ((viewFields x).map Prod.snd) := by
  have one : [0] = leBytes 1 0 := rfl
  have two : 0 :: leBytes 1 0 = leBytes 2 0 := rfl
  unfold View.summary ViewSummary.bytes viewFields
  simp only [one, two, viewState_number, form_number, positions_eq, optWord_eq, List.map_cons, List.map_nil, packed_cons,
    packed_nil, List.append_assoc, List.append_nil]

theorem completionBytes_eq (e : Completion) : e.bytes = packed ((completionFields e).map Prod.snd) := by
  obtain ⟨tag, outcome, done⟩ := e
  unfold Completion.bytes completionFields
  cases outcome with
  | failed r => simp [JobOutcome.number, JobOutcome.reason, failReason_number, packed]
  | done => simp [JobOutcome.number, JobOutcome.reason, failReason_number, packed]
  | cancelled => simp [JobOutcome.number, JobOutcome.reason, failReason_number, packed]

/-- The entry at a place of the completion list. -/
def completionEntry (es : List Completion) (i : Nat) : List Byte := ((es[i]?).map Completion.bytes).getD (List.replicate 8 0)

theorem completionEntry_length (es : List Completion) (i : Nat) : (completionEntry es i).length = 8 := by
  unfold completionEntry
  cases es[i]? with
  | none => rfl
  | some e =>
    rw [Option.map_some, Option.getD_some, completionBytes_eq, packed_length]
    rfl

/-- The summary byte with its indications spelled out (R180). -/
theorem summary_eq (s : State) : [s.summary] = leBytes 1 (positions [s.driver.faultShort || s.driver.faultOpen,
    s.seq.state == .fault, s.card.halted, decide (0 < s.store.layout.slotCount ∧ s.allocatable = 0),
    s.dark.job.any (·.light.isSome), decide (s.seq.state ∉ [SeqState.unset, .idle, .armed]), s.card.state == .absent,
    decide (s.req.causes &&& s.req.mask ≠ 0)]) := by
  have busy : decide (s.seq.state ∉ [SeqState.unset, .idle, .armed]) = s.seq.state.busy := by
    cases s.seq.state <;> rfl
  have enabled : decide (s.req.causes &&& s.req.mask ≠ 0) = attention s.req.causes s.req.mask := by
    unfold attention
    rw [bne, beq_eq_decide, decide_not]
  rw [busy, enabled, Bool.decide_and, positions_eq]
  rfl

theorem missedShown_eq (m : Option (Word × MissedReason)) : (m.map fun x => x.2.number).getD 0 =
    codeFrom1 [.notArmed, .early, .readoutBusy, .darkRun] (m.map (·.2)) := by
  rw [missedReason_number, Option.map_map]
  rfl

/-- The fields of the status page up to the shot clock. -/
def headFields (s : State) : List (Nat × Nat × Nat) := (statusFields s).take 28

/-- The fields of the black history. -/
def historyFields (s : State) : List (Nat × Nat × Nat) :=
  (List.range 6).map fun i => (0x034 + 2 * i, 2, (s.readout.history[i]?).getD 0)

theorem statusFields_eq (s : State) : statusFields s =
    headFields s ++ [(0x080, 1, s.card.completions.length), (0x081, 3, 0)] ++ historyFields s := rfl

theorem placed_head (s : State) : placed 0x004 ((headFields s).map Prod.snd) = headFields s := rfl

theorem placed_history (s : State) : placed 0x034 ((historyFields s).map Prod.snd) = historyFields s := rfl

/-- The bytes of the items, block by block. -/
theorem statusBytes_eq (s : State) : s.statusView.bytes s.clock = packed ((headFields s).map Prod.snd)
    ++ (packed ((historyFields s).map Prod.snd)
    ++ (packed ((viewFields s.develop.views.c0).map Prod.snd) ++ (packed ((viewFields s.develop.views.c1).map Prod.snd)
    ++ (packed ((viewFields s.develop.views.c2).map Prod.snd) ++ (packed ((viewFields s.develop.views.c3).map Prod.snd)
    ++ (packed [(1, s.card.completions.length), (3, 0)]
    ++ (List.range 8).flatMap (completionEntry s.card.completions))))))) := by
  have history : packed ((historyFields s).map Prod.snd) =
      (List.range historyTop).flatMap fun i => leBytes 2 ((s.readout.history[i]?).getD 0) := by
    simp [packed, historyFields, List.flatMap_map, historyTop]
  have zeros : [0, 0, 0] = leBytes 3 0 := rfl
  rw [history]
  simp only [← viewBytes_eq]
  unfold StatusView.bytes State.statusView
  simp only [headFields, statusFields, List.cons_append, List.take_succ_cons, List.take_zero, List.map_cons,
    List.map_nil, packed_cons, packed_nil, positions_one]
  simp only [summary_eq, seqState_number, phase_number, cable_number, cardState_number, retention_number, missedShown_eq,
    optWord_eq, positions_eq, zeros, State.darkPending, List.append_assoc, List.append_nil]
  rfl

theorem head_length (s : State) : (packed ((headFields s).map Prod.snd)).length = 48 := by
  rw [packed_length]
  simp only [headFields, statusFields, List.cons_append, List.take_succ_cons, List.take_zero, List.map_cons, List.map_nil,
    List.sum_cons, List.sum_nil, Nat.reduceAdd]

theorem history_length (s : State) : (packed ((historyFields s).map Prod.snd)).length = 12 := by
  rw [packed_length]
  rfl

theorem view_length (x : View) : (packed ((viewFields x).map Prod.snd)).length = 16 := by
  rw [packed_length]
  rfl

theorem completions_length (n : Nat) : (packed [(1, n), (3, 0)]).length = 4 := by
  rw [packed_length]
  rfl

/-- The blocks of the status page, each at its place. -/
structure StatusShown (m : Memory) (s : State) : Prop where
  head : Shows m 0x2004 (packed ((headFields s).map Prod.snd))
  history : Shows m 0x2034 (packed ((historyFields s).map Prod.snd))
  views : ∀ v : Fin 4, Shows m (0x2040 + 16 * v.val) (packed ((viewFields (s.view v)).map Prod.snd))
  count : Shows m 0x2080 (packed [(1, s.card.completions.length), (3, 0)])
  entries : Shows m 0x2084 ((List.range 8).flatMap (completionEntry s.card.completions))

theorem statusShown {m : Memory} {s : State} (h : Shows m 0x2004 (s.statusView.bytes s.clock)) : StatusShown m s := by
  rw [statusBytes_eq] at h
  simp only [shows_append, head_length, history_length, view_length, completions_length, Nat.reduceAdd] at h
  obtain ⟨head, history, view0, view1, view2, view3, count, entries⟩ := h
  refine ⟨head, history, fun v => ?_, count, entries⟩
  fin_cases v
  exacts [view0, view1, view2, view3]

theorem statusBytes_length (s : State) : (s.statusView.bytes s.clock).length = 192 := by
  rw [statusBytes_eq]
  simp only [List.length_append, head_length, history_length, view_length, completions_length, List.length_flatMap,
    completionEntry_length]
  rfl

/-- Where the blocks of the status page stand, its fields stand at their offsets. -/
theorem StatusShown.fields {m : Memory} {s : State} (h : StatusShown m s) : FieldsAt m 0x2000 (statusFields s) := by
  rw [statusFields_eq, fieldsAt_append, fieldsAt_append]
  refine ⟨⟨?_, ?_⟩, ?_⟩
  · rw [← placed_head]
    exact fieldsAt_placed h.head
  · exact fieldsAt_placed (o := 0x080) (values := [(1, s.card.completions.length), (3, 0)]) h.count
  · rw [← placed_history]
    exact fieldsAt_placed h.history

theorem StatusShown.view {m : Memory} {s : State} (h : StatusShown m s) (v : Fin 4) :
    FieldsAt m (0x2040 + 16 * v.val) (viewFields (s.view v)) :=
  fieldsAt_placed (o := 0) (h.views v)

theorem StatusShown.completion {m : Memory} {s : State} (h : StatusShown m s) {i : Nat} {e : Completion} (hi : i < 8)
    (he : s.card.completions[i]? = some e) : FieldsAt m (0x2084 + 8 * i) (completionFields e) := by
  have entry := shows_entries (completionEntry_length s.card.completions) h.entries hi
  have here : completionEntry s.card.completions i = packed ((completionFields e).map Prod.snd) := by
    rw [completionEntry, he, ← completionBytes_eq]
    rfl
  rw [here] at entry
  exact fieldsAt_placed (o := 0) entry

theorem StatusShown.noCompletion {m : Memory} {s : State} (h : StatusShown m s) {i : Nat} (hi : i < 8)
    (he : s.card.completions.length ≤ i) : FieldsAt m (0x2084 + 8 * i) [(0, 8, 0)] := by
  have entry := shows_entries (completionEntry_length s.card.completions) h.entries hi
  have here : completionEntry s.card.completions i = leBytes 8 0 := by
    rw [completionEntry, List.getElem?_eq_none he, leBytes_zero]
    rfl
  rw [here] at entry
  exact fieldsAt_cons.2 ⟨entry, fieldsAt_nil _ _⟩

end Sys2Proof.Machine

namespace Sys2Proof.Machine

/-! ### The writes of mirrors and pages (R22, R165, R186) -/

/-- Pieces written one after the other: the address and the bytes of each. -/
def drawn (m : Memory) (ps : List (Nat × List Byte)) : Memory := ps.foldl (fun m p => m.writeCells (cellsAt p.1 p.2)) m

/-- Two pieces share no byte. -/
def Apart (p q : Nat × List Byte) : Prop := p.1 + p.2.length ≤ q.1 ∨ q.1 + q.2.length ≤ p.1

theorem drawn_other {m : Memory} (hm : m.wf = true) {ps : List (Nat × List Byte)} {a : Nat}
    (h : ∀ p ∈ ps, a < p.1 ∨ p.1 + p.2.length ≤ a) : (drawn m ps).read a = m.read a := by
  induction ps generalizing m with
  | nil => rfl
  | cons p ps ih =>
    have later := ih (Memory.wf_writeCells hm (cellsAt p.1 p.2)) fun q hq => h q (List.mem_cons_of_mem _ hq)
    exact later.trans (writeCells_other hm (h p List.mem_cons_self))

/-- Pieces that share no byte all stand in DRAM once they are written. -/
theorem drawn_shows {m : Memory} (hm : m.wf = true) {ps : List (Nat × List Byte)} (apart : ps.Pairwise Apart)
    (fits : ∀ p ∈ ps, p.1 + p.2.length ≤ dramSize) : ∀ p ∈ ps, Shows (drawn m ps) p.1 p.2 := by
  induction ps generalizing m with
  | nil => exact fun _ h => nomatch h
  | cons p ps ih =>
    have hw := Memory.wf_writeCells hm (cellsAt p.1 p.2)
    rw [List.pairwise_cons] at apart
    intro q hq
    rcases List.mem_cons.1 hq with rfl | hq
    · refine (writeCells_shows hm (fits q List.mem_cons_self)).congr fun c lo hi => drawn_other hw fun r hr => ?_
      rcases apart.1 r hr with h | h
      · exact .inl (by omega)
      · exact .inr (by omega)
    · exact ih hw apart.2 (fun r hr => fits r (List.mem_cons_of_mem _ hr)) q hq

/-- Record traffic writes some pieces. -/
def State.draws (s : State) (ps : List (Nat × List Byte)) : State := ps.foldl (fun s p => recordWrite p.1 p.2 s) s

/-- The pieces stand in DRAM; else only the place of the rotation differs. -/
def Drawn (ps : List (Nat × List Byte)) (s t : State) : Prop :=
  ∃ r, t = { s with path := { s.path with rotation := r }, dram := drawn s.dram ps }

theorem draws_idle {s : State} (h : s.path.Idle) (ps : List (Nat × List Byte)) : Drawn ps s (s.draws ps) := by
  induction ps generalizing s with
  | nil => exact ⟨s.path.rotation, rfl⟩
  | cons p ps ih =>
    obtain ⟨r, hr⟩ := recordWrite_idle h p.1 p.2
    obtain ⟨r', hr'⟩ := ih (s := recordWrite p.1 p.2 s) (by rw [hr]; exact h)
    refine ⟨r', ?_⟩
    rw [State.draws, List.foldl_cons, ← State.draws, hr', hr]
    rfl

section Drawn
variable {ps : List (Nat × List Byte)} {s u : State} (h : Drawn ps s u)
include h

theorem Drawn.store : u.store = s.store := by obtain ⟨r, rfl⟩ := h; rfl
theorem Drawn.card : u.card = s.card := by obtain ⟨r, rfl⟩ := h; rfl
theorem Drawn.req : u.req = s.req := by obtain ⟨r, rfl⟩ := h; rfl
theorem Drawn.dram : u.dram = drawn s.dram ps := by obtain ⟨r, rfl⟩ := h; rfl
theorem Drawn.service : u.develop.service = s.develop.service := by obtain ⟨r, rfl⟩ := h; rfl
theorem Drawn.port : u.path.port = s.path.port := by obtain ⟨r, rfl⟩ := h; rfl
theorem Drawn.statusView : u.statusView = s.statusView := by obtain ⟨r, rfl⟩ := h; rfl

theorem Drawn.keeps {c : List Part} {a : State} (hk : Keeps c a s) (hp : .path ∈ c) (hd : .dram ∈ c) : Keeps c a u := by
  obtain ⟨r, rfl⟩ := h
  intro p hc
  have same := hk p hc
  cases p
  case path => exact absurd hp hc
  case dram => exact absurd hd hc
  all_goals exact same

end Drawn

/-! #### The three writes as pieces -/

/-- The record's change count has advanced, and its write is no longer due. -/
def State.counted (s : State) (k : Fin 16) : State :=
  (s.setFrame k { s.frame k with changeCount := (s.frame k).changeCount + 1 }).onStore fun t =>
    { t with mirrorDue := t.mirrorDue.filter (· != k) }

/-- The pieces of a mirror entry. -/
def mirrorPieces (s : State) (k : Fin 16) : List (Nat × List Byte) :=
  let count := leBytes 4 ((s.frame k).changeCount + 1).toNat
  [(0x3000 + k.val * 128, count),
   (0x3000 + k.val * 128 + 4, (s.frame k).entryBody k.val (s.store.shownBase k.val)),
   (0x3000 + k.val * 128 + 0x7C, count)]

theorem counted_frame (s : State) (k j : Fin 16) : (s.counted k).frame j =
    if j = k then { s.frame k with changeCount := (s.frame k).changeCount + 1 } else s.frame j :=
  State.frame_setFrame s k j _

theorem writeMirror_eq (s : State) (k : Fin 16) : writeMirror k s = (s.counted k).draws (mirrorPieces s k) := by
  have frame : (s.counted k).frame k = { s.frame k with changeCount := (s.frame k).changeCount + 1 } := by
    rw [counted_frame, if_pos rfl]
  have store : ∀ a bytes, (recordWrite a bytes (s.counted k)).store = (s.counted k).store := fun a bytes => by
    rw [recordWrite_onlyMemory]
  unfold writeMirror mirrorPieces State.draws
  simp only [List.foldl_cons, List.foldl_nil]
  rw [← State.counted]
  rw [frame_of_store (store _ _), store, frame]
  rfl

/-- The pieces of the card queue mirror. -/
def queuePieces (s : State) : List (Nat × List Byte) :=
  let count := leBytes 4 (s.card.pageCount + 1).toNat
  [(0x4400, count), (0x4000, queueEntries s.card.jobs), (0x4404, leBytes 4 s.card.jobs.length), (0x4408, count)]

/-- The queue mirror's change count has advanced, and its write is no longer due. -/
def State.queueCounted (s : State) : State := s.onCard fun c => { c with pageCount := c.pageCount + 1, mirrorDue := false }

theorem writeQueueMirror_eq (s : State) : writeQueueMirror s = s.queueCounted.draws (queuePieces s) := by
  have card : ∀ a bytes u, (recordWrite a bytes u).card = u.card := fun a bytes u => by rw [recordWrite_onlyMemory]
  unfold writeQueueMirror queuePieces State.draws
  simp only [List.foldl_cons, List.foldl_nil, card]
  rfl

/-- The pieces of the status page. -/
def statusPieces (s : State) : List (Nat × List Byte) :=
  let count := leBytes 4 (s.req.pageCount + 1).toNat
  [(0x2000, count), (0x2004, s.statusView.bytes s.clock), (0x2FFC, count)]

/-- The status page's change count has advanced, and its write is no longer due. -/
def State.statusCounted (s : State) : State := s.onReq fun r => { r with pageCount := r.pageCount + 1, statusDue := false }

theorem writeStatusPage_eq {s : State} (h : s.path.Idle) : writeStatusPage s = s.statusCounted.draws (statusPieces s) := by
  have idle : s.statusCounted.path.Idle := h
  obtain ⟨r, hr⟩ := recordWrite_idle idle 0x2000 (leBytes 4 (s.req.pageCount + 1).toNat)
  have items : (recordWrite 0x2000 (leBytes 4 (s.req.pageCount + 1).toNat) s.statusCounted).statusView.bytes
      (recordWrite 0x2000 (leBytes 4 (s.req.pageCount + 1).toNat) s.statusCounted).clock = s.statusView.bytes s.clock := by
    rw [hr]
    rfl
  unfold statusPieces State.draws
  simp only [List.foldl_cons, List.foldl_nil]
  rw [← items]
  rfl

/-! #### What the pieces leave -/

theorem mirrorPieces_apart (s : State) (k : Fin 16) : (mirrorPieces s k).Pairwise Apart := by
  simp only [mirrorPieces, List.pairwise_cons, List.mem_cons, List.not_mem_nil, or_false, forall_eq_or_imp, forall_eq,
    Apart, leBytes_length, entryBody_length]
  simp

theorem mirrorPieces_within (s : State) (k : Fin 16) :
    ∀ p ∈ mirrorPieces s k, 0x3000 + k.val * 128 ≤ p.1 ∧ p.1 + p.2.length ≤ 0x3000 + k.val * 128 + 128 := by
  simp only [mirrorPieces, List.mem_cons, List.not_mem_nil, or_false, forall_eq_or_imp, forall_eq, leBytes_length,
    entryBody_length]
  omega

theorem queuePieces_apart (s : State) : (queuePieces s).Pairwise Apart := by
  simp only [queuePieces, List.pairwise_cons, List.mem_cons, List.not_mem_nil, or_false, forall_eq_or_imp, forall_eq,
    Apart, leBytes_length, queueEntries_length]
  simp

theorem queuePieces_within (s : State) : ∀ p ∈ queuePieces s, 0x4000 ≤ p.1 ∧ p.1 + p.2.length ≤ 0x440C := by
  simp only [queuePieces, List.mem_cons, List.not_mem_nil, or_false, forall_eq_or_imp, forall_eq, leBytes_length,
    queueEntries_length]
  omega

theorem statusPieces_apart (s : State) : (statusPieces s).Pairwise Apart := by
  simp only [statusPieces, List.pairwise_cons, List.mem_cons, List.not_mem_nil, or_false, forall_eq_or_imp, forall_eq,
    Apart, leBytes_length, statusBytes_length]
  simp

theorem statusPieces_within (s : State) : ∀ p ∈ statusPieces s,
    0x2000 ≤ p.1 ∧ p.1 + p.2.length ≤ 0x20C4 ∨ 0x2FFC ≤ p.1 ∧ p.1 + p.2.length ≤ 0x3000 := by
  simp only [statusPieces, List.mem_cons, List.not_mem_nil, or_false, forall_eq_or_imp, forall_eq, leBytes_length,
    statusBytes_length]
  omega

/-! #### The rows -/

/-- A record without its count is in the group it was in (R15, R22). -/
theorem counted_statusView (s : State) (k : Fin 16) : (s.counted k).statusView = s.statusView := by
  have group : ∀ j, (s.counted k).groupOf j = s.groupOf j := fun j => by
    unfold State.groupOf
    rw [counted_frame]
    by_cases e : j = k
    · subst e
      rw [if_pos rfl]
      rfl
    · rw [if_neg e]
      rfl
  have allocatable : (s.counted k).allocatable = s.allocatable := by
    unfold State.allocatable
    simp only [group]
  unfold State.statusView State.summary State.storeFull
  rw [allocatable]
  rfl

/-- Where the pieces of a mirror entry stand, its fields stand at their offsets. -/
theorem mirrorPieces_fields {m : Memory} {s : State} {k : Fin 16} (h : ∀ p ∈ mirrorPieces s k, Shows m p.1 p.2) :
    FieldsAt m (0x3000 + k.val * 128) ([(0x00, 4, ((s.frame k).changeCount + 1).toNat),
      (0x7C, 4, ((s.frame k).changeCount + 1).toNat)] ++ frameFields (s.frame k) k.val (s.store.shownBase k.val)) := by
  simp only [mirrorPieces, List.mem_cons, List.not_mem_nil, or_false, forall_eq_or_imp, forall_eq] at h
  obtain ⟨leading, body, trailing⟩ := h
  rw [fieldsAt_append, fieldsAt_cons, fieldsAt_cons, ← placed_values]
  refine ⟨⟨leading, trailing, fieldsAt_nil _ _⟩, fieldsAt_placed ?_⟩
  rwa [← entryBody_eq]

theorem counted_keeps (s : State) (k : Fin 16) : Keeps [.records, .path, .dram, .due] s (s.quiet.counted k) := by
  intro p hp
  cases p
  case records | path | dram | due => simp at hp
  all_goals simp [Part.Same, State.counted]

/-- R22: a scheduled mirror write shows the record. -/
theorem mirrorWrite_yields {s : State} (hs : s.Awake) (hp : s.path.Idle) (hm : s.dram.wf = true) {k : Fin 16}
    (hk : k ∈ s.store.mirrorDue) : Yields (.mirrorWrite k) s fun t =>
      let count := (s.frame k).changeCount + 1
      let at_ := 0x3000 + k.val * 128
      let base := if k.val < s.store.layout.slotCount then 0x1000000 + k.val * s.store.layout.slotSize else 0
      t.frame k = { s.frame k with changeCount := count } ∧ SameBut k s t
        ∧ FieldsAt t.dram at_ ([(0x00, 4, count.toNat), (0x7C, 4, count.toNat)] ++ frameFields (s.frame k) k.val base)
        ∧ t.dram.readBytes (at_ + 4) 120 = (s.frame k).entryBody k.val (s.store.shownBase k.val)
        ∧ (∀ a, (a < at_ ∨ at_ + 128 ≤ a) → t.dram.read a = s.dram.read a)
        ∧ k ∉ t.store.mirrorDue ∧ (∀ j, j ≠ k → (j ∈ t.store.mirrorDue ↔ j ∈ s.store.mirrorDue))
        ∧ t.card = s.card ∧ t.req.statusDue = s.req.statusDue
        ∧ Keeps [.records, .path, .dram, .due] s t := by
  have pieces : mirrorPieces s.quiet k = mirrorPieces s k := by simp only [mirrorPieces, quiet_frame, quiet_store]
  have idle : (s.quiet.counted k).path.Idle := hp
  have write : Drawn (mirrorPieces s k) (s.quiet.counted k) (writeMirror k s.quiet) := by
    rw [writeMirror_eq, pieces]
    exact draws_idle idle _
  have service : (s.quiet.counted k).develop.service = s.develop.service := rfl
  have port : (s.quiet.counted k).path.port = s.path.port := rfl
  refine yields_runWhen (due := fun s => s.store.mirrorDue.contains k) hs rfl ?_ (write.service.trans service)
    (write.port.trans port) ?_
  · simpa using hk
  generalize writeMirror k s.quiet = v at write
  have frame : ∀ j, v.frame j = if j = k then { s.frame k with changeCount := (s.frame k).changeCount + 1 }
      else s.frame j := fun j => (frame_of_store write.store j).trans (counted_frame s.quiet k j)
  have content : ∀ j, (v.frame j).content = (s.frame j).content := fun j => by
    rw [frame]
    split
    · next e => subst e; rfl
    · rfl
  have dram : v.dram = drawn s.dram (mirrorPieces s k) := write.dram
  have due : v.store.mirrorDue = s.store.mirrorDue.filter (· != k) := by rw [write.store]; rfl
  have within := mirrorPieces_within s k
  have stands := drawn_shows hm (mirrorPieces_apart s k) fun p hp => by
    have := (within p hp).2
    unfold dramSize
    omega
  have card : v.card = s.card := write.card
  have statusView : v.statusView = s.statusView := write.statusView.trans (counted_statusView s.quiet k)
  have statusDue : v.req.statusDue = s.req.statusDue := by rw [write.req]; rfl
  have keeps := keeps_settle s (write.keeps (counted_keeps s k) (by simp) (by simp))
  rw [← dram] at stands
  have settled : ∀ j, j ∈ (settle s v).store.mirrorDue ↔ j ∈ s.store.mirrorDue ∧ j ≠ k := fun j => by
    rw [mem_settle_mirrorDue, due, content]
    simp
  refine ⟨?_, fun j hj => ?_, mirrorPieces_fields stands, ?_, fun a ha => ?_, ?_, fun j hj => ?_, ?_, ?_, keeps⟩
  · rw [settle_frame, frame, if_pos rfl]
  · rw [settle_frame, frame, if_neg hj]
  · have body := stands _ (List.mem_cons_of_mem _ List.mem_cons_self)
    rwa [Shows, entryBody_length] at body
  · rw [settle_dram, dram]
    refine drawn_other hm fun p hp => ?_
    obtain ⟨lo, hi⟩ := within p hp
    omega
  · rw [settled]
    exact fun h => h.2 rfl
  · rw [settled]
    exact and_iff_left hj
  · rw [settle_card_of_jobs (by rw [card]), card]
  · rw [settle_statusDue, statusView, statusDue]
    simp

/-- R165: a scheduled write of the card queue mirror shows the queue. -/
theorem cardQueueMirrorWrite_yields {s : State} (hs : s.Awake) (hp : s.path.Idle) (hm : s.dram.wf = true)
    (hd : s.card.mirrorDue = true) : Yields .cardQueueMirrorWrite s fun t =>
      let count := (s.card.pageCount + 1).toNat
      t.card = { s.card with pageCount := s.card.pageCount + 1, mirrorDue := false }
        ∧ FieldsAt t.dram 0x4000 [(0x400, 4, count), (0x404, 4, s.card.jobs.length), (0x408, 4, count)]
        ∧ (∀ (i : Nat) j, i < 16 → s.card.jobs[i]? = some j → FieldsAt t.dram (0x4000 + 64 * i) (jobFields j))
        ∧ (∀ i, i < 16 → s.card.jobs.length ≤ i → FieldsAt t.dram (0x4000 + 64 * i) [(0, 64, 0)])
        ∧ t.dram.readBytes 0x4000 1024 = queueEntries s.card.jobs
        ∧ (∀ a, (a < 0x4000 ∨ 0x440C ≤ a) → t.dram.read a = s.dram.read a)
        ∧ Keeps [.card, .path, .dram, .due] s t := by
  have pieces : queuePieces s.quiet = queuePieces s := by simp only [queuePieces, quiet_card]
  have idle : s.quiet.queueCounted.path.Idle := hp
  have write : Drawn (queuePieces s) s.quiet.queueCounted (writeQueueMirror s.quiet) := by
    rw [writeQueueMirror_eq, pieces]
    exact draws_idle idle _
  have service : s.quiet.queueCounted.develop.service = s.develop.service := rfl
  have port : s.quiet.queueCounted.path.port = s.path.port := rfl
  refine yields_runWhen (due := fun s => s.card.mirrorDue) hs rfl hd (write.service.trans service)
    (write.port.trans port) ?_
  generalize writeQueueMirror s.quiet = v at write
  have dram : v.dram = drawn s.dram (queuePieces s) := write.dram
  have card : v.card = { s.card with pageCount := s.card.pageCount + 1, mirrorDue := false } := write.card
  have within := queuePieces_within s
  have stands := drawn_shows hm (queuePieces_apart s) fun p hp => by
    have := (within p hp).2
    unfold dramSize
    omega
  rw [← dram] at stands
  simp only [queuePieces, List.mem_cons, List.not_mem_nil, or_false, forall_eq_or_imp, forall_eq] at stands
  obtain ⟨leading, entries, length, trailing⟩ := stands
  have counted : Keeps [.card, .path, .dram, .due] s s.quiet.queueCounted := by
    intro p hp
    cases p
    case card | path | dram | due => simp at hp
    case records => exact fun _ => rfl
    all_goals simp [Part.Same, State.queueCounted]
  have keeps := keeps_settle s (write.keeps counted (by simp) (by simp))
  refine ⟨?_, ?_, fun i j hi hj => fieldsAt_job entries hi hj, fun i hi hj => fieldsAt_noJob entries hi hj, ?_,
    fun a ha => ?_, keeps⟩
  · rw [settle_card_of_jobs (by rw [card]), card]
  · rw [fieldsAt_cons, fieldsAt_cons, fieldsAt_cons]
    exact ⟨leading, length, trailing, fieldsAt_nil _ _⟩
  · rw [Shows, queueEntries_length] at entries
    rw [settle_dram]
    exact entries
  · rw [settle_dram, dram]
    refine drawn_other hm fun p hp => ?_
    obtain ⟨lo, hi⟩ := within p hp
    omega

theorem quiet_statusView (s : State) : s.quiet.statusView = s.statusView := rfl

theorem statusCounted_statusView (s : State) : s.statusCounted.statusView = s.statusView := rfl

/-- R186: a scheduled write of the status page shows the items. -/
theorem statusPageWrite_yields {s : State} (hs : s.Awake) (hp : s.path.Idle) (hm : s.dram.wf = true)
    (hd : s.req.statusDue = true) : Yields .statusPageWrite s fun t =>
      let count := (s.req.pageCount + 1).toNat
      t.req.pageCount = s.req.pageCount + 1 ∧ t.req.statusDue = false
        ∧ t.req.post = s.req.post ∧ t.req.consumed = s.req.consumed ∧ t.req.hand = s.req.hand ∧ t.req.mask = s.req.mask
        ∧ FieldsAt t.dram 0x2000 ([(0x000, 4, count), (0xFFC, 4, count)] ++ statusFields s)
        ∧ (∀ v : Fin 4, FieldsAt t.dram (0x2040 + 16 * v.val) (viewFields (s.view v)))
        ∧ (∀ (i : Nat) e, i < 8 → s.card.completions[i]? = some e →
          FieldsAt t.dram (0x2084 + 8 * i) (completionFields e))
        ∧ (∀ i, i < 8 → s.card.completions.length ≤ i → FieldsAt t.dram (0x2084 + 8 * i) [(0, 8, 0)])
        ∧ t.dram.readBytes 0x2004 192 = s.statusView.bytes s.clock
        ∧ (∀ a, (a < 0x2000 ∨ 0x20C4 ≤ a ∧ a < 0x2FFC ∨ 0x3000 ≤ a) → t.dram.read a = s.dram.read a)
        ∧ Keeps [.counts, .path, .dram, .due] s t := by
  have items : s.quiet.statusView = s.statusView := quiet_statusView s
  have pieces : statusPieces s.quiet = statusPieces s := by simp only [statusPieces, quiet_req, quiet_clock, items]
  have idle : s.quiet.path.Idle := hp
  have write : Drawn (statusPieces s) s.quiet.statusCounted (writeStatusPage s.quiet) := by
    rw [writeStatusPage_eq idle, pieces]
    exact draws_idle (s := s.quiet.statusCounted) idle _
  have service : s.quiet.statusCounted.develop.service = s.develop.service := rfl
  have port : s.quiet.statusCounted.path.port = s.path.port := rfl
  refine yields_runWhen (due := fun s => s.req.statusDue) hs rfl hd (write.service.trans service)
    (write.port.trans port) ?_
  generalize writeStatusPage s.quiet = v at write
  have dram : v.dram = drawn s.dram (statusPieces s) := write.dram
  have req : v.req = { s.req with pageCount := s.req.pageCount + 1, statusDue := false } := write.req
  have statusView : v.statusView = s.statusView := (write.statusView.trans (statusCounted_statusView _)).trans items
  have within := statusPieces_within s
  have stands := drawn_shows hm (statusPieces_apart s) fun p hp => by
    have := within p hp
    unfold dramSize
    omega
  rw [← dram] at stands
  simp only [statusPieces, List.mem_cons, List.not_mem_nil, or_false, forall_eq_or_imp, forall_eq] at stands
  obtain ⟨leading, body, trailing⟩ := stands
  have shown : StatusShown v.dram s := statusShown body
  have counted : Keeps [.counts, .path, .dram, .due] s s.quiet.statusCounted := by
    intro p hp
    cases p
    case counts | path | dram | due => simp at hp
    case records => exact fun _ => rfl
    all_goals simp [Part.Same, State.statusCounted]
  have keeps := keeps_settle s (write.keeps counted (by simp) (by simp))
  refine ⟨by rw [settle_pageCount, req], ?_, by rw [settle_post, req], by rw [settle_consumed, req],
    by rw [settle_hand, req], by rw [settle_mask, req], ?_, shown.view, fun i e hi he => shown.completion hi he,
    fun i hi he => shown.noCompletion hi he, ?_, fun a ha => ?_, keeps⟩
  · rw [settle_statusDue, statusView, req]
    simp
  · rw [fieldsAt_append, fieldsAt_cons, fieldsAt_cons]
    exact ⟨⟨leading, trailing, fieldsAt_nil _ _⟩, shown.fields⟩
  · rw [Shows, statusBytes_length] at body
    rw [settle_dram]
    exact body
  · rw [settle_dram, dram]
    refine drawn_other hm fun p hp => ?_
    have := within p hp
    omega

/-- Settles O13. -/
theorem mirrorWriteShowsTheRecord : Obligations.MirrorWriteShowsTheRecord := by
  unfold Obligations.MirrorWriteShowsTheRecord
  intro s hs hp hm
  exact ⟨fun k hk => mirrorWrite_yields hs hp hm hk, cardQueueMirrorWrite_yields hs hp hm, statusPageWrite_yields hs hp hm⟩

end Sys2Proof.Machine

namespace Sys2Proof.Machine

/-! ### Flags -/

theorem hasFlag_bit (x y : Flag) : hasFlag x.bit y = decide (x = y) := by
  cases x <;> cases y <;> decide

theorem hasFlag_withFlag (f : Frame) (x y : Flag) :
    hasFlag (f.withFlag x).flags y = (hasFlag f.flags y || decide (x = y)) := by
  rw [← hasFlag_bit]
  exact BitVec.getLsbD_or

theorem hasFlag_foldl_withFlag (flags : List Flag) (f : Frame) (x : Flag) :
    hasFlag (flags.foldl Frame.withFlag f).flags x = (hasFlag f.flags x || decide (x ∈ flags)) := by
  induction flags generalizing f with
  | nil => simp
  | cons a flags ih =>
    rw [List.foldl_cons, ih, hasFlag_withFlag, Bool.or_assoc, ← Bool.decide_or]
    simp [eq_comm]

theorem hasFlag_completed (f : Frame) (blacks : Blacks) (flags : List Flag) (x : Flag) :
    hasFlag (completed f blacks flags).flags x = true ↔ hasFlag f.flags x = true ∨ x ∈ flags := by
  unfold completed
  rw [hasFlag_foldl_withFlag]
  simp

/-! ### Integration times and the reuse search (R8, R104 to R106) -/

theorem integrationOf_iff {f : Frame} {time : Nat} : integrationOf f time ↔ f.integration.map BitVec.toNat = some time := by
  unfold integrationOf Frame.integration duration
  cases f.integStart with
  | none => simp
  | some a => cases f.integEnd <;> simp [eq_comm]

theorem integrated_of {f : Frame} {time : Nat} (h : integrationOf f time) : f.integrated = time := by
  unfold Frame.integrated
  rw [integrationOf_iff.1 h]
  rfl

theorem integration_isSome {f : Frame} : f.integration.isSome = true ↔ integrationOf f f.integrated := by
  rw [integrationOf_iff]
  unfold Frame.integrated
  cases f.integration <;> simp

theorem gap_eq (a b : Nat) : gap a b = ((a : Int) - b).natAbs := by
  unfold gap
  omega

theorem blacksMatch_iff {limit : Nat} {dark light : Frame} : blacksMatch limit dark light = true
    ↔ ∃ d l, dark.blacks = some d ∧ light.blacks = some l
      ∧ ∀ c, ((d.level.get c : Int) - l.level.get c).natAbs ≤ limit := by
  unfold blacksMatch
  cases dark.blacks with
  | none => simp
  | some d =>
    cases light.blacks with
    | none => simp
    | some l => simp [gap_eq, Fin.forall_fin_succ]

theorem darkMatches_iff {p : DarkParams} {dark light : Frame} {time : Nat} (h : integrationOf light time) :
    darkMatches p dark light = true ↔ Matches p dark light := by
  unfold darkMatches Matches
  simp only [Bool.and_eq_true, beq_iff_eq, decide_eq_true_eq, blacksMatch_iff, integration_isSome, gap_eq, integrated_of h,
    and_assoc]
  refine and_congr_right fun _ => and_congr_right fun _ => ⟨?_, ?_⟩
  · rintro ⟨hd, hle, hb⟩
    exact ⟨⟨_, _, hd, h, hle⟩, hb⟩
  · rintro ⟨⟨td, tl, hd, hl, hle⟩, hb⟩
    obtain rfl : time = tl := Option.some.inj ((integrationOf_iff.1 h).symm.trans (integrationOf_iff.1 hl))
    rw [integrated_of hd]
    exact ⟨hd, hle, hb⟩

theorem bestDark_eq_none {difference age : Fin 16 → Nat} {l : List (Fin 16)} : bestDark difference age l = none ↔ l = [] := by
  cases l with
  | nil => simp [bestDark]
  | cons k rest =>
    unfold bestDark
    split
    · simp
    · split <;> simp

theorem reuse_eq_none {s : State} {p : DarkParams} {k : Fin 16} {time : Nat} (h : integrationOf (s.frame k) time) :
    s.reuse p k = none ↔ ∀ j, ¬ Matches p (s.frame j) (s.frame k) := by
  unfold State.reuse
  rw [bestDark_eq_none, List.filter_eq_nil_iff]
  simp [darkMatches_iff h]

theorem matches_of_reuse {s : State} {p : DarkParams} {k j : Fin 16} {time : Nat} (h : integrationOf (s.frame k) time)
    (hj : s.reuse p k = some j) : Matches p (s.frame j) (s.frame k) :=
  (darkMatches_iff h).1 (List.mem_filter.1 (bestDark_mem hj)).2

/-! ### What a dark decision leaves of its light record -/

/-- The light record keeps what the decision is made by: flags may be added only of the decision itself. -/
structure Carried (f g : Frame) : Prop where
  state : g.state = f.state
  blacks : g.blacks = f.blacks
  start : g.integStart = f.integStart
  stop : g.integEnd = f.integEnd
  flags : ∀ x, x ≠ .darkMissing → hasFlag g.flags x = hasFlag f.flags x

theorem Carried.trans {f g h : Frame} (a : Carried f g) (b : Carried g h) : Carried f h where
  state := b.state.trans a.state
  blacks := b.blacks.trans a.blacks
  start := b.start.trans a.start
  stop := b.stop.trans a.stop
  flags x hx := (b.flags x hx).trans (a.flags x hx)

theorem Carried.matches_iff {f g dark : Frame} {p : DarkParams} (h : Carried f g) : Matches p dark g ↔ Matches p dark f := by
  unfold Matches integrationOf
  rw [h.blacks, h.start, h.stop]

theorem Carried.needs_iff {f g : Frame} {p : DarkParams} {time : Nat} (h : Carried f g) (hf : integrationOf f time) :
    (p.autoDark = true ∧ ((p.threshold ≠ 0 ∧ p.threshold * 1000 ≤ time) ∨ hasFlag g.flags .highBlack = true))
      ↔ needsDark p f = true := by
  unfold needsDark
  simp only [h.flags .highBlack nofun, integrated_of hf, Bool.and_eq_true, Bool.or_eq_true, decide_eq_true_eq]

/-- The dark that the decision finds in the store (R105, R107). -/
def State.storedDark (s : State) (p : DarkParams) (k : Fin 16) : Option (Fin 16) :=
  if hasFlag (s.frame k).flags .drift then none else s.reuse p k

theorem Carried.found_iff {s : State} {k : Fin 16} {g : Frame} {p : DarkParams} {time : Nat} (h : Carried (s.frame k) g)
    (hf : integrationOf (s.frame k) time) :
    (hasFlag g.flags .drift = false ∧ ∃ j, Matches p (s.frame j) g) ↔ s.storedDark p k ≠ none := by
  unfold State.storedDark
  rw [h.flags .drift nofun]
  cases hasFlag (s.frame k).flags .drift with
  | true => simp
  | false => simp [h.matches_iff, reuse_eq_none hf]

theorem matches_of_storedDark {s : State} {p : DarkParams} {k j : Fin 16} {time : Nat} (h : integrationOf (s.frame k) time)
    (hj : s.storedDark p k = some j) : Matches p (s.frame j) (s.frame k) := by
  unfold State.storedDark at hj
  split at hj
  · cases hj
  · exact matches_of_reuse h hj

/-! ### The decision's four outcomes (R103 to R107, R115) -/

section outcomes
variable {p : DarkParams} {id : Word} {k : Fin 16} {u : State} (c : Bool)

theorem decideDark_needless (hk : u.find id = some k) (hn : needsDark p (u.frame k) = false) :
    decideDark id p c u = (settleDark id .none u, none) := by
  unfold decideDark
  simp [hk, hn]

theorem decideDark_stored (hk : u.find id = some k) (hn : needsDark p (u.frame k) = true) {j : Fin 16}
    (hj : u.storedDark p k = some j) : decideDark id p c u = (linkDark id (u.frame j).id u, none) := by
  unfold State.storedDark at hj
  unfold decideDark
  simp only [hk, hn, hj]
  rfl

theorem decideDark_new (hk : u.find id = some k) (hn : needsDark p (u.frame k) = true) (hj : u.storedDark p k = none) :
    decideDark id p c u
      = if c then orderDark id (u.frame k).integrated 0 (settleDark id .pending u) else (darkMissing id u, none) := by
  unfold State.storedDark at hj
  unfold decideDark
  simp only [hk, hn, hj]
  rfl

end outcomes

end Sys2Proof.Machine

namespace Sys2Proof.Machine

/-! ### What the sequencer does with the dark unit's answer (R72, R81)

It works on itself, the sync input, the driver and what is sent. A dark shot changes besides the record of its own frame,
and no id that names a record ceases to. -/

variable {id : Word} {s t u : State}

/-- Only the sequencer, the sync input, the driver, what is sent and the records differ. -/
def OnlyShot (s t : State) : Prop := t = { s with
  seq := t.seq, sync := t.sync, driver := t.driver, sent := t.sent, store := { s.store with frames := t.store.frames } }

theorem OnlyShot.trans (h : OnlyShot s t) (g : OnlyShot t u) : OnlyShot s u := by
  unfold OnlyShot at *
  rw [g, h]

theorem OnlyShot.dark (h : OnlyShot s t) : t.dark = s.dark := by rw [h]
theorem OnlyShot.req (h : OnlyShot s t) : t.req = s.req := by rw [h]
theorem OnlyShot.lodged (h : OnlyShot s t) : t.store.lodged = s.store.lodged := by rw [h]

/-- What an order of a dark shot fixes of the shot. -/
def Shot.orderKey (h : Shot) : Word × FrameKind × Nat × Bool := (h.id, h.kind, h.duration, h.returnArmed)

/-- The sequencer works on the shot of frame `id`, which stays the one that was ordered. -/
structure ShotWork (id : Word) (s t : State) : Prop where
  only : OnlyShot s t
  finds : ∀ i, t.find i = s.find i
  frames : ∀ j, s.find id ≠ some j → t.frame j = s.frame j
  key : t.seq.shot.map Shot.orderKey = s.seq.shot.map Shot.orderKey

theorem ShotWork.refl (s : State) : ShotWork id s s := ⟨rfl, fun _ => rfl, fun _ _ => rfl, rfl⟩

theorem ShotWork.trans (h : ShotWork id s t) (g : ShotWork id t u) : ShotWork id s u where
  only := h.only.trans g.only
  finds i := (g.finds i).trans (h.finds i)
  frames j hj := (g.frames j (by rwa [h.finds])).trans (h.frames j hj)
  key := g.key.trans h.key

theorem ShotWork.ite {c : Prop} [Decidable c] (h : c → ShotWork id s t) (g : ¬c → ShotWork id s u) :
    ShotWork id s (if c then t else u) := by
  split
  · next hc => exact h hc
  · next hc => exact g hc

/-- Work that leaves the store and the shot alone. -/
theorem shotWork_of_store (only : OnlyShot s t) (store : t.store = s.store) (shot : t.seq.shot = s.seq.shot) :
    ShotWork id s t :=
  ⟨only, find_of_store store, fun j _ => frame_of_store store j, by rw [shot]⟩

theorem shotWork_onShot (f : Shot → Shot) (h : ∀ x, (f x).orderKey = x.orderKey) : ShotWork id s (onShot f s) := by
  refine ⟨rfl, fun i => find_of_store rfl i, fun j _ => rfl, ?_⟩
  change (s.seq.shot.map f).map Shot.orderKey = _
  rw [Option.map_map]
  exact congrArg (Option.map · s.seq.shot) (funext h)

theorem shotWork_report {f : Frame → Frame} (h : ∀ x, ((f x).state ≠ .free ↔ x.state ≠ .free) ∧ (f x).id = x.id) :
    ShotWork id s (report id f s) := by
  refine ⟨by rw [report_eq]; rfl, find_congr_live fun j => ?_, fun j hj => ?_, by rw [report_seq]⟩
  · rw [frame_report]
    split
    · exact h _
    · exact ⟨Iff.rfl, rfl⟩
  · rw [frame_report, if_neg hj]

theorem shotWork_driveOff : ShotWork id s (driveOff s) := by
  rw [driveOff_eq]
  exact shotWork_of_store rfl rfl rfl

theorem shotWork_seqEnter (st : SeqState) : ShotWork id s (seqEnter st s) := by
  rw [seqEnter_eq]
  exact shotWork_of_store rfl rfl rfl

/-- A state is entered with the shot's timers and passes set. -/
theorem shotWork_enter (st : SeqState) (f : Shot → Shot) (h : ∀ x, (f x).orderKey = x.orderKey) :
    ShotWork id s (seqEnter st (onShot f s)) := (shotWork_onShot f h).trans (shotWork_seqEnter st)

theorem shotWork_issueFlush : ShotWork id s (issueFlush s) := shotWork_of_store rfl rfl rfl
theorem shotWork_issueStart : ShotWork id s (issueStart s) := shotWork_of_store rfl rfl rfl
theorem shotWork_issueEnd : ShotWork id s (issueEnd s) := shotWork_of_store rfl rfl rfl
theorem shotWork_clearTarget : ShotWork id s (clearTarget s) := shotWork_of_store rfl rfl rfl

theorem shotWork_endIntegration (h : Shot) : ShotWork h.id s (endIntegration h s) := by
  unfold endIntegration
  extract_lets u v
  have hu : ShotWork h.id s u := shotWork_driveOff.trans shotWork_issueEnd
  have hv : ShotWork h.id u v := shotWork_report fun x => by
    split
    · next hx => simp [hx]
    · exact ⟨Iff.rfl, rfl⟩
  exact ((hu.trans hv).trans shotWork_clearTarget).trans (shotWork_enter _ _ fun _ => rfl)

theorem shotWork_startDark (h : Shot) : ShotWork h.id s (startDark h s) := by
  unfold startDark
  extract_lets u v w
  have hv : ShotWork h.id u v := shotWork_report fun _ => ⟨Iff.rfl, rfl⟩
  have hw : ShotWork h.id v w := shotWork_enter _ _ fun _ => rfl
  refine ((shotWork_issueStart (s := s) : ShotWork h.id s u).trans (hv.trans hw)).trans (.ite (fun _ => ?_) fun _ => .refl w)
  exact shotWork_endIntegration h

/-- The passes of a dark shot, or its integration with no pass (R81). -/
theorem shotWork_beginPasses (hs : ∀ h, s.seq.shot = some h → h.id = id ∧ h.kind = .dark) :
    ShotWork id s (beginPasses s) := by
  unfold beginPasses
  split
  · exact .refl s
  · next h hh =>
    obtain ⟨rfl, hk⟩ := hs h hh
    refine .ite (fun _ => .refl s) fun _ => .ite (fun _ => ?_) fun _ => shotWork_issueFlush
    unfold startIntegration
    rw [if_pos hk]
    exact shotWork_startDark h

theorem orderKey_spec {k : Word × FrameKind × Nat × Bool} (hk : s.seq.shot.map Shot.orderKey = some k) {h : Shot}
    (hh : s.seq.shot = some h) : h.id = k.1 ∧ h.kind = k.2.1 := by
  rw [hh] at hk
  cases hk
  exact ⟨rfl, rfl⟩

theorem shotWork_enterPreparing {d : Nat} {r : Bool} (hs : s.seq.shot.map Shot.orderKey = some (id, .dark, d, r)) :
    ShotWork id s (enterPreparing s) := by
  unfold enterPreparing
  split
  · exact .refl s
  · next h hh =>
    extract_lets check u
    have hu : ShotWork id s u := shotWork_enter _ _ fun _ => rfl
    have hcheck : check = false := by simp [check, (orderKey_spec hs hh).2]
    rw [if_neg (by simp [hcheck])]
    exact hu.trans (shotWork_beginPasses fun g hg => orderKey_spec (hu.key.trans hs) hg)

/-- A dark shot is run as ordered (R81). -/
structure DarkShot (o : DarkOrder) (ret : Bool) (s t : State) : Prop where
  only : OnlyShot s t
  frames : ∀ j, s.find o.id ≠ some j → t.frame j = s.frame j
  key : (t.seq.shot.map fun g => (g.id, g.kind, g.duration, g.returnArmed)) = some (o.id, .dark, o.duration, ret)

theorem runDark_spec (origin : Origin) (ret : Bool) (o : DarkOrder) (s : State) : DarkShot o ret s (runDark origin ret o s) := by
  unfold runDark
  generalize hh : newShot o.id o.slot .dark origin none 0 ret s.setup.exposure o.duration = h
  have key : (makeShot h s).seq.shot.map Shot.orderKey = some (o.id, .dark, o.duration, ret) := by subst hh; rfl
  have only : OnlyShot s (makeShot h s) := rfl
  have work := shotWork_enterPreparing key
  have finds : (makeShot h s).find o.id = s.find o.id := find_of_store rfl o.id
  exact ⟨only.trans work.only, fun j hj => work.frames j (by rwa [finds]), work.key.trans key⟩

/-- The return state entered (R72). -/
theorem enterReturn_spec (h : Shot) (s : State) : OnlyShot s (enterReturn h s) ∧ (enterReturn h s).store = s.store
    ∧ (enterReturn h s).seq.shot = none ∧ (enterReturn h s).seq.state = if h.returnArmed then .armed else .idle := by
  unfold enterReturn
  extract_lets u
  split
  · rw [enterArmed_eq, seqEnter_eq]
    exact ⟨rfl, rfl, rfl, rfl⟩
  · rw [seqEnter_eq]
    exact ⟨rfl, rfl, rfl, rfl⟩

end Sys2Proof.Machine

namespace Sys2Proof.Machine

/-! ### The dark decision of a completed light frame (R103 to R107, R115) -/

variable {id : Word} {s t u v : State} {p : DarkParams} {k : Fin 16} {time : Nat}

/-! #### Causes -/

/-- The cause is in the set. -/
def State.Raised (s : State) (c : Cause) : Prop := s.req.causes.getLsbD c.position = true

theorem raised_raise (c : Cause) (s : State) : (raise c s).Raised c := by
  have : c.bit.getLsbD c.position = true := by cases c <;> decide
  simp [State.Raised, BitVec.getLsbD_or, this]

theorem State.Raised.raise {d : Cause} (h : s.Raised d) (c : Cause) : (raise c s).Raised d := by
  unfold State.Raised at *
  simp [BitVec.getLsbD_or, h]

theorem State.Raised.congr {c : Cause} (h : s.Raised c) (e : t.req.causes = s.req.causes) : t.Raised c := by
  unfold State.Raised
  rwa [e]

/-! #### Records that no allocation takes -/

theorem not_inGroup_of_blocked {g : Nat} (hb : (s.frame k).blocked = true) (hf : (s.frame k).state ≠ .free) :
    ¬ InGroup s g k := by
  simp [InGroup, hb, hf]

/-- Two states have the same candidates when they differ in one record, which neither of them offers. -/
theorem inGroup_congr (layout : t.store.layout = s.store.layout) (setup : t.setup = s.setup)
    (others : ∀ j, j ≠ k → t.frame j = s.frame j) (hs : ∀ g, ¬ InGroup s g k) (ht : ∀ g, ¬ InGroup t g k) (g : Nat)
    (j : Fin 16) : InGroup t g j ↔ InGroup s g j := by
  by_cases hj : j = k
  · subst hj
    exact ⟨fun h => absurd h (ht g), fun h => absurd h (hs g)⟩
  · unfold InGroup
    rw [layout, setup, others j hj]

theorem blocked_of_await {f : Frame} (h : f.awaitDark = true) : f.blocked = true := by simp [Frame.blocked, h]
theorem blocked_of_pending {f : Frame} (h : f.darkState = .pending) : f.blocked = true := by simp [Frame.blocked, h]

/-! #### The decision as the statement reads it -/

section decided
variable {left ordered : Prop} (hi : integrationOf (u.frame k) time) (hc : Carried (u.frame k) (t.frame k))
  (ha : (t.frame k).awaitDark = false)
include hi hc ha

theorem darkDecided_needless (hn : needsDark p (u.frame k) = false) (hd : (t.frame k).darkState = .none) (hl : left) :
    DarkDecided p k time u t left ordered := by
  have needless := mt (hc.needs_iff (p := p) hi).1 (by simp [hn])
  exact ⟨ha, fun _ => ⟨hd, hl⟩, fun h => absurd h needless, fun h => absurd h needless⟩

theorem darkDecided_stored (hn : needsDark p (u.frame k) = true) {j : Fin 16} (hj : u.storedDark p k = some j)
    (hd : (t.frame k).darkState = .linked (u.frame j).id) (hu : (t.frame j).darkUsers = (u.frame j).darkUsers + 1)
    (hl : left) : DarkDecided p k time u t left ordered := by
  have needs := (hc.needs_iff (p := p) hi).2 hn
  have found := (hc.found_iff (p := p) hi).2 (by simp [hj])
  exact ⟨ha, fun h => absurd needs h, fun _ _ => ⟨hl, j, hc.matches_iff.2 (matches_of_storedDark hi hj), hd, hu⟩,
    fun _ h => absurd found h⟩

theorem darkDecided_new (hn : needsDark p (u.frame k) = true) (hj : u.storedDark p k = none) (ho : ordered) :
    DarkDecided p k time u t left ordered := by
  have needs := (hc.needs_iff (p := p) hi).2 hn
  have found := mt (hc.found_iff (p := p) hi).1 (not_not.2 hj)
  exact ⟨ha, fun h => absurd needs h, fun _ h => absurd h found, fun _ _ => ho⟩

end decided

/-! #### The light record after each outcome -/

theorem settleDark_frame (id : Word) (d : DarkState) (hk : u.find id = some k) (j : Fin 16) :
    (settleDark id d u).frame j = if j = k then { u.frame k with darkState := d, awaitDark := false } else u.frame j := by
  unfold settleDark
  rw [frame_report, hk]
  by_cases h : j = k
  · subst h; simp
  · simp [h, Ne.symm h]

theorem darkMissing_frame (id : Word) (hk : u.find id = some k) : (darkMissing id u).frame k
    = { u.frame k with darkState := .missing, awaitDark := false, flags := (u.frame k).flags ||| Flag.darkMissing.bit } := by
  unfold darkMissing
  rw [frame_report, if_pos hk]
  rfl

/-- A record with another dark state, undecided no more. -/
theorem carried_settled {f g : Frame} {d : DarkState} {a : Nat} {n : Nat}
    (h : g = { f with darkState := d, awaitDark := false, age := a, darkUsers := n }) : Carried f g := by
  subst h
  exact ⟨rfl, rfl, rfl, rfl, fun _ _ => rfl⟩

theorem carried_missing {f g : Frame}
    (h : g = { f with darkState := .missing, awaitDark := false, flags := f.flags ||| Flag.darkMissing.bit }) :
    Carried f g := by
  subst h
  exact ⟨rfl, rfl, rfl, rfl, fun x hx => (hasFlag_withFlag f _ x).trans (by simp [Ne.symm hx])⟩

theorem hasFlag_missing {f g : Frame}
    (h : g = { f with darkState := .missing, awaitDark := false, flags := f.flags ||| Flag.darkMissing.bit }) :
    hasFlag g.flags .darkMissing = true := by
  subst h
  exact (hasFlag_withFlag f .darkMissing .darkMissing).trans (by simp)

/-- Only what a decision works on differs: the records, the store's counter and lodged link, the dark unit, the causes,
and what the sequencer does with the answer. -/
def DecisionWork (s t : State) : Prop := t = { s with
  seq := t.seq, sync := t.sync, driver := t.driver, sent := t.sent, dark := t.dark
  store := { s.store with frames := t.store.frames, nextId := t.store.nextId, lodged := t.store.lodged }
  req := { s.req with causes := t.req.causes } }

theorem DecisionWork.refl (s : State) : DecisionWork s s := rfl

theorem DecisionWork.trans (h : DecisionWork s t) (g : DecisionWork t u) : DecisionWork s u := by
  unfold DecisionWork at *
  rw [g, h]

theorem DecisionWork.readout (h : DecisionWork s t) : t.readout = s.readout := by rw [h]
theorem DecisionWork.handoffs (h : DecisionWork s t) : t.handoffs = s.handoffs := by rw [h]
theorem DecisionWork.inReset (h : DecisionWork s t) : t.inReset = s.inReset := by rw [h]
theorem DecisionWork.clock (h : DecisionWork s t) : t.clock = s.clock := by rw [h]
theorem DecisionWork.pending (h : DecisionWork s t) : t.pending = s.pending := by rw [h]

theorem OnlyShot.decisionWork (h : OnlyShot s t) : DecisionWork s t := by
  unfold DecisionWork
  rw [h]

theorem OnlyFrames.decisionWork (h : OnlyFrames s t) : DecisionWork s t := by
  unfold DecisionWork
  rw [h]
  rfl

/-- What every decision leaves: its record as it completed, decided, and the causes that were raised. -/
structure Decision (k : Fin 16) (u t : State) : Prop where
  work : DecisionWork u t
  carried : Carried (u.frame k) (t.frame k)
  decided : (t.frame k).awaitDark = false
  raised : ∀ c, u.Raised c → t.Raised c

/-- What the sequencer does with the answer leaves the decision. -/
theorem Decision.andThen (d : Decision k u v) (only : OnlyShot v t) (frame : t.frame k = v.frame k) : Decision k u t where
  work := d.work.trans only.decisionWork
  carried := frame ▸ d.carried
  decided := frame ▸ d.decided
  raised c h := (d.raised c h).congr (by rw [only.req])

/-- A light frame that became COMPLETE and is undecided, in a table whose ids name their records. -/
structure Undecided (f : ReadoutFrame) (k : Fin 16) (time : Nat) (u : State) : Prop where
  find : u.find f.id = some k
  light : (u.frame k).kind = .light
  complete : (u.frame k).state = .complete
  awaits : (u.frame k).awaitDark = true
  integrated : integrationOf (u.frame k) time
  names : ∀ j, (u.frame j).state ≠ .free → u.find (u.frame j).id = some j

/-- The sequencer has left the shot (R72). -/
def ReturnedFrom (h : Shot) (t : State) : Prop := t.seq.shot = none ∧ t.seq.state = if h.returnArmed then .armed else .idle

section outcomes
variable {f : ReadoutFrame} (hu : Undecided f k time u)
include hu

theorem Undecided.live : (u.frame k).state ≠ .free := by simp [hu.complete]

theorem Undecided.settled_frame (d : DarkState) (j : Fin 16) : (settleDark f.id d u).frame j
    = if j = k then { u.frame k with darkState := d, awaitDark := false } else u.frame j := settleDark_frame f.id d hu.find j

theorem Undecided.decision_settled (d : DarkState) : Decision k u (settleDark f.id d u) := by
  have frame := (hu.settled_frame d k).trans (if_pos rfl)
  have only : OnlyFrames u (settleDark f.id d u) := report_onlyFrames _ _ _
  exact ⟨only.decisionWork, carried_settled frame, by rw [frame], fun c h => h.congr (by rw [only]; rfl)⟩

theorem Undecided.decision_missing : Decision k u (darkMissing f.id u) := by
  have frame := darkMissing_frame f.id hu.find
  have only : OnlyFrames u (darkMissing f.id u) := report_onlyFrames _ _ _
  exact ⟨only.decisionWork, carried_missing frame, by rw [frame], fun c h => h.congr (by rw [only]; rfl)⟩

/-- A stored dark is linked: the light record, the dark's users, and nothing else of the two. -/
theorem Undecided.linked {j : Fin 16} (hj : u.storedDark p k = some j) :
    Decision k u (linkDark f.id (u.frame j).id u)
      ∧ ((linkDark f.id (u.frame j).id u).frame k).darkState = .linked (u.frame j).id
      ∧ ((linkDark f.id (u.frame j).id u).frame j).darkUsers = (u.frame j).darkUsers + 1 := by
  obtain ⟨state, kind, -⟩ := matches_of_storedDark hu.integrated hj
  have find : u.find (u.frame j).id = some j := hu.names j (by simp [state])
  have frame := linkDark_frame f.id (u.frame j).id u k
  have dark := linkDark_frame f.id (u.frame j).id u j
  have only := linkDark_onlyFrames f.id (u.frame j).id u
  rw [if_pos hu.find, if_pos hu.find] at frame
  rw [if_pos find] at dark
  refine ⟨⟨only.decisionWork, carried_settled frame, by rw [frame], fun c h => h.congr (by rw [only]; rfl)⟩, ?_, ?_⟩
  · rw [frame]
  · rw [dark]

end outcomes

end Sys2Proof.Machine

namespace Sys2Proof.Machine

/-! ### A new dark is ordered (R107) -/

variable {s t u v : State} {k : Fin 16} {time : Nat}

/-- The state in which the dark of a light frame has its slot: recorded in the job and lodged with the store. -/
def orderedState (light : Word) (duration : Nat) (g : Nat) (j : Fin 16) (s : State) : State :=
  ((fillSlot j s.freshId .dark .autoDark none (reclaim g j s)).onDark fun _ =>
    ⟨some ⟨some light, duration, s.freshId, 0⟩⟩).onStore fun t => { t with lodged := some (s.freshId, light) }

theorem orderDark_of_candidate {g : Nat} {j : Fin 16} (h : v.candidate = some (g, j)) (light : Word) (duration : Nat) :
    orderDark light duration 0 v = (orderedState light duration g j v, some ⟨v.freshId, j, duration⟩) := by
  unfold orderDark
  rw [allocate_of_candidate _ _ _ h]
  rfl

theorem orderDark_of_none (h : v.candidate = none) (light : Word) (duration : Nat) :
    orderDark light duration 0 v = (endDarkJob (darkMissing light (raise .storeFull v)), none) := by
  unfold orderDark
  rw [allocate_of_none _ _ _ h]

theorem orderedState_work (light : Word) (duration : Nat) (g : Nat) (j : Fin 16) (s : State) :
    DecisionWork s (orderedState light duration g j s) := by
  unfold DecisionWork orderedState
  rw [fillSlot_reclaim_eq]
  rfl

theorem orderedState_raised {c : Cause} (h : s.Raised c) (light : Word) (duration : Nat) (g : Nat) (j : Fin 16) :
    (orderedState light duration g j s).Raised c := by
  have causes : (orderedState light duration g j s).req.causes
      = if g = 5 then s.req.causes ||| Cause.overwritten.bit else s.req.causes := fillSlot_reclaim_causes g j s.freshId .dark .autoDark none s
  by_cases hg : g = 5
  · exact (h.raise .overwritten).congr (by rw [causes, if_pos hg]; rfl)
  · exact h.congr (by rw [causes, if_neg hg])

/-- A record that the allocation does not take keeps all but its age rank and its dark users. -/
theorem orderedState_frame {g : Nat} {j : Fin 16} (h : v.candidate = some (g, j)) (hk : k ≠ j) (light : Word)
    (duration : Nat) : ∃ a n, (orderedState light duration g j v).frame k = { v.frame k with age := a, darkUsers := n } := by
  have frame : (orderedState light duration g j v).frame k
      = (fillSlot j v.freshId .dark .autoDark none (reclaim g j v)).frame k := rfl
  rw [frame, fillSlot_frame, if_neg hk, reclaim_frame_other h hk]
  exact ⟨_, _, rfl⟩

theorem carried_ordered {f x : Frame} {a n : Nat} (h : x = { f with age := a, darkUsers := n }) : Carried f x := by
  subst h
  exact ⟨rfl, rfl, rfl, rfl, fun _ _ => rfl⟩

section ordered
variable {f : ReadoutFrame} (hu : Undecided f k time u)
include hu

/-- While it is PENDING the light record is no more a candidate than while it awaited its decision. -/
theorem Undecided.inGroup_pending (g : Nat) (j : Fin 16) : InGroup (settleDark f.id .pending u) g j ↔ InGroup u g j := by
  have only : OnlyFrames u (settleDark f.id .pending u) := report_onlyFrames _ _ _
  have frame := hu.settled_frame .pending
  refine inGroup_congr (k := k) (by rw [only]; rfl) (by rw [only]; rfl) (fun i hi => (frame i).trans (if_neg hi))
    (fun g => not_inGroup_of_blocked (blocked_of_await hu.awaits) hu.live)
    (fun g => not_inGroup_of_blocked ?_ ?_) g j
  · rw [frame, if_pos rfl]
    exact blocked_of_pending rfl
  · rw [frame, if_pos rfl]
    exact hu.live

/-- The slot found for the dark is not that of the light record, which keeps what the decision made of it. -/
theorem Undecided.ordered (h0 : u.store.nextId ≠ 0) {g : Nat} {j : Fin 16}
    (hc : (settleDark f.id .pending u).candidate = some (g, j)) (duration : Nat) :
    let v := settleDark f.id .pending u
    let w := orderedState f.id duration g j v
    Decision k u w ∧ (w.frame k).darkState = .pending ∧ v.freshId ≠ 0 ∧ w.find v.freshId ≠ some k := by
  intro v w
  have only : OnlyFrames u v := report_onlyFrames _ _ _
  have pending : v.frame k = { u.frame k with darkState := .pending, awaitDark := false } :=
    (hu.settled_frame .pending k).trans (if_pos rfl)
  have live : (v.frame k).state ≠ .free := by rw [pending]; exact hu.live
  have nextId : v.store.nextId ≠ 0 := by rw [only]; exact h0
  have other : k ≠ j := by
    rintro rfl
    refine not_inGroup_of_blocked (g := g) ?_ live (inGroup_iff.2 (candidate_spec hc).1)
    rw [pending]
    exact blocked_of_pending rfl
  obtain ⟨a, n, frame⟩ := orderedState_frame hc other f.id duration
  have decision := hu.decision_settled .pending
  refine ⟨⟨decision.work.trans (orderedState_work _ _ _ _ _), decision.carried.trans (carried_ordered frame), ?_,
    fun c h => orderedState_raised (decision.raised c h) _ _ _ _⟩, ?_, freshId_ne_zero nextId, fun hf => ?_⟩
  · rw [frame, pending]
  · rw [frame, pending]
  · obtain ⟨-, -, hid⟩ := find_spec hf
    rw [frame] at hid
    exact freshId_not_held nextId k live hid

/-- With no slot the light record is MISSING and STORE_FULL raised. -/
theorem Undecided.unordered :
    let w := endDarkJob (darkMissing f.id (raise .storeFull (settleDark f.id .pending u)))
    Decision k u w ∧ w.dark.job = none ∧ (w.frame k).darkState = .missing ∧ hasFlag (w.frame k).flags .darkMissing = true
      ∧ w.Raised .storeFull := by
  intro w
  set v := raise .storeFull (settleDark f.id .pending u) with hv
  have decision := hu.decision_settled .pending
  have find : v.find f.id = some k := (settleDark_find f.id .pending u f.id).trans hu.find
  have frame : w.frame k = _ := darkMissing_frame f.id find
  have carried : Carried (u.frame k) (v.frame k) := decision.carried
  have only : OnlyFrames v (darkMissing f.id v) := report_onlyFrames _ _ _
  have work : DecisionWork v w := only.decisionWork.trans rfl
  have causes : w.req.causes = v.req.causes := (congrArg (·.req.causes) only).trans rfl
  refine ⟨⟨(decision.work.trans rfl : DecisionWork u v).trans work, carried.trans (carried_missing frame), ?_,
    fun c h => ((decision.raised c h).raise .storeFull).congr causes⟩, rfl, ?_, hasFlag_missing frame,
    (raised_raise .storeFull _).congr causes⟩
  · rw [frame]
  · rw [frame]

end ordered

/-! ### The decision made while the sequencer is in the shot (R72, R103 to R107) -/

theorem shotOf_eq {id : Word} {h : Shot} (hs : u.seq.shot = some h) (hid : h.id = id) : u.shotOf id = some h := by
  simp [State.shotOf, hs, hid, Option.filter]

theorem lightCompleted_shot {f : ReadoutFrame} {h : Shot} (hs : u.seq.shot = some h) (hid : h.id = f.id) :
    lightCompleted f u = takeOrder h (decideDark f.id f.dark true u).2 (decideDark f.id f.dark true u).1 := by
  unfold lightCompleted
  rw [shotOf_eq hs hid]
  rfl

theorem lightCompleted_no_shot {f : ReadoutFrame} (hs : ∀ h, u.seq.shot = some h → h.id ≠ f.id) :
    lightCompleted f u = (decideDark f.id f.dark false u).1 := by
  have none : u.shotOf f.id = none := Option.filter_eq_none_iff.2 fun h hh => by simpa using hs h hh
  unfold lightCompleted
  rw [none]
  rfl

/-- The sequencer returns with the decision made. -/
theorem Decision.returned (d : Decision k u v) (h : Shot) : Decision k u (takeOrder h none v)
    ∧ (∀ j, (takeOrder h none v).frame j = v.frame j) ∧ ReturnedFrom h (takeOrder h none v)
    ∧ (takeOrder h none v).dark = v.dark ∧ (takeOrder h none v).req = v.req := by
  obtain ⟨only, store, left⟩ := enterReturn_spec h v
  exact ⟨d.andThen only (frame_of_store store k), fun j => frame_of_store store j, left, only.dark, only.req⟩

theorem Undecided.takes {f : ReadoutFrame} (hu : Undecided f k time u) {h : Shot} (hid : h.id = f.id)
    (h0 : u.store.nextId ≠ 0) (hn : needsDark f.dark (u.frame k) = true) (hj : u.storedDark f.dark k = none) {t : State}
    (ht : t = takeOrder h (orderDark f.id time 0 (settleDark f.id .pending u)).2
      (orderDark f.id time 0 (settleDark f.id .pending u)).1) :
    Decision k u t ∧ DarkDecided f.dark k time u t (ReturnedFrom h t) (DarkOrdered h k time (ReturnedFrom h t) u t) := by
  cases hc : (settleDark f.id .pending u).candidate with
  | none =>
    obtain ⟨decision, job, missing, flag, full⟩ := hu.unordered
    rw [orderDark_of_none hc] at ht
    obtain ⟨decision, frame, left, dark, req⟩ := decision.returned h
    rw [← ht] at decision frame left dark req
    refine ⟨decision, darkDecided_new hu.integrated decision.carried decision.decided hn hj ⟨?_, fun _ => ?_⟩⟩
    · rintro ⟨g, j, hg⟩
      have := candidate_eq_none hc j
      rw [← hu.inGroup_pending, inGroup_iff, this] at hg
      cases hg
    · rw [frame, dark]
      exact ⟨left, job, missing, flag, full.congr (by rw [req])⟩
  | some c =>
    obtain ⟨g, j⟩ := c
    obtain ⟨decision, pending, fresh, find⟩ := hu.ordered h0 hc time
    rw [orderDark_of_candidate hc] at ht
    obtain ⟨only, frames, key⟩ := runDark_spec .autoDark h.returnArmed
      ⟨(settleDark f.id .pending u).freshId, j, time⟩ (orderedState f.id time g j (settleDark f.id .pending u))
    have run : t = runDark .autoDark h.returnArmed _ _ := ht
    rw [← run] at only frames key
    have frame := frames k find
    have decision := decision.andThen only frame
    refine ⟨decision, darkDecided_new hu.integrated decision.carried decision.decided hn hj ⟨fun _ => ?_, fun hnone => ?_⟩⟩
    · refine ⟨_, fresh, by rw [frame]; exact pending, ?_, ?_, key⟩
      · rw [only.dark, hid]; rfl
      · rw [only.lodged, hid]; rfl
    · exact absurd ((hu.inGroup_pending g j).1 (inGroup_iff.2 (candidate_spec hc).1)) (hnone g j)

/-- A light frame's decision with its shot in the sequencer. -/
theorem Undecided.decides {f : ReadoutFrame} (hu : Undecided f k time u) {h : Shot} (hs : u.seq.shot = some h)
    (hid : h.id = f.id) (h0 : u.store.nextId ≠ 0) {t : State} (ht : t = lightCompleted f u) :
    Decision k u t ∧ DarkDecided f.dark k time u t (ReturnedFrom h t) (DarkOrdered h k time (ReturnedFrom h t) u t) := by
  rw [lightCompleted_shot hs hid] at ht
  cases hn : needsDark f.dark (u.frame k) with
  | false =>
    rw [decideDark_needless true hu.find hn] at ht
    obtain ⟨decision, frame, left, -⟩ := (hu.decision_settled .none).returned h
    rw [← ht] at decision frame left
    have settled := (frame k).trans ((hu.settled_frame .none k).trans (if_pos rfl))
    exact ⟨decision, darkDecided_needless hu.integrated decision.carried decision.decided hn (by rw [settled]) left⟩
  | true =>
    cases hj : u.storedDark f.dark k with
    | some j =>
      rw [decideDark_stored true hu.find hn hj] at ht
      obtain ⟨decision, linked, users⟩ := hu.linked hj
      obtain ⟨decision, frame, left, -⟩ := decision.returned h
      rw [← ht] at decision frame left
      exact ⟨decision, darkDecided_stored hu.integrated decision.carried decision.decided hn hj (by rw [frame]; exact linked)
        (by rw [frame]; exact users) left⟩
    | none =>
      rw [decideDark_new true hu.find hn hj, if_pos rfl, integrated_of hu.integrated] at ht
      exact hu.takes hid h0 hn hj ht

/-- A light frame's decision once the sequencer has left its shot (R115). -/
theorem Undecided.decides_alone {f : ReadoutFrame} (hu : Undecided f k time u)
    (hs : ∀ h, u.seq.shot = some h → h.id ≠ f.id) {t : State} (ht : t = lightCompleted f u) :
    Decision k u t ∧ DarkDecided f.dark k time u t True
        ((t.frame k).darkState = .missing ∧ hasFlag (t.frame k).flags .darkMissing = true)
      ∧ OnlyFrames u t := by
  rw [lightCompleted_no_shot hs] at ht
  cases hn : needsDark f.dark (u.frame k) with
  | false =>
    rw [decideDark_needless false hu.find hn] at ht
    replace ht : t = settleDark f.id .none u := ht
    have decision := hu.decision_settled .none
    have frame := (hu.settled_frame .none k).trans (if_pos rfl)
    have only : OnlyFrames u (settleDark f.id .none u) := report_onlyFrames _ _ _
    rw [← ht] at decision frame only
    exact ⟨decision, darkDecided_needless hu.integrated decision.carried decision.decided hn (by rw [frame]) trivial, only⟩
  | true =>
    cases hj : u.storedDark f.dark k with
    | some j =>
      rw [decideDark_stored false hu.find hn hj] at ht
      replace ht : t = linkDark f.id (u.frame j).id u := ht
      obtain ⟨decision, linked, users⟩ := hu.linked hj
      have only := linkDark_onlyFrames f.id (u.frame j).id u
      rw [← ht] at decision linked users only
      exact ⟨decision, darkDecided_stored hu.integrated decision.carried decision.decided hn hj linked users trivial, only⟩
    | none =>
      rw [decideDark_new false hu.find hn hj] at ht
      have decision := hu.decision_missing
      have frame := darkMissing_frame f.id hu.find
      have only : OnlyFrames u (darkMissing f.id u) := report_onlyFrames _ _ _
      replace ht : t = darkMissing f.id u := ht
      rw [← ht] at decision frame only
      refine ⟨decision, darkDecided_new hu.integrated decision.carried decision.decided hn hj ⟨?_, ?_⟩, only⟩
      · rw [frame]
      · exact hasFlag_missing frame

end Sys2Proof.Machine

namespace Sys2Proof.Machine

/-! ### What the rows' way into the store leaves (R88 to R90, R93)

Bursts, the develop engine and the card engine follow the rows; of the records only the one in readout changes, in its
rows and bad rows. -/

variable {id : Word} {s t u : State}

/-- Only the memory path, DRAM, the develop and the card engine, and what is sent differ. -/
def OnlyData (s t : State) : Prop :=
  t = { s with path := t.path, dram := t.dram, develop := t.develop, card := t.card, sent := t.sent }

theorem OnlyData.refl (s : State) : OnlyData s s := rfl

theorem OnlyData.trans (h : OnlyData s t) (g : OnlyData t u) : OnlyData s u := by
  unfold OnlyData at *
  rw [g, h]

theorem OnlyData.ite {c : Prop} [Decidable c] (h : c → OnlyData s t) (g : ¬c → OnlyData s u) :
    OnlyData s (if c then t else u) := by
  split
  · next hc => exact h hc
  · next hc => exact g hc

theorem OnlyMemory.data (h : OnlyMemory s t) : OnlyData s t := by
  unfold OnlyData
  rw [h]

theorem onlyData_foldl {α : Type} {f : State → α → State} (h : ∀ s a, OnlyData s (f s a)) (l : List α) (s : State) :
    OnlyData s (l.foldl f s) := by
  induction l generalizing s with
  | nil => exact .refl s
  | cons a l ih => exact (h s a).trans (ih (f s a))

theorem onlyData_issue (c : RotClient) (bs : List Burst) (s : State) : OnlyData s (issue c bs s) := rfl
theorem onlyData_onPath (f : MemPath → MemPath) (s : State) : OnlyData s (s.onPath f) := rfl
theorem onlyData_onCard (f : CardEngine → CardEngine) (s : State) : OnlyData s (s.onCard f) := rfl
theorem onlyData_onDevelop (f : Develop → Develop) (s : State) : OnlyData s (s.onDevelop f) := rfl
theorem onlyData_send (x : Signal) (s : State) : OnlyData s (s.send x) := rfl
theorem onlyData_drain (c : RotClient) (s : State) : OnlyData s (drain c s) := (drain_onlyMemory s c).data
theorem onlyData_drainReadout (s : State) : OnlyData s (drainReadout s) := (grantUntil_onlyMemory s _ _).data

theorem onlyData_finishRead (byteOf : State → Service → Nat → Byte) (s : State) : OnlyData s (finishRead byteOf s) := by
  unfold finishRead
  split
  · exact .refl s
  · exact (onlyData_drain .processor s).trans (((onlyData_onPath _ _).trans (onlyData_onDevelop _ _)).trans (onlyData_send _ _))

theorem onlyData_completeRead (s : State) : OnlyData s (completeRead s) :=
  (onlyData_drain .develop s).trans (onlyData_finishRead _ _)

theorem onlyData_developRows (rows : Nat) (s : State) : OnlyData s (developRows id rows s) := by
  unfold developRows
  extract_lets u
  have hu : OnlyData s u := onlyData_foldl (fun s v => .ite (fun _ => onlyData_onDevelop _ s) fun _ => .refl s) viewIndices s
  refine hu.trans ?_
  split
  · exact .ite (fun _ => (onlyData_issue _ _ u).trans (onlyData_completeRead _)) fun _ => .refl u
  · exact .refl u

theorem onlyData_startSector (j : Job) (s : State) : OnlyData s (startSector j s) := by
  unfold startSector fetchSector
  exact .ite (fun _ => (onlyData_onCard _ s).trans (onlyData_issue _ _ _)) fun _ => onlyData_onCard _ s

theorem onlyData_prefetchSector (s : State) : OnlyData s (prefetchSector s) := by
  unfold prefetchSector fetchSector
  split
  · exact .ite (fun _ => (onlyData_onCard _ s).trans (onlyData_issue _ _ _)) fun _ => .refl s
  · exact .refl s

theorem onlyData_cardRows (rows : Nat) (s : State) : OnlyData s (cardRows id rows s) := by
  unfold cardRows
  split
  · exact .refl s
  · refine .ite (fun _ => ?_) fun _ => .refl s
    extract_lets u
    refine (onlyData_onCard _ s : OnlyData s u).trans ?_
    split
    · exact .ite (fun _ => onlyData_startSector _ u) fun _ => onlyData_prefetchSector u
    · exact .refl u

theorem onlyData_takeRead (addr len : Nat) (s : State) : OnlyData s (takeRead addr len s) := by
  unfold takeRead
  extract_lets sv u
  refine (onlyData_issue _ _ s : OnlyData s u).trans (.ite (fun _ => ?_) fun _ => onlyData_onDevelop _ u)
  exact (onlyData_issue _ _ u).trans (onlyData_onDevelop _ _)

theorem onlyData_takeWrite (w : DecodedWrite) (s : State) : OnlyData s (takeWrite w s) := by
  unfold takeWrite
  exact (onlyData_issue _ _ s).trans (onlyData_onPath _ _)

theorem onlyData_takeTransactions (l : List PortTxn) (s : State) : OnlyData s (takeTransactions l s) := by
  induction l generalizing s with
  | nil => exact onlyData_onPath _ s
  | cons x l ih =>
    cases x with
    | write w => exact (onlyData_takeWrite w s).trans (ih _)
    | read addr len => exact (onlyData_onPath _ s).trans (onlyData_takeRead _ _ _)

theorem onlyData_pump (s : State) : OnlyData s (pump s) := by
  unfold pump
  split
  · exact .refl s
  · exact onlyData_takeTransactions _ s

/-- The rows of frame `id` reach the store: besides what the data's way touches, the unit's count and rows in flight, and
what the record says of its rows. -/
structure RowWork (id : Word) (s t : State) : Prop where
  only : t = { s with
    path := t.path, dram := t.dram, develop := t.develop, card := t.card, sent := t.sent
    store := { s.store with frames := t.store.frames }
    readout := { s.readout with stored := t.readout.stored, inFlight := t.readout.inFlight } }
  others : ∀ j, s.find id ≠ some j → t.frame j = s.frame j
  own : ∀ j, t.frame j = { s.frame j with
    rowsStored := (t.frame j).rowsStored, badRows := (t.frame j).badRows, firstBad := (t.frame j).firstBad }

theorem RowWork.finds (h : RowWork id s t) (i : Word) : t.find i = s.find i :=
  find_congr (fun j => by rw [h.own j]; exact ⟨rfl, rfl⟩) i

theorem RowWork.trans (h : RowWork id s t) (g : RowWork id t u) : RowWork id s u where
  only := by rw [g.only, h.only]
  others j hj := (g.others j (by rwa [h.finds])).trans (h.others j hj)
  own j := by rw [g.own j, h.own j]

theorem OnlyData.rows (h : OnlyData s t) : RowWork id s t := by
  have frame : ∀ j, t.frame j = s.frame j := frame_of_store (by rw [h])
  exact ⟨by rw [h], fun j _ => frame j, fun j => by rw [frame]⟩

theorem RowWork.refl (s : State) : RowWork id s s := (OnlyData.refl s).rows

theorem rowWork_count (stored : Nat) (rest : List RowReport) (s : State) :
    RowWork id s (s.onReadout fun u => { u with stored := stored, inFlight := rest }) := ⟨rfl, fun _ _ => rfl, fun _ => rfl⟩

theorem rowWork_report (stored badRows : Nat) (firstBad : Option Nat) (s : State) : RowWork id s
    (report id (fun x => { x with rowsStored := stored, badRows := badRows, firstBad := firstBad }) s) := by
  refine ⟨by rw [report_eq], fun j hj => by rw [frame_report, if_neg hj], fun j => ?_⟩
  rw [frame_report]
  split <;> rfl

theorem rowWork_storeRow {f : ReadoutFrame} (hf : s.readout.frame = some f) : RowWork f.id s (storeRow s) := by
  unfold storeRow
  split
  · next g r rest hg hr =>
    obtain rfl : f = g := Option.some.inj (hf.symm.trans hg)
    extract_lets stored u v
    have hu : RowWork f.id s u := rowWork_count _ _ s
    have hv : RowWork f.id u v := rowWork_report _ _ _ u
    exact (hu.trans hv).trans ((onlyData_developRows _ v).trans (onlyData_cardRows _ _)).rows
  · exact .refl s

theorem RowWork.readout_frame (h : RowWork id s t) : t.readout.frame = s.readout.frame := by rw [h.only]

theorem rowWork_storeRows {f : ReadoutFrame} (n : Nat) (hf : s.readout.frame = some f) : RowWork f.id s (storeRows n s) := by
  induction n generalizing s with
  | zero => exact .refl s
  | succ n ih =>
    have first := rowWork_storeRow hf
    exact first.trans (ih (first.readout_frame.trans hf))

theorem rowWork_finishRows {f : ReadoutFrame} (hf : s.readout.frame = some f) : RowWork f.id s (finishRows s) := by
  have drained : RowWork f.id s (drainReadout s) := (onlyData_drainReadout s).rows
  exact drained.trans (rowWork_storeRows _ (drained.readout_frame.trans hf))

end Sys2Proof.Machine

namespace Sys2Proof.Machine

/-! ### A light frame's end, from the state of the step's begin to the state that it answers -/

variable {s t u v e : State} {k : Fin 16} {time : Nat} {f : ReadoutFrame} {b : Blacks} {flags : List Flag}

/-! #### What follows the effect of a step -/

/-- The second state shows the outcome of the first: the records, the store, the sequencer, the dark unit, the causes, the
readout unit and the handoffs are the same. -/
structure SameOutcome (t e : State) : Prop where
  store : e.store.frames = t.store.frames ∧ e.store.nextId = t.store.nextId ∧ e.store.lodged = t.store.lodged
  seq : e.seq = t.seq
  dark : e.dark = t.dark
  causes : e.req.causes = t.req.causes
  readout : e.readout = t.readout
  handoffs : e.handoffs = t.handoffs
  lags : e.lags = t.lags
  time : e.clock = t.clock ∧ e.inReset = t.inReset ∧ e.pending = t.pending

theorem SameOutcome.frame (h : SameOutcome t e) (j : Fin 16) : e.frame j = t.frame j := by
  obtain ⟨frames, -, -⟩ := h.store
  exact State.frame_congr e t frames j

theorem SameOutcome.refl (s : State) : SameOutcome s s :=
  ⟨⟨rfl, rfl, rfl⟩, rfl, rfl, rfl, rfl, rfl, rfl, rfl, rfl, rfl⟩

theorem SameOutcome.trans (h : SameOutcome s t) (g : SameOutcome t u) : SameOutcome s u := by
  obtain ⟨frames, nextId, lodged⟩ := h.store
  obtain ⟨frames', nextId', lodged'⟩ := g.store
  obtain ⟨clock, reset, pending⟩ := h.time
  obtain ⟨clock', reset', pending'⟩ := g.time
  exact ⟨⟨frames'.trans frames, nextId'.trans nextId, lodged'.trans lodged⟩, g.seq.trans h.seq, g.dark.trans h.dark,
    g.causes.trans h.causes, g.readout.trans h.readout, g.handoffs.trans h.handoffs, g.lags.trans h.lags,
    clock'.trans clock, reset'.trans reset, pending'.trans pending⟩

theorem sameOutcome_settle (a s : State) : SameOutcome s (settle a s) :=
  ⟨⟨rfl, rfl, rfl⟩, rfl, rfl, rfl, rfl, rfl, rfl, rfl, rfl, rfl⟩

theorem OnlyData.sameOutcome (h : OnlyData s t) : SameOutcome s t := by
  rw [h]
  exact ⟨⟨rfl, rfl, rfl⟩, rfl, rfl, rfl, rfl, rfl, rfl, rfl, rfl, rfl⟩

theorem sameOutcome_answer (a s : State) : SameOutcome s (settle a (pump s)) :=
  (onlyData_pump s).sameOutcome.trans (sameOutcome_settle a _)

theorem ReturnedFrom.congr {h : Shot} (l : ReturnedFrom h t) (o : SameOutcome t e) : ReturnedFrom h e := by
  unfold ReturnedFrom
  rw [o.seq]
  exact l

theorem State.Raised.outcome {c : Cause} (h : t.Raised c) (o : SameOutcome t e) : e.Raised c := h.congr o.causes

theorem DarkDecided.outcome {p : DarkParams} {left left' ordered ordered' : Prop}
    (d : DarkDecided p k time s t left ordered) (o : SameOutcome t e) (hl : left → left') (ho : ordered → ordered') :
    DarkDecided p k time s e left' ordered' := by
  obtain ⟨decided, needless, stored, new⟩ := d
  unfold DarkDecided
  simp only [o.frame]
  refine ⟨decided, fun hn => ?_, fun hn hf => ?_, fun hn hf => ho (new hn hf)⟩
  · obtain ⟨hd, h⟩ := needless hn
    exact ⟨hd, hl h⟩
  · obtain ⟨h, j, hj⟩ := stored hn hf
    exact ⟨hl h, j, hj⟩

theorem DarkOrdered.outcome {h : Shot} {left left' : Prop} (d : DarkOrdered h k time left s t) (o : SameOutcome t e)
    (hl : left → left') : DarkOrdered h k time left' s e := by
  obtain ⟨found, full⟩ := d
  obtain ⟨-, -, lodged⟩ := o.store
  unfold DarkOrdered
  rw [o.frame, o.dark, lodged, o.seq, o.causes]
  refine ⟨found, fun hn => ?_⟩
  obtain ⟨h, rest⟩ := full hn
  exact ⟨hl h, rest⟩

/-! #### What precedes the decision -/

/-- The second state has the table, the layout and the setup of the first, but for what its record `k` holds. -/
structure TableBut (k : Fin 16) (s u : State) : Prop where
  others : ∀ j, j ≠ k → u.frame j = s.frame j
  live : (u.frame k).state ≠ .free ↔ (s.frame k).state ≠ .free
  id : (u.frame k).id = (s.frame k).id
  layout : u.store.layout = s.store.layout
  nextId : u.store.nextId = s.store.nextId
  setup : u.setup = s.setup

theorem TableBut.trans (h : TableBut k s t) (g : TableBut k t u) : TableBut k s u where
  others j hj := (g.others j hj).trans (h.others j hj)
  live := g.live.trans h.live
  id := g.id.trans h.id
  layout := g.layout.trans h.layout
  nextId := g.nextId.trans h.nextId
  setup := g.setup.trans h.setup

theorem TableBut.rows (h : TableBut k s u) (j : Fin 16) :
    ((u.frame j).state ≠ .free ↔ (s.frame j).state ≠ .free) ∧ (u.frame j).id = (s.frame j).id := by
  by_cases hj : j = k
  · rw [hj]
    exact ⟨h.live, h.id⟩
  · rw [h.others j hj]
    exact ⟨Iff.rfl, rfl⟩

theorem TableBut.finds (h : TableBut k s u) (i : Word) : u.find i = s.find i := find_congr_live h.rows i

theorem TableBut.names (h : TableBut k s u) (hn : ∀ j, (s.frame j).state ≠ .free → s.find (s.frame j).id = some j) (j : Fin 16)
    (hj : (u.frame j).state ≠ .free) : u.find (u.frame j).id = some j := by
  obtain ⟨live, id⟩ := h.rows j
  rw [h.finds, id]
  exact hn j (live.1 hj)

/-- A light record is no stored dark. -/
theorem not_matches_of_light {p : DarkParams} {dark light : Frame} (h : dark.kind = .light) : ¬ Matches p dark light :=
  fun hm => by
    obtain ⟨-, kind, -⟩ := hm
    rw [h] at kind
    cases kind

/-- The light record `k` is offered to no allocation. -/
structure Withheld (k : Fin 16) (s : State) : Prop where
  light : (s.frame k).kind = .light
  live : (s.frame k).state ≠ .free
  blocked : (s.frame k).blocked = true

theorem Undecided.withheld (h : Undecided f k time u) : Withheld k u := ⟨h.light, h.live, blocked_of_await h.awaits⟩

section before
variable (h : TableBut k s u) (hs : Withheld k s) (hu : Withheld k u)
include h hs hu

theorem TableBut.matches_iff {p : DarkParams} (g : Frame) (j : Fin 16) : Matches p (u.frame j) g ↔ Matches p (s.frame j) g := by
  by_cases hj : j = k
  · rw [hj]
    exact iff_of_false (not_matches_of_light hu.light) (not_matches_of_light hs.light)
  · rw [h.others j hj]

theorem TableBut.inGroup_iff (g : Nat) (j : Fin 16) : InGroup u g j ↔ InGroup s g j :=
  inGroup_congr h.layout h.setup h.others (fun _ => not_inGroup_of_blocked hs.blocked hs.live)
    (fun _ => not_inGroup_of_blocked hu.blocked hu.live) g j

theorem DarkOrdered.before {h' : Shot} {left : Prop} (d : DarkOrdered h' k time left u t) :
    DarkOrdered h' k time left s t := by
  unfold DarkOrdered at *
  simpa only [h.inGroup_iff hs hu] using d

theorem DarkDecided.before {p : DarkParams} {left ordered ordered' : Prop} (d : DarkDecided p k time u t left ordered)
    (ho : ordered → ordered') : DarkDecided p k time s t left ordered' := by
  obtain ⟨decided, needless, stored, new⟩ := d
  unfold DarkDecided
  simp only [h.matches_iff hs hu] at stored new
  refine ⟨decided, needless, fun hn hf => ?_, fun hn hf => ho (new hn hf)⟩
  obtain ⟨hl, j, hm, hd, users⟩ := stored hn hf
  have hj : j ≠ k := by
    rintro rfl
    exact not_matches_of_light hs.light hm
  rw [h.others j hj] at hd users
  exact ⟨hl, j, hm, hd, users⟩

end before

/-! #### The record's completion (R100 step 3) -/

/-- The light record is COMPLETE and its cause raised. -/
def completedLight (k : Fin 16) (b : Blacks) (flags : List Flag) (u : State) : State :=
  raise .shotDone (u.setFrame k { completed (u.frame k) b flags with awaitDark := true })

/-- The frame in readout as a completion report finds it. -/
structure InReadout (f : ReadoutFrame) (k : Fin 16) (time : Nat) (s : State) : Prop where
  find : s.find f.id = some k
  light : (s.frame k).kind = .light
  readout : (s.frame k).state = .readout
  integrated : integrationOf (s.frame k) time
  names : ∀ j, (s.frame j).state ≠ .free → s.find (s.frame j).id = some j

theorem InReadout.withheld (h : InReadout f k time s) : Withheld k s :=
  ⟨h.light, by simp [h.readout], by simp [Frame.blocked, Frame.inFlight, h.readout]⟩

theorem takeCompletion_light (hu : InReadout f k time u) (b : Blacks) (flags : List Flag) :
    takeCompletion f b flags u = handTo (lightCompleted f) (.completed f) (completedLight k b flags u) := by
  have found : ((u.find f.id).filter fun k => (u.frame k).state == .readout) = some k := by
    simp [hu.find, hu.readout, Option.filter]
  unfold takeCompletion
  rw [found]
  dsimp only
  rw [hu.light, completeRecord_light hu.light]
  rfl

theorem completedLight_frame (k : Fin 16) (b : Blacks) (flags : List Flag) (u : State) (j : Fin 16) :
    (completedLight k b flags u).frame j
      = if j = k then { completed (u.frame k) b flags with awaitDark := true } else u.frame j :=
  State.frame_setFrame u k j _

theorem completedLight_own (k : Fin 16) (b : Blacks) (flags : List Flag) (u : State) :
    (completedLight k b flags u).frame k = { u.frame k with
      state := .complete, blacks := some b, flags := (completed (u.frame k) b flags).flags, awaitDark := true } := by
  rw [completedLight_frame, if_pos rfl, completed_eq]

theorem tableBut_completedLight (hu : InReadout f k time u) (b : Blacks) (flags : List Flag) :
    TableBut k u (completedLight k b flags u) := by
  have frame := completedLight_own k b flags u
  refine ⟨fun j hj => (completedLight_frame k b flags u j).trans (if_neg hj), ?_, by rw [frame], rfl, rfl, rfl⟩
  simp [frame, hu.readout]

theorem InReadout.completes (hu : InReadout f k time u) (b : Blacks) (flags : List Flag) :
    Undecided f k time (completedLight k b flags u) := by
  have frame := completedLight_own k b flags u
  have table := tableBut_completedLight hu b flags
  refine ⟨(table.finds f.id).trans hu.find, ?_, ?_, ?_, ?_, table.names hu.names⟩
  · rw [frame]; exact hu.light
  · rw [frame]
  · rw [frame]
  · rw [frame]; exact hu.integrated

theorem completed_completedLight (k : Fin 16) (b : Blacks) (flags : List Flag) (u : State) :
    Completed b flags (u.frame k) ((completedLight k b flags u).frame k) := by
  rw [completedLight_own]
  exact ⟨rfl, rfl, fun x _ => hasFlag_completed (u.frame k) b flags x⟩

theorem Completed.carried {r g g' : Frame} (h : Completed b flags r g) (c : Carried g g') : Completed b flags r g' := by
  obtain ⟨state, blacks, has⟩ := h
  exact ⟨c.state.trans state, c.blacks.trans blacks, fun x hx => by rw [c.flags x hx]; exact has x hx⟩

theorem raised_completedLight (k : Fin 16) (b : Blacks) (flags : List Flag) (u : State) :
    (completedLight k b flags u).Raised .shotDone := raised_raise _ _

end Sys2Proof.Machine

namespace Sys2Proof.Machine

/-! ### A completion report that reaches the frame store (R100 steps 3 to 6) -/

variable {s t u w e : State} {k : Fin 16} {time : Nat} {f : ReadoutFrame} {b : Blacks} {flags : List Flag}

/-- What the dark decision's state is to the state `s` of the step's begin, up to its record `k`. -/
theorem Undecided.settles (table : TableBut k s w) (hs : Withheld k s) (hw : Undecided f k time w) {h : Shot}
    (hshot : w.seq.shot = some h) (hid : h.id = f.id) (h0 : s.store.nextId ≠ 0) (ht : t = lightCompleted f w)
    (o : SameOutcome t e) :
    Decision k w t ∧ DarkDecided f.dark k time s e (ReturnedFrom h e) (DarkOrdered h k time (ReturnedFrom h e) s e) := by
  obtain ⟨decision, decided⟩ := hw.decides hshot hid (by rw [table.nextId]; exact h0) ht
  have before := decided.before table hs hw.withheld fun d => d.before table hs hw.withheld
  exact ⟨decision, before.outcome o (fun l => l.congr o) fun d => d.outcome o fun l => l.congr o⟩

theorem Undecided.settles_alone (table : TableBut k s w) (hs : Withheld k s) (hw : Undecided f k time w)
    (hshot : ∀ h, w.seq.shot = some h → h.id ≠ f.id) (ht : t = lightCompleted f w) (o : SameOutcome t e) :
    DarkDecided f.dark k time s e True ((e.frame k).darkState = .missing ∧ hasFlag (e.frame k).flags .darkMissing = true)
      ∧ OnlyFrames w t := by
  obtain ⟨-, decided, only⟩ := hw.decides_alone hshot ht
  refine ⟨DarkDecided.outcome (decided.before table hs hw.withheld fun d => d) o (fun l => l) fun d => ?_, only⟩
  rw [o.frame]
  exact d

/-- Between the step's begin and the state `u` that a report reaches, the record `k` changes in its rows alone, and no
other record does. -/
structure Approach (k : Fin 16) (s u : State) : Prop where
  others : ∀ j, j ≠ k → u.frame j = s.frame j
  record : u.frame k = { s.frame k with
    rowsStored := (u.frame k).rowsStored, badRows := (u.frame k).badRows, firstBad := (u.frame k).firstBad }
  store : u.store = { s.store with frames := u.store.frames }
  setup : u.setup = s.setup
  dark : u.dark = s.dark
  causes : u.req.causes = s.req.causes

theorem Approach.table (a : Approach k s u) : TableBut k s u :=
  ⟨a.others, by rw [a.record], by rw [a.record], by rw [a.store], by rw [a.store], a.setup⟩

theorem Approach.flags_eq (a : Approach k s u) : (u.frame k).flags = (s.frame k).flags := by rw [a.record]
theorem Approach.darkState_eq (a : Approach k s u) : (u.frame k).darkState = (s.frame k).darkState := by rw [a.record]

theorem Approach.inReadout (a : Approach k s u) (hs : InReadout f k time s) : InReadout f k time u := by
  refine ⟨(a.table.finds _).trans hs.find, ?_, ?_, ?_, a.table.names hs.names⟩
  · rw [a.record]; exact hs.light
  · rw [a.record]; exact hs.readout
  · rw [a.record]; exact hs.integrated

theorem approach_of_store (store : u.store = s.store) (setup : u.setup = s.setup) (dark : u.dark = s.dark)
    (causes : u.req.causes = s.req.causes) : Approach k s u :=
  ⟨fun j _ => frame_of_store store j, by rw [frame_of_store store], by rw [store], setup, dark, causes⟩

theorem Approach.trans (h : Approach k s t) (g : Approach k t u) : Approach k s u where
  others j hj := (g.others j hj).trans (h.others j hj)
  record := by rw [g.record, h.record]
  store := by rw [g.store, h.store]
  setup := g.setup.trans h.setup
  dark := g.dark.trans h.dark
  causes := g.causes.trans h.causes

theorem Undecided.of_store (hu : Undecided f k time u) (store : w.store = u.store) : Undecided f k time w := by
  have frame := frame_of_store store
  have find := find_of_store store
  refine ⟨(find _).trans hu.find, ?_, ?_, ?_, ?_, fun j hj => ?_⟩
  · rw [frame]; exact hu.light
  · rw [frame]; exact hu.complete
  · rw [frame]; exact hu.awaits
  · rw [frame]; exact hu.integrated
  · rw [frame] at hj ⊢
    exact (find _).trans (hu.names j hj)

theorem Approach.completed (a : Approach k s u) (b : Blacks) (flags : List Flag) :
    Completed b flags (s.frame k) ((completedLight k b flags u).frame k) := by
  obtain ⟨state, blacks, has⟩ := completed_completedLight k b flags u
  exact ⟨state, blacks, fun x hx => by rw [← a.flags_eq]; exact has x hx⟩

section report
variable (hs : InReadout f k time s) (a : Approach k s u) (hh : u.handoffs = [])
include hs a hh

/-- The report and the decision are taken at once. -/
theorem InReadout.ends (hl : u.lags.headD 0 = 0) (h0 : s.store.nextId ≠ 0) {h : Shot} (hshot : u.seq.shot = some h)
    (hid : h.id = f.id) (ht : t = takeCompletion f b flags u) (o : SameOutcome t e) :
    LightEnds f h b flags k time s e ∧ e.readout = u.readout ∧ e.handoffs = []
      ∧ e.clock = u.clock ∧ e.inReset = u.inReset ∧ e.pending = u.pending := by
  have hu := a.inReadout hs
  set x := completedLight k b flags u with hx
  have handoffs : x.handoffs = [] := hh
  have lags : x.lags.headD 0 = 0 := hl
  have undecided : Undecided f k time x := hu.completes b flags
  have table : TableBut k s x := a.table.trans (tableBut_completedLight hu b flags)
  have done : Completed b flags (s.frame k) (x.frame k) := a.completed b flags
  have raised : x.Raised .shotDone := raised_completedLight k b flags u
  have shot : x.seq.shot = some h := hshot
  have rest : x.readout = u.readout ∧ x.clock = u.clock ∧ x.inReset = u.inReset ∧ x.pending = u.pending :=
    ⟨rfl, rfl, rfl, rfl⟩
  rw [takeCompletion_light hu, ← hx, handTo_prompt _ _ handoffs lags] at ht
  clear_value x
  obtain ⟨readout, clock, reset, pending⟩ := rest
  set w := { x with lags := x.lags.tail } with hw
  have table' : TableBut k s w := table.trans ⟨fun _ _ => rfl, Iff.rfl, rfl, rfl, rfl, rfl⟩
  have undecided' : Undecided f k time w := undecided.of_store rfl
  obtain ⟨decision, decided⟩ := undecided'.settles table' hs.withheld (h := h) shot hid h0 ht o
  obtain ⟨clock', reset', pending'⟩ := o.time
  have carried : Carried (x.frame k) (t.frame k) := decision.carried
  refine ⟨⟨?_, (decision.raised .shotDone raised).outcome o, decided⟩,
    (o.readout.trans decision.work.readout).trans readout, (o.handoffs.trans decision.work.handoffs).trans handoffs,
    (clock'.trans decision.work.clock).trans clock, (reset'.trans decision.work.inReset).trans reset,
    (pending'.trans decision.work.pending).trans pending⟩
  rw [o.frame]
  exact done.carried carried

/-- The report is taken at once, and the frame is on its way to its decision. -/
theorem InReadout.awaits {n : Nat} {rest : List Nat} (hl : u.lags = (n + 1) :: rest)
    (ht : t = takeCompletion f b flags u) (o : SameOutcome t e) :
    AwaitsDecision b flags k s e ∧ e.handoffs = [⟨.completed f, n + 1⟩] ∧ e.lags = rest ∧ e.seq = u.seq
      ∧ e.readout = u.readout ∧ e.clock = u.clock ∧ e.inReset = u.inReset ∧ e.pending = u.pending := by
  have hu := a.inReadout hs
  set x := completedLight k b flags u with hx
  have handoffs : x.handoffs = [] := hh
  have lags : x.lags = (n + 1) :: rest := hl
  have done : Completed b flags (s.frame k) (x.frame k) := a.completed b flags
  have own := completedLight_own k b flags u
  rw [takeCompletion_light hu, ← hx, handTo_lag _ _ n rest handoffs lags] at ht
  have frame : t.frame k = x.frame k := frame_of_store (by rw [ht]) k
  have raised : t.Raised .shotDone := (raised_completedLight k b flags u).congr (by rw [ht])
  have nextId : t.store.nextId = s.store.nextId := by rw [ht, ← a.table.nextId]; rfl
  have dark : t.dark = s.dark := by rw [ht, ← a.dark]; rfl
  obtain ⟨clock, reset, pending⟩ := o.time
  obtain ⟨-, nextId', -⟩ := o.store
  refine ⟨⟨?_, raised.outcome o, ?_, ?_, o.dark.trans dark, nextId'.trans nextId⟩,
    by rw [o.handoffs, ht], by rw [o.lags, ht], by rw [o.seq, ht]; rfl, by rw [o.readout, ht]; rfl,
    by rw [clock, ht]; rfl, by rw [reset, ht]; rfl, by rw [pending, ht]; rfl⟩
  · rw [o.frame, frame]
    exact done
  · rw [o.frame, frame, own]
  · rw [o.frame, frame, own, ← a.darkState_eq]

end report

end Sys2Proof.Machine

namespace Sys2Proof.Machine

/-! ### Light frames complete with their dark decision (R98 to R107, R115) -/

variable {s t u e : State} {k : Fin 16} {time : Nat} {f : ReadoutFrame} {b : Blacks} {flags : List Flag}

/-! #### What the readout unit finds (R90, R96, R97, R99) -/

theorem measure_level (f : ReadoutFrame) (sums : Four Nat) (c : Fin 4) :
    (measure f sums).level.get c = blackLevel f (sums.get c) := by
  fin_cases c <;> rfl

theorem measured_measure (f : ReadoutFrame) (sums : Four Nat) : Measured f sums (measure f sums) := by
  refine ⟨fun c => ?_, rfl⟩
  rw [measure_level]
  unfold blackLevel
  split
  · rfl
  · intro hn
    exact ⟨Nat.mul_div_le _ _, Nat.lt_mul_div_succ _ (by omega)⟩

theorem drifts_iff {limit mean : Nat} {history : List Nat} :
    drifts limit mean history = true ↔ Drifted limit mean history := by
  unfold drifts Drifted historyMean
  simp [gap_eq]

theorem found_completion (f : ReadoutFrame) (s : State) : Found f s (measure f s.readout.sums)
    (completionFlags f s.readout.badRows (measure f s.readout.sums).mean s.readout.history) := by
  refine ⟨measured_measure f _, ?_, ?_, ?_, ?_⟩
  · simp [completionFlags]
  · rw [← drifts_iff]
    simp [completionFlags]
  · simp [completionFlags]
  · intro x hx
    simp only [completionFlags, List.mem_append] at hx
    rcases hx with (hx | hx) | hx
    · exact .inl (by simpa using (List.mem_ite_nil_right.1 hx).2)
    · exact .inr (.inl (by simpa using (List.mem_ite_nil_right.1 hx).2))
    · exact .inr (.inr (by simpa using (List.mem_ite_nil_right.1 hx).2))

/-- A bounded history keeps its last six entries (R98). -/
theorem pushHistory_eq_drop {history : List Nat} (h : history.length ≤ historyTop) (m : Nat) :
    pushHistory history m = (history ++ [m]).drop (history.length + 1 - 6) := by
  unfold pushHistory historyTop at *
  split
  · next hl =>
    obtain rfl | ⟨a, rest, rfl⟩ : history = [] ∨ ∃ a rest, history = a :: rest := by
      cases history <;> simp
    · simp at hl
    · have : rest.length + 1 + 1 - 6 = 1 := by simp at h hl; omega
      simp [this]
  · next hl =>
    have : history.length + 1 - 6 = 0 := by omega
    rw [this, List.drop_zero]

/-! #### FRAME_COMPLETE -/

/-- The readout unit has left a light frame of this mean black (R98, R100). -/
def leftLight (mean : Nat) (s : State) : State :=
  leaveReadout (s.onReadout fun u => { u with history := pushHistory u.history mean })

theorem completeFrame_light (h : f.kind = .light) (hf : s.readout.frame = some f) : completeFrame f s =
    handOn (.completion f (measure f s.readout.sums)
        (completionFlags f s.readout.badRows (measure f s.readout.sums).mean s.readout.history))
      (leftLight (measure f s.readout.sums).mean (finishRows s)) := by
  have rows := rowWork_finishRows hf
  have sums : (finishRows s).readout.sums = s.readout.sums := by rw [rows.only]
  have badRows : (finishRows s).readout.badRows = s.readout.badRows := by rw [rows.only]
  have history : (finishRows s).readout.history = s.readout.history := by rw [rows.only]
  unfold completeFrame
  dsimp only
  rw [sums, badRows, history, if_pos h]
  rfl

theorem RowWork.approach (rows : RowWork f.id s u) (hk : s.find f.id = some k) (mean : Nat) :
    Approach k s (leftLight mean u) := by
  have frame : ∀ j, (leftLight mean u).frame j = u.frame j := fun _ => rfl
  refine ⟨fun j hj => ?_, ?_, ?_, ?_, ?_, ?_⟩
  · rw [frame]
    exact rows.others j (by rw [hk]; simpa using Ne.symm hj)
  · rw [frame]
    exact rows.own k
  · change u.store = { s.store with frames := u.store.frames }
    rw [rows.only]
  · change u.setup = s.setup
    rw [rows.only]
  · change u.dark = s.dark
    rw [rows.only]
  · change u.req.causes = s.req.causes
    rw [rows.only]

theorem RowWork.unitLeft (rows : RowWork f.id s u) (h : f.kind = .light) (hl : s.readout.history.length ≤ historyTop)
    (e : State) (he : e.readout = (leftLight b.mean u).readout) : UnitLeft f b s e := by
  have history : u.readout.history = s.readout.history := by rw [rows.only]
  unfold UnitLeft
  rw [he, if_pos h, ← pushHistory_eq_drop hl, ← history]
  exact ⟨rfl, rfl, rfl⟩

/-- A step in which the frame in readout completes. -/
theorem exec_frameComplete (hr : s.inReset = false) (hm : s.readout.marker = true) (hf : s.readout.frame = some f) :
    exec .frameComplete s = .next (settle s (pump (completeFrame f s.quiet))) := by
  have marker : s.quiet.readout.marker = true := hm
  have frame : s.quiet.readout.frame = some f := hf
  have arm : exec .frameComplete s = execFrameComplete s := rfl
  rw [arm]
  unfold execFrameComplete runWhen
  rw [run_of_awake hr, if_pos marker]
  dsimp only
  rw [frame]

/-! #### Arrivals -/

/-- The state in which the one handoff on its way arrives. -/
def arrival (s : State) : State := (microsecond s.quiet).onHandoffs fun _ => []

theorem approach_arrival (k : Fin 16) (s : State) : Approach k s (arrival s) := approach_of_store rfl rfl rfl rfl

theorem arrives {left : List Handoff} {m : Message} {P : State → Prop} (hr : s.inReset = false)
    (h : ∀ t e, t = takeMessage m (arrival s) → SameOutcome t e
      → e = settle s (pump (settle (arrival s) (takeMessage m (arrival s))))
      → t.handoffs = left ∧ t.clock = (arrival s).clock ∧ t.inReset = (arrival s).inReset ∧ t.pending = (arrival s).pending
        ∧ P e) : ArrivesLeaving left m s P := by
  intro hp hh
  have handoffs : (microsecond s.quiet).handoffs = [⟨m, 1⟩] := hh
  have taken : step s = .next (settle s (pump (settle (arrival s) (takeMessage m (arrival s))))) := by
    unfold step
    rw [hp]
    dsimp only
    unfold tick
    rw [hr, takeArrived_one m handoffs]
    rfl
  refine ⟨_, taken, ?_⟩
  have outcome := (sameOutcome_settle (arrival s) (takeMessage m (arrival s))).trans
    (sameOutcome_answer s (settle (arrival s) (takeMessage m (arrival s))))
  obtain ⟨hl, clock, reset, pending, hP⟩ := h _ _ rfl outcome rfl
  obtain ⟨clock', reset', pending'⟩ := outcome.time
  exact ⟨outcome.handoffs.trans hl, clock'.trans clock, (reset'.trans reset).trans hr, (pending'.trans pending).trans hp, hP⟩

theorem arrival_keeps (s : State) :
    Keeps [.clock, .sequencer, .sync, .driver, .readout, .card, .develop, .handoffs] s (arrival s) := by
  intro p hp
  cases p
  case clock | sequencer | sync | driver | readout | card | develop | handoffs => simp at hp
  case due => exact ⟨fun _ h => h, fun h => h, fun h => h⟩
  case records | dram => exact fun _ => rfl
  case store | counts | answer => exact ⟨rfl, rfl, by trivial⟩
  all_goals exact rfl

theorem arrival_served (hs : s.PortServed) : (settle (arrival s) (arrival s)).PortServed := by
  intro hn
  have service : (s.develop.service.map fun sv => match sv.cond with
    | .held w => { sv with cond := .held (timerTick w) }
    | .computing => sv) = none := hn
  exact hs (Option.map_eq_none_iff.1 service)

/-- A report that finds no record in READOUT leaves what a microsecond leaves. -/
theorem arrives_dropped (hs : s.Awake) (b : Blacks) (flags : List Flag)
    (hk : ∀ k, s.find f.id = some k → (s.frame k).state ≠ .readout) : Arrives (.completion f b flags) s fun t =>
      t.seq.state = s.seq.state ∧ t.readout.history = s.readout.history
        ∧ Keeps [.clock, .sequencer, .sync, .driver, .readout, .card, .develop, .handoffs] s t := by
  obtain ⟨hr, served⟩ := hs
  refine arrives hr fun t e ht o he => ?_
  have finds : (arrival s).find f.id = s.find f.id := find_of_store rfl f.id
  have dropped : takeMessage (.completion f b flags) (arrival s) = arrival s :=
    takeCompletion_dropped b flags fun k h => hk k (finds.symm.trans h)
  rw [dropped] at ht he
  subst ht
  rw [pump_of_served _ (arrival_served served)] at he
  refine ⟨rfl, rfl, rfl, rfl, by rw [o.seq]; rfl, by rw [o.readout]; rfl, ?_⟩
  rw [he]
  exact keeps_settle _ (keeps_settle _ (arrival_keeps s))

/-- The report of a light frame in readout arrives, and the decision is made at once. -/
theorem InReadout.arrives_ends (hr : s.inReset = false) (hs : InReadout f k time s) (b : Blacks) (flags : List Flag) {h : Shot}
    (hl : s.lags.headD 0 = 0) (h0 : s.store.nextId ≠ 0) (hshot : s.seq.shot = some h) (hid : h.id = f.id) :
    Arrives (.completion f b flags) s fun t => LightEnds f h b flags k time s t ∧ t.readout.history = s.readout.history := by
  refine arrives hr fun t e ht o _ => ?_
  have shot : (arrival s).seq.shot = some (tickShot h) := congrArg (Option.map tickShot) hshot
  obtain ⟨ends, readout, -⟩ := hs.ends (approach_arrival k s) rfl hl h0 shot hid ht o
  obtain ⟨-, -, handoffs, clock, reset, pending⟩ := hs.ends (approach_arrival k s) rfl hl h0 shot hid ht (.refl t)
  exact ⟨handoffs, clock, reset, pending, ends, by rw [readout]; rfl⟩

/-- The report of a light frame in readout arrives, and the frame is on its way to its decision. -/
theorem InReadout.arrives_awaits (hr : s.inReset = false) (hs : InReadout f k time s) (b : Blacks) (flags : List Flag) {n : Nat}
    {rest : List Nat} (hl : s.lags = (n + 1) :: rest) :
    ArrivesLeaving [⟨.completed f, n + 1⟩] (.completion f b flags) s fun t => AwaitsDecision b flags k s t ∧ t.lags = rest
      ∧ t.readout.history = s.readout.history ∧ t.seq.state = s.seq.state ∧ t.seq.shot = s.seq.shot.map tickShot := by
  refine arrives hr fun t e ht o _ => ?_
  obtain ⟨awaits, -, lags, seq, readout, -⟩ := hs.awaits (approach_arrival k s) rfl hl ht o
  obtain ⟨-, handoffs, -, -, -, clock, reset, pending⟩ := hs.awaits (approach_arrival k s) rfl hl ht (.refl t)
  exact ⟨handoffs, clock, reset, pending, awaits, lags, by rw [readout]; rfl, by rw [seq]; rfl, by rw [seq]; rfl⟩

/-- A completed light frame reaches its decision with its shot in the sequencer. -/
theorem Undecided.arrives_decides (hr : s.inReset = false) (hs : Undecided f k time s) {h : Shot} (h0 : s.store.nextId ≠ 0)
    (hshot : s.seq.shot = some h) (hid : h.id = f.id) : Arrives (.completed f) s fun t =>
      DarkDecided f.dark k time s t (ReturnedFrom h t) (DarkOrdered h k time (ReturnedFrom h t) s t) := by
  refine arrives hr fun t e ht o _ => ?_
  have shot : (arrival s).seq.shot = some (tickShot h) := congrArg (Option.map tickShot) hshot
  have undecided : Undecided f k time (arrival s) := hs.of_store rfl
  obtain ⟨decision, decided⟩ := undecided.settles (approach_arrival k s).table hs.withheld shot hid h0 ht o
  have work := decision.work
  exact ⟨work.handoffs, work.clock, work.inReset, work.pending, decided⟩

/-- A completed light frame reaches its decision once the sequencer has left its shot (R115). -/
theorem Undecided.arrives_alone (hr : s.inReset = false) (hs : Undecided f k time s)
    (hshot : ∀ h, s.seq.shot = some h → h.id ≠ f.id) : Arrives (.completed f) s fun t =>
      DarkDecided f.dark k time s t True ((t.frame k).darkState = .missing
          ∧ hasFlag (t.frame k).flags .darkMissing = true)
        ∧ t.seq.state = s.seq.state ∧ t.seq.shot = s.seq.shot.map tickShot ∧ t.dark = s.dark
        ∧ t.store.nextId = s.store.nextId ∧ t.req.causes = s.req.causes := by
  refine arrives hr fun t e ht o _ => ?_
  have shot : ∀ g, (arrival s).seq.shot = some g → g.id ≠ f.id := by
    intro g hg
    obtain ⟨h, hh, rfl⟩ := Option.map_eq_some_iff.1 (show s.seq.shot.map tickShot = some g from hg)
    exact hshot h hh
  have undecided : Undecided f k time (arrival s) := hs.of_store rfl
  obtain ⟨decided, only⟩ := undecided.settles_alone (approach_arrival k s).table hs.withheld shot ht o
  have work : DecisionWork (arrival s) t := only.decisionWork
  have seq : e.seq = (arrival s).seq := o.seq.trans (by rw [only]; rfl)
  have dark : e.dark = (arrival s).dark := o.dark.trans (by rw [only]; rfl)
  have causes : e.req.causes = (arrival s).req.causes := o.causes.trans (by rw [only]; rfl)
  obtain ⟨-, nextId, -⟩ := o.store
  have nextId' : t.store.nextId = (arrival s).store.nextId := by rw [only]; rfl
  exact ⟨work.handoffs, work.clock, work.inReset, work.pending, decided, by rw [seq]; rfl, by rw [seq]; rfl, dark, nextId.trans nextId', causes⟩

end Sys2Proof.Machine

namespace Sys2Proof.Machine

/-! ### FRAME_COMPLETE of a light frame (R98 to R100) -/

section frame_complete
variable {s : State} {k : Fin 16} {time : Nat} {f : ReadoutFrame}

/-- The state in which the readout unit hands the report of a light frame on. -/
def reporting (f : ReadoutFrame) (s : State) : State :=
  leftLight (measure f s.readout.sums).mean (finishRows s.quiet)

/-- The report that it hands on. -/
def reportOf (f : ReadoutFrame) (s : State) : Message :=
  .completion f (measure f s.readout.sums)
    (completionFlags f s.readout.badRows (measure f s.readout.sums).mean s.readout.history)

variable (hr : s.inReset = false) (hb : s.ListsBounded) (hm : s.readout.marker = true) (hf : s.readout.frame = some f)
  (hl : f.kind = .light) (hs : InReadout f k time s) (hh : s.handoffs = [])
include hf

theorem reporting_rows : RowWork f.id s.quiet (finishRows s.quiet) := rowWork_finishRows (s := s.quiet) hf

theorem reporting_seq : (reporting f s).seq = s.seq := by
  change (finishRows s.quiet).seq = s.seq
  rw [(reporting_rows hf).only]
  rfl

theorem reporting_lags : (reporting f s).lags = s.lags := by
  change (finishRows s.quiet).lags = s.lags
  rw [(reporting_rows hf).only]
  rfl

include hh in
theorem reporting_handoffs : (reporting f s).handoffs = [] := by
  change (finishRows s.quiet).handoffs = []
  rw [(reporting_rows hf).only]
  exact hh

include hs in
theorem reporting_approach : Approach k s (reporting f s) :=
  (approach_of_store rfl rfl rfl rfl : Approach k s s.quiet).trans ((reporting_rows hf).approach hs.find _)

include hr hm hl in
theorem yields_frameComplete {P : State → Prop}
    (h : ∀ t e, t = handOn (reportOf f s) (reporting f s) → SameOutcome t e → P e) : Yields .frameComplete s P := by
  have completes : completeFrame f s.quiet = handOn (reportOf f s) (reporting f s) :=
    completeFrame_light (s := s.quiet) hl hf
  exact ⟨_, exec_frameComplete hr hm hf, h _ _ completes (sameOutcome_answer s _)⟩

include hb hl in
theorem unitLeft_of_readout {e : State} (he : e.readout = (reporting f s).readout) :
    UnitLeft f (measure f s.readout.sums) s e := by
  obtain ⟨-, -, bounded⟩ := hb
  exact (reporting_rows hf).unitLeft hl bounded e he

include hr hb hm hl hs hh

/-- With no lag the record completes and its decision is made in the same step. -/
theorem frameComplete_ends (lags : ∀ n ∈ s.lags.take 2, n = 0) {h : Shot} (h0 : s.store.nextId ≠ 0)
    (hshot : s.seq.shot = some h) (hid : h.id = f.id) : Yields .frameComplete s fun t =>
      UnitLeft f (measure f s.readout.sums) s t ∧ LightEnds f h (measure f s.readout.sums)
        (completionFlags f s.readout.badRows (measure f s.readout.sums).mean s.readout.history) k time s t := by
  refine yields_frameComplete hr hm hf hl fun t e ht o => ?_
  have first : s.lags.headD 0 = 0 ∧ s.lags.tail.headD 0 = 0 := by
    match s.lags, lags with
    | [], _ => exact ⟨rfl, rfl⟩
    | [a], h => exact ⟨h a (by simp), rfl⟩
    | a :: c :: rest, h => exact ⟨h a (by simp), h c (by simp)⟩
  obtain ⟨now, next⟩ := first
  unfold handOn at ht
  rw [handTo_prompt _ _ (reporting_handoffs hf hh) (by rw [reporting_lags hf]; exact now), reporting_lags hf] at ht
  set u := { reporting f s with lags := s.lags.tail } with hu
  have approach : Approach k s u := (reporting_approach hf hs).trans (approach_of_store rfl rfl rfl rfl)
  have handoffs : u.handoffs = [] := reporting_handoffs hf hh
  have shot : u.seq.shot = some h := (congrArg Sequencer.shot (reporting_seq hf)).trans hshot
  obtain ⟨ends, readout, -⟩ := hs.ends approach handoffs next h0 shot hid ht o
  exact ⟨unitLeft_of_readout hb hf hl readout, ends⟩

/-- The report is taken at once and the frame is on its way to its decision. -/
theorem frameComplete_awaits {n : Nat} {rest : List Nat} (lags : s.lags = 0 :: (n + 1) :: rest) :
    Yields .frameComplete s fun t => UnitLeft f (measure f s.readout.sums) s t
      ∧ AwaitsDecision (measure f s.readout.sums)
          (completionFlags f s.readout.badRows (measure f s.readout.sums).mean s.readout.history) k s t
      ∧ t.seq = s.seq ∧ t.handoffs = [⟨.completed f, n + 1⟩] ∧ t.lags = rest := by
  refine yields_frameComplete hr hm hf hl fun t e ht o => ?_
  unfold handOn at ht
  rw [handTo_prompt _ _ (reporting_handoffs hf hh) (by rw [reporting_lags hf, lags]; rfl), reporting_lags hf, lags] at ht
  set u := { reporting f s with lags := List.tail (0 :: (n + 1) :: rest) } with hu
  have approach : Approach k s u := (reporting_approach hf hs).trans (approach_of_store rfl rfl rfl rfl)
  have handoffs : u.handoffs = [] := reporting_handoffs hf hh
  obtain ⟨awaits, left, later, seq, readout, -⟩ := hs.awaits (n := n) (rest := rest) approach handoffs rfl ht o
  exact ⟨unitLeft_of_readout hb hf hl readout, awaits, seq.trans (reporting_seq hf), left, later⟩

/-- The report is on its way. -/
theorem frameComplete_handed {n : Nat} {rest : List Nat} (lags : s.lags = (n + 1) :: rest) : Yields .frameComplete s
    (CompletionHanded f k (measure f s.readout.sums)
      (completionFlags f s.readout.badRows (measure f s.readout.sums).mean s.readout.history) (n + 1) s) := by
  refine yields_frameComplete hr hm hf hl fun t e ht o => ?_
  unfold handOn at ht
  rw [handTo_lag _ _ n rest (reporting_handoffs hf hh) (by rw [reporting_lags hf, lags])] at ht
  have approach := reporting_approach hf hs
  have store : t.store = (reporting f s).store := by rw [ht]
  obtain ⟨-, nextId, lodged⟩ := o.store
  have frame : e.frame k = (reporting f s).frame k := (o.frame k).trans (frame_of_store store k)
  refine ⟨unitLeft_of_readout hb hf hl (o.readout.trans (by rw [ht])), o.handoffs.trans (by rw [ht]; rfl),
    o.lags.trans (by rw [ht, lags]; rfl), ?_, ?_, ?_, ?_, ?_, (o.seq.trans (by rw [ht])).trans (reporting_seq hf),
    (o.dark.trans (by rw [ht])).trans approach.dark, (o.causes.trans (by rw [ht])).trans approach.causes,
    nextId.trans (by rw [store, approach.store]), lodged.trans (by rw [store, approach.store])⟩
  all_goals rw [frame, approach.record]
  exact hs.readout

end frame_complete

/-- Settles O50: the report's effect on the record and the decision's four outcomes are found in the state that the
report reaches, and carried back to the step's begin and on to its end. -/
theorem lightFrameCompletesWithItsDarkDecision : Obligations.LightFrameCompletesWithItsDarkDecision := by
  unfold Obligations.LightFrameCompletesWithItsDarkDecision
  intro s f awake
  have ⟨hr, _⟩ := awake
  refine ⟨fun b flags hk => arrives_dropped awake b flags hk, fun k time find light integrated names => ⟨?_, ?_, ?_⟩⟩
  · intro bounded marker frame kind readout handoffs
    have hs : InReadout f k time s := ⟨find, light, readout, integrated, names⟩
    refine ⟨_, _, found_completion f s, ?_, ?_, ?_⟩
    · exact fun h lags h0 shot id _ => frameComplete_ends hr bounded marker frame kind hs handoffs lags h0 shot id
    · exact fun n rest lags => frameComplete_awaits hr bounded marker frame kind hs handoffs lags
    · exact fun n rest lags => frameComplete_handed hr bounded marker frame kind hs handoffs lags
  · intro b flags readout
    have hs : InReadout f k time s := ⟨find, light, readout, integrated, names⟩
    exact ⟨fun h lag h0 shot id _ => hs.arrives_ends hr b flags lag h0 shot id,
      fun n rest lags => hs.arrives_awaits hr b flags lags⟩
  · intro complete awaits
    have hs : Undecided f k time s := ⟨find, light, complete, awaits, integrated, names⟩
    exact ⟨fun h h0 shot id _ => hs.arrives_decides hr h0 shot id, fun shot => hs.arrives_alone hr shot⟩

end Sys2Proof.Machine

namespace Sys2Proof.Machine

/-! ### What the rows of the sync input and the driver touch

They work on the outside levels, the sync input, the driver, the sequencer, the records, the causes, the handoffs and what
is sent. With a read in service or nothing waiting at the port their step is their effect, settled. -/

variable {s t u : State} {c : List Part}

/-- Only the outside levels, the sync input, the driver, the sequencer, the record table, the causes, the handoffs and what
is sent differ. -/
def FrontWork (s t : State) : Prop := t = { s with
  pins := t.pins, sync := t.sync, driver := t.driver, seq := t.seq
  store := { s.store with frames := t.store.frames, nextId := t.store.nextId, lodged := t.store.lodged }
  req := { s.req with causes := t.req.causes }
  handoffs := t.handoffs, lags := t.lags, sent := t.sent }

theorem FrontWork.trans (h : FrontWork s t) (g : FrontWork t u) : FrontWork s u := by
  unfold FrontWork at *
  rw [g, h]

theorem FrontWork.service (h : FrontWork s t) : t.develop.service = s.develop.service := by rw [h]
theorem FrontWork.port (h : FrontWork s t) : t.path.port = s.path.port := by rw [h]

/-- The parts that front work may change. -/
def frontParts : List Part :=
  [.pins, .sync, .driver, .sequencer, .records, .store, .causes, .handoffs, .sent]

theorem FrontWork.keeps_rest (h : FrontWork s t) : Keeps frontParts s t := by
  intro p hp
  rw [h]
  cases p
  case pins | sync | driver | sequencer | records | store | causes | handoffs | sent => simp [frontParts] at hp
  case due => exact ⟨fun _ m => m, fun m => m, fun m => m⟩
  case dram => exact fun _ => rfl
  case clock => exact ⟨rfl, rfl⟩
  case counts | answer => exact ⟨rfl, rfl, by trivial⟩
  all_goals exact rfl

/-- What a frame names is kept, and so is what it does not name but is the same. -/
theorem Keeps.restrict {a : List Part} (h : Keeps a s t) (same : ∀ p ∈ a, p ∉ c → p.Same s t) : Keeps c s t := by
  intro p hp
  by_cases hm : p ∈ a
  · exact same p hm hp
  · exact h p hm

/-- A row whose effect is front work yields its effect, settled, which keeps the parts outside `c` if the effect keeps
those of its own outside `c`. -/
theorem yields_front {i : Instr} {P : State → Prop} (hs : s.Awake) (hi : exec i s = run (effect i) s)
    (he : effect i s.quiet = u) (work : FrontWork s u)
    (h : (∀ {c}, (∀ p ∈ frontParts, p ∉ c → p.Same s u) → Keeps c s (settle s u)) → P (settle s u)) : Yields i s P :=
  ⟨_, hi.trans (run_keeps_port hs (by rw [he, work.service]) (by rw [he, work.port])), by
    rw [he]
    exact h fun same => keeps_settle s (work.keeps_rest.restrict same)⟩

/-! ### The driver's timers and senses (R45, R46, R49, R52, R54) -/

/-- HOLD is entered with its timers, as a phase change (R45, R46). -/
theorem enterHold_eq {p : DriveParams} (hp : s.driver.params = some p) (hd : p.duty ≤ 16) : enterHold s = { s with
    driver := { s.driver with
      phase := .hold, pullTimer := none
      holdTimer := if p.mode = .syncWindow then some p.holdLimit else none
      chopOn := true, chopTimer := if p.duty = 16 then none else some (p.duty * 4) }
    sync := { s.sync with blanking := blankedBy s } } := by
  have hold : (s.driver.params.filter fun p => p.mode == .syncWindow).map (·.holdLimit)
      = if p.mode = .syncWindow then some p.holdLimit else none := by
    rw [hp]; by_cases hm : p.mode = .syncWindow <;> simp [Option.filter, hm]
  have off : offPart s.driver.duty = 0 ↔ p.duty = 16 := by
    simp only [offPart, Driver.duty, hp, chopPeriod, Option.map_some, Option.getD_some]; omega
  have on : onPart s.driver.duty = p.duty * 4 := by simp [onPart, Driver.duty, hp]
  unfold enterHold
  rw [phaseChange_eq]
  simp only [State.onDriver, hold, off, on]
  rfl

theorem chop_eq {p : DriveParams} (hp : s.driver.params = some p) : chop s = { s with
    driver := { s.driver with
      chopOn := !s.driver.chopOn
      chopTimer := some (if s.driver.chopOn then 64 - p.duty * 4 else p.duty * 4) } } := by
  simp [chop, State.onDriver, Driver.duty, hp, offPart, onPart, chopPeriod]

/-- A new sensed current is seen by the driver while drive current flows (R49, R52). -/
theorem senseCurrent_eq (current : Nat) (s : State) : senseCurrent current s = { s with
    pins := { s.pins with sense := current }
    driver := if s.driveFlows = true then { s.driver with
        cable := if 50000 ≤ current then .present else s.driver.cable
        openTimer := if 50000 ≤ current ∧ s.driver.openEval = true ∧ s.driver.rampTimer = none then 0
          else s.driver.openTimer
        shortTimer := if current ≤ 3000000 then 0 else s.driver.shortTimer } else s.driver } := by
  unfold senseCurrent
  extract_lets u
  have flows : u.driveFlows = s.driveFlows := rfl
  rw [flows]
  by_cases h : s.driveFlows = true
  · have clears : (decide (openThreshold ≤ current) && s.driver.openEval && s.driver.rampTimer.isNone) = true
        ↔ 50000 ≤ current ∧ s.driver.openEval = true ∧ s.driver.rampTimer = none := by
      rw [Bool.and_eq_true, Bool.and_eq_true, decide_eq_true_eq, Option.isNone_iff_eq_none, and_assoc]
      rfl
    rw [if_pos h, if_pos h]
    simp only [← clears]
    rfl
  · rw [if_neg h, if_neg h]
    rfl

theorem compareSupply_eq (low : Bool) (s : State) : compareSupply low s = { s with
    pins := { s.pins with supplyLow := low }
    driver := if low = s.pins.supplyLow then s.driver else { s.driver with
      supplyFilter := if low = s.driver.supplyLow then none else some 100 } } := by
  unfold compareSupply
  split
  · next h => simp [h]
  · rfl

/-- The indication follows the comparator, without ending a drive (R54). -/
theorem indicateSupply_eq (h : s.driver.phase.driving = false ∨ s.pins.supplyLow = false ∨ s.driver.supplyLow = true) :
    indicateSupply s = { s with driver := { s.driver with supplyLow := s.pins.supplyLow, supplyFilter := none } } := by
  have idle : (s.pins.supplyLow && !s.driver.supplyLow && s.driver.phase.driving) = false := by
    rcases h with h | h | h <;> simp [h]
  exact if_neg (Bool.eq_false_iff.1 idle)

/-! The rows, when they are due. -/

theorem effect_pullInEnd (phase : s.driver.phase = .pullIn) (timer : s.driver.pullTimer = some 0) :
    effect .pullInEnd s = enterHold s := if_pos (by simp [phase, timer, timerDue])

theorem effect_holdChop (phase : s.driver.phase = .hold) (timer : s.driver.chopTimer = some 0) :
    effect .holdChop s = chop s := if_pos (by simp [phase, timer, timerDue])

theorem effect_rampBlankEnd (timer : s.driver.rampTimer = some 0) :
    effect .rampBlankEnd s = { s with driver := { s.driver with rampTimer := none } } := if_pos (by simp [timer, timerDue])

theorem effect_lowSupplyIndication (timer : s.driver.supplyFilter = some 0) :
    effect .lowSupplyIndication s = indicateSupply s := if_pos (by simp [timer, timerDue])

/-- Settles O46, from the update that each row makes. -/
theorem driverTimersAndSenses : Obligations.DriverTimersAndSenses := by
  unfold Obligations.DriverTimersAndSenses
  intro s hs
  refine ⟨fun p phase timer params duty => ?_, fun p phase timer params => ?_, fun timer => ?_, fun current => ?_,
    fun low => ?_, fun timer quiet => ?_⟩
  · refine yields_front hs rfl ((effect_pullInEnd (s := s.quiet) phase timer).trans (enterHold_eq params duty)) rfl
      fun keeps =>
      ⟨rfl, rfl, keeps (by simp [frontParts, Part.Same, State.frame])⟩
  · refine yields_front hs rfl ((effect_holdChop (s := s.quiet) phase timer).trans (chop_eq params)) rfl
      fun keeps =>
      ⟨rfl, keeps (by simp [frontParts, Part.Same, State.frame])⟩
  · refine yields_front hs rfl (effect_rampBlankEnd (s := s.quiet) timer) rfl fun keeps =>
      ⟨rfl, keeps (by simp [frontParts, Part.Same, State.frame])⟩
  · refine yields_front hs (runLine_of_awake hs.1) (senseCurrent_eq current _) rfl fun keeps =>
      ⟨rfl, rfl, keeps (by simp [frontParts, Part.Same, State.frame])⟩
  · refine yields_front hs (runLine_of_awake hs.1) (compareSupply_eq low _) rfl fun keeps =>
      ⟨rfl, rfl, keeps (by simp [frontParts, Part.Same, State.frame])⟩
  · refine yields_front hs rfl ((effect_lowSupplyIndication (s := s.quiet) timer).trans (indicateSupply_eq quiet)) rfl
      fun keeps =>
      ⟨rfl, keeps (by simp [frontParts, Part.Same, State.frame])⟩

end Sys2Proof.Machine

namespace Sys2Proof.Machine

/-! ### Drive off, states entered and the end of integration, as updates (R47, R48, R59, R72) -/

variable {s t u : State} {h : Shot} {k : Fin 16} {r : Run}

theorem Driver.offNow_eq (d : Driver) : d.offNow = if d.phase.driving then d.gone else d := rfl

theorem Driver.offNow_of_idle {d : Driver} (hd : d.phase.driving = false) : d.offNow = d := if_neg (by simp [hd])

/-- A drive that goes off leaves the driver gone and blanks the contact (R31, R47). -/
theorem driveOff_of_driving (hd : s.driver.phase.driving = true) :
    driveOff s = { s with driver := s.driver.gone, sync := { s.sync with blanking := blankedBy s } } := by
  rw [driveOff_eq, hd]
  simp only [Driver.offNow_eq, hd, if_true]
  rfl

theorem driveOff_of_idle (hd : s.driver.phase.driving = false) : driveOff s = s := if_neg (by simp [hd])

/-- A state with the drive permission of a shot. -/
def Permits (st : SeqState) (shot : Option Shot) : Prop :=
  (st = .waitSync ∨ st = .open) ∧ ∃ h, shot = some h ∧ h.origin = .release

/-- A drive is on only under the permission of a released shot (R48). -/
theorem State.DriveLocked.permits (hl : s.DriveLocked) (hd : s.driver.phase.driving = true) :
    Permits s.seq.state s.seq.shot := by
  have hp := hl.1 hd
  simpa [State.permission, Permits, Option.any_eq_true] using hp

/-- Entering a state that keeps the permission of a drive that is on leaves the driver alone (R48, R59, R77). -/
theorem seqEnter_keeps_drive {st : SeqState} (hd : s.driver.phase.driving = true → Permits st s.seq.shot) :
    seqEnter st s = { s with
      seq := { s.seq with state := st, refusedTrip := if st = .armed then s.seq.refusedTrip else none }
      sync := { s.sync with listening := st == .armed, rearmed := s.sync.rearmed && st == .armed } } := by
  rw [seqEnter_eq]
  cases hdrive : s.driver.phase.driving with
  | false => simp [Driver.offNow_of_idle hdrive]
  | true =>
    obtain ⟨hst, x, hx, hor⟩ := hd hdrive
    have permitted : ((st == .waitSync || st == .open) && s.seq.shot.any fun h => h.origin == .release) = true := by
      simpa [hx, hor] using hst
    simp [permitted]

/-- The same for a state other than ARMED, in which nothing listens for trips. -/
theorem seqEnter_outside_armed {st : SeqState} (hst : st ≠ .armed)
    (hd : s.driver.phase.driving = true → Permits st s.seq.shot) :
    seqEnter st s = { s with
      seq := { s.seq with state := st, refusedTrip := none }
      sync := { s.sync with listening := false, rearmed := false } } := by
  rw [seqEnter_keeps_drive hd]
  simp [hst]

theorem setFrame_frames_self (s : State) (k : Fin 16) : s.setFrame k (s.frame k) = s := by
  simp [State.setFrame, State.onStore, State.frame]

/-- The records of a table in which one has been replaced. -/
theorem frame_of_setFrame {f : Frame} (ht : t.store.frames = (s.setFrame k f).store.frames) :
    t.frame k = f ∧ SameBut k s t := by
  have frame : ∀ j, t.frame j = (s.setFrame k f).frame j := State.frame_congr t _ ht
  exact ⟨(frame k).trans (s.frame_setFrame_same k f), fun j hj => (frame j).trans (s.frame_setFrame_other k j f hj)⟩

/-- A record that keeps its frame is still the one found by the frame's id. -/
theorem find_of_setFrame {f : Frame} (ht : t.store.frames = (s.setFrame k f).store.frames)
    (state : f.state = (s.frame k).state) (id : f.id = (s.frame k).id) (x : Word) : t.find x = s.find x := by
  obtain ⟨frame, others⟩ := frame_of_setFrame ht
  refine find_congr (fun j => ?_) x
  by_cases hj : j = k
  · rw [hj, frame]
    exact ⟨state, id⟩
  · rw [others j hj]
    exact ⟨rfl, rfl⟩

theorem SameBut.trans (h : SameBut k s t) (g : SameBut k t u) : SameBut k s u := fun j hj => (g j hj).trans (h j hj)


/-- The record of a frame whose integration ends into READOUT (R72). -/
def Frame.intoReadout (f : Frame) (clock : Word) : Frame := { f with state := .readout, integEnd := some clock }

/-- Integration of the frame in record `k` ends into READOUT, with the drive off (R72). -/
theorem endIntegration_eq (hk : s.find h.id = some k) (hx : (s.frame k).state = .exposing) : endIntegration h s = { s with
    store := (s.setFrame k ((s.frame k).intoReadout s.clock)).store
    driver := s.driver.offNow
    seq := { s.seq with
      state := .readout, refusedTrip := none, startWait := none, endWait := some 1000
      shot := s.seq.shot.map Shot.stopped }
    sync := { s.sync with
      target := none, expect := .none, listening := false, rearmed := false
      blanking := if s.driver.phase.driving then s.blankNow else s.sync.blanking }
    sent := s.sent ++ [.sensorEnd] } := by
  have frame : (issueEnd (driveOff s)).frame k = s.frame k := by rw [driveOff_eq]; rfl
  have clock : (issueEnd (driveOff s)).clock = s.clock := by rw [driveOff_eq]; rfl
  have ended := report_of_find (s := issueEnd (driveOff s)) (by rw [driveOff_eq]; exact (find_of_store rfl _).trans hk)
    fun f => if f.state = .exposing then
      { f with state := .readout, integEnd := some (issueEnd (driveOff s)).clock } else f
  rw [frame, if_pos hx, clock] at ended
  simp only [endIntegration, clock, ended]
  rw [driveOff_eq, seqEnter_outside_armed (by decide) fun hd => absurd hd (Bool.eq_false_iff.1 (Driver.offNow_driving _))]
  rfl

/-- TAIL with its closing tail running (R71). -/
def State.inTail (s : State) (h : Shot) : State := { s with
  seq := { s.seq with
    state := .tail, refusedTrip := none
    shot := some { h with openWait := none, syncTimer := none, tailTimer := some (h.params.closingTail * 1000) } }
  sync := { s.sync with listening := false, rearmed := false } }

/-- TAIL is entered with no drive on; a closing tail of 0 ends integration at once (R71, R72). -/
theorem enterTail_eq (hd : s.driver.phase.driving = false) (hs : s.seq.shot = some h) :
    enterTail h s = if h.params.closingTail = 0 then endIntegration h (s.inTail h) else s.inTail h := by
  have entered : seqEnter .tail (onShot (fun h =>
      { h with openWait := none, syncTimer := none, tailTimer := some (ms h.params.closingTail) }) s) = s.inTail h := by
    rw [seqEnter_outside_armed (by decide) fun hx => absurd hx (by simp [onShot, State.onSeq, hd])]
    simp only [onShot, State.onSeq, hs]
    rfl
  simp only [enterTail, entered]

/-- OPEN before the drive of the shot is seen to (R67). -/
def State.inOpen (s : State) (h : Shot) : State := { s with
  seq := { s.seq with state := .open, refusedTrip := none, shot := some { h with syncTimer := none } }
  sync := { s.sync with listening := false, rearmed := false } }

/-- OPEN is entered from WAIT_SYNC with its permission (R67, R69). -/
theorem enterOpen_eq (hd : s.driver.phase.driving = true → h.origin = .release) (hs : s.seq.shot = some h) :
    enterOpen h s = { s.inOpen h with
      seq := { s.seq with
        state := .open, refusedTrip := none
        shot := some { h with
          syncTimer := none
          openWait := if h.mode = some .timedBulb ∧ ¬s.driver.phase.driving = true
            then some (h.params.syncTimeout * 1000) else h.openWait } }
      driver := if s.driver.phase.driving = true ∧ ¬h.mode = some .timedBulb then s.driver.gone else s.driver
      sync := { s.sync with
        listening := false, rearmed := false
        blanking := if s.driver.phase.driving = true ∧ ¬h.mode = some .timedBulb then blankedBy s
          else s.sync.blanking } } := by
  have entered : seqEnter .open (onShot (fun h => { h with syncTimer := none }) s) = s.inOpen h := by
    rw [seqEnter_outside_armed (s := onShot (fun h => { h with syncTimer := none }) s) (by decide) fun hx =>
      ⟨.inr rfl, _, congrArg (Option.map _) hs, hd hx⟩]
    simp only [onShot, State.onSeq, hs]
    rfl
  have drive : (s.inOpen h).driver = s.driver := rfl
  simp only [enterOpen, entered, drive]
  by_cases hb : h.mode = some .timedBulb
  · have kept : ¬(s.driver.phase.driving = true ∧ ¬h.mode = some .timedBulb) := fun c => c.2 hb
    rw [if_pos hb, if_neg kept, if_neg kept]
    by_cases hdrive : s.driver.phase.driving = true
    · rw [if_pos hdrive, if_neg fun c => c.2 hdrive]
      rfl
    · rw [if_neg hdrive, if_pos ⟨hb, hdrive⟩]
      rfl
  · have unwaited : ¬(h.mode = some .timedBulb ∧ ¬s.driver.phase.driving = true) := fun c => hb c.1
    rw [if_neg hb, if_neg unwaited]
    by_cases hdrive : s.driver.phase.driving = true
    · rw [if_pos ⟨hdrive, hb⟩, if_pos ⟨hdrive, hb⟩]
      exact driveOff_of_driving (s := s.inOpen h) hdrive
    · have idle : ¬(s.driver.phase.driving = true ∧ ¬h.mode = some .timedBulb) := fun c => hdrive c.1
      rw [if_neg idle, if_neg idle]
      exact driveOff_of_idle (s := s.inOpen h) (Bool.eq_false_iff.2 hdrive)

/-! ### A run that qualifies (R29, R35, R38) -/

/-- A qualified run has left the sync input and made its level the qualified one (R29). -/
def State.afterRun (s : State) (r : Run) : State := { s with sync := { s.sync with qualified := r.closing, run := none } }

theorem effect_runQualifies (hq : Qualifies r s) : effect .runQualifies s = qualify r s := by
  obtain ⟨run, blank, counted, awaited⟩ := hq
  have due : s.runDue = true := by
    cases hc : r.closing <;> simp [State.runDue, run, blank, counted, hc]
    exact awaited hc
  exact (if_pos due).trans (by rw [run])

theorem qualify_open (hc : r.closing = false) : qualify r s = qualifiedOpen (recordEdge r (s.afterRun r)) :=
  if_neg (by simp [hc])

theorem qualify_close (hc : r.closing = true) : qualify r s = qualifiedClose r.edge (recordEdge r (s.afterRun r)) :=
  if_pos hc

/-- Without an expectation nothing is recorded (R35). -/
theorem recordEdge_of_none (he : s.sync.expect = .none) : recordEdge r s = s := by
  unfold recordEdge
  split
  · next hx _ _ => simp [he] at hx
  · next hx _ _ => simp [he] at hx
  · rfl

theorem qualifiedOpen_of_ne (ho : s.seq.state ≠ .open) : qualifiedOpen s = s := by
  unfold qualifiedOpen
  split
  · next h _ => exact absurd h ho
  · rfl

/-- A close in a state that has nothing to do with shots is a missed shot NOT_ARMED (R79). -/
theorem qualifiedClose_notArmed {edge : Word}
    (h : s.seq.state = .unset ∨ s.seq.state = .idle ∨ s.seq.state = .fault) :
    qualifiedClose edge s = missedShot edge .notArmed s := by
  unfold qualifiedClose
  rcases h with h | h | h <;> rw [h]

/-- In ARMED it is one too, unless its trip edge has been refused (R77, R79). -/
theorem qualifiedClose_armed {edge : Word} (h : s.seq.state = .armed) : qualifiedClose edge s =
    if s.seq.refusedTrip = some edge then { s with seq := { s.seq with refusedTrip := none } }
    else missedShot edge .notArmed s := by
  unfold qualifiedClose
  rw [h]
  rfl

theorem qualifiedClose_dark {edge : Word} (h : s.seq.state = .preparing) {x : Shot} (hs : s.seq.shot = some x)
    (hk : x.kind = .dark) : qualifiedClose edge s = missedShot edge .notArmed s := by
  unfold qualifiedClose
  rw [h, hs]
  exact if_pos hk

theorem qualifiedClose_readout {edge : Word} (h : s.seq.state = .readout) :
    qualifiedClose edge s = missedShot edge .readoutBusy s := by
  unfold qualifiedClose
  rw [h]

theorem qualifiedClose_tail {edge : Word} (h : s.seq.state = .tail) {x : Shot} (hs : s.seq.shot = some x) :
    qualifiedClose edge s = addFlag x.id .extraSync s := by
  unfold qualifiedClose
  rw [h, hs]

/-- A flag lands in the record that holds the frame (R10). -/
theorem addFlag_of_find {id : Word} {f : Flag} (hk : s.find id = some k) :
    addFlag id f s = s.setFrame k ((s.frame k).withFlag f) := report_of_find hk _

/-- A qualified run yields what `qualify` makes of it. -/
theorem yields_qualify {P : State → Prop} (hs : s.Awake) (hq : Qualifies r s) (he : qualify r s.quiet = u)
    (work : FrontWork s u)
    (h : (∀ {c}, (∀ p ∈ frontParts, p ∉ c → p.Same s u) → Keeps c s (settle s u)) → P (settle s u)) :
    Yields .runQualifies s P :=
  yields_front hs rfl ((effect_runQualifies (s := s.quiet) hq).trans he) work h

/-- Settles O42: without an expectation the run is not recorded, and the close is told by the sequencer's state. -/
theorem qualifiedCloseOutsideItsStates : Obligations.QualifiedCloseOutsideItsStates := by
  unfold Obligations.QualifiedCloseOutsideItsStates
  intro s r hs hq expect
  have unrecorded : recordEdge r (s.quiet.afterRun r) = s.quiet.afterRun r := recordEdge_of_none expect
  have close (hc : r.closing = true) : qualify r s.quiet = qualifiedClose r.edge (s.quiet.afterRun r) := by
    rw [qualify_close hc, unrecorded]
  have missed {reason : MissedReason} (hc : r.closing = true)
      (h : qualifiedClose r.edge (s.quiet.afterRun r) = missedShot r.edge reason (s.quiet.afterRun r)) :
      Yields .runQualifies s fun t =>
        t.sync = { s.sync with
          qualified := r.closing, run := none
          missed := some (r.edge, reason), missedCount := satInc 65535 s.sync.missedCount }
        ∧ t.req.causes = s.req.causes ||| Cause.missedShot.bit ∧ Keeps [.sync, .causes] s t :=
    yields_qualify hs hq ((close hc).trans h) rfl fun keeps =>
      ⟨rfl, rfl, keeps (by simp [frontParts, Part.Same, State.frame, missedShot, State.afterRun])⟩
  refine ⟨fun hc ho => ?_, fun hc h => missed hc (qualifiedClose_notArmed h), fun hc h hr => ?_, fun hc h hr => ?_,
    fun x hc h hx hk => missed hc (qualifiedClose_dark h hx hk), fun hc h => missed hc (qualifiedClose_readout h),
    fun x k hc h hx hk => ?_⟩
  · refine yields_qualify (u := s.quiet.afterRun r) hs hq ?_ rfl fun keeps =>
      ⟨rfl, keeps (by simp [frontParts, Part.Same, State.frame, State.afterRun])⟩
    rw [qualify_open hc, unrecorded]
    exact qualifiedOpen_of_ne ho
  · exact missed hc ((qualifiedClose_armed (s := s.quiet.afterRun r) h).trans (if_neg hr))
  · exact yields_qualify hs hq ((close hc).trans ((qualifiedClose_armed (s := s.quiet.afterRun r) h).trans (if_pos hr)))
      rfl fun keeps =>
      ⟨rfl, rfl, keeps (by simp [frontParts, Part.Same, State.frame, State.afterRun])⟩
  · have marked : addFlag x.id .extraSync (s.quiet.afterRun r)
        = (s.quiet.afterRun r).setFrame k ((s.frame k).withFlag .extraSync) := addFlag_of_find hk
    refine yields_qualify hs hq ((close hc).trans ((qualifiedClose_tail (s := s.quiet.afterRun r) h hx).trans marked)) rfl
      fun keeps => ?_
    obtain ⟨frame, others⟩ := frame_of_setFrame (s := s) (k := k) (f := (s.frame k).withFlag .extraSync)
      (t := settle s ((s.quiet.afterRun r).setFrame k ((s.frame k).withFlag .extraSync))) rfl
    exact ⟨rfl, frame, others, keeps (by simp [frontParts, Part.Same, State.frame, State.afterRun])⟩

/-! ### A sync event of a shot is recorded (R35, R67, R68, R69, R71, R78) -/

variable {g : Target}

/-- The close of the target's frame, recorded (R35). -/
def State.closeRecorded (s : State) (k : Fin 16) (edge : Word) : State := { s with
  store := (s.setFrame k { s.frame k with syncClose := some edge }).store
  sync := { s.sync with expect := .open } }

/-- The open of the target's frame, recorded (R35). -/
def State.openRecorded (s : State) (k : Fin 16) (edge : Word) : State := { s with
  store := (s.setFrame k { s.frame k with syncOpen := some edge }).store
  sync := { s.sync with expect := .none } }

theorem recordEdge_close (hc : r.closing = true) (he : s.sync.expect = .close) (hg : s.sync.target = some g)
    (hk : s.find g.id = some k) : recordEdge r s = s.closeRecorded k r.edge := by
  unfold recordEdge
  rw [he, hc, hg]
  exact congrArg (State.onSync · fun y => { y with expect := .open }) (report_of_find hk _)

theorem recordEdge_open (hc : r.closing = false) (he : s.sync.expect = .open) (hg : s.sync.target = some g)
    (hk : s.find g.id = some k) : recordEdge r s = s.openRecorded k r.edge := by
  unfold recordEdge
  rw [he, hc, hg]
  exact congrArg (State.onSync · fun y => { y with expect := .none }) (report_of_find hk _)

/-- A qualified open that finds the drive on has turned it off and marked the frame EARLY_CLOSE (R68, R69). -/
def State.earlyClosed (s : State) (k : Fin 16) : State := { s with
  store := (s.setFrame k { s.frame k with
    flags := if s.driver.phase.driving = true then (s.frame k).flags ||| Flag.earlyClose.bit
      else (s.frame k).flags }).store
  driver := if s.driver.phase.driving = true then s.driver.gone else s.driver
  sync := { s.sync with blanking := if s.driver.phase.driving = true then blankedBy s else s.sync.blanking } }

theorem earlyClosed_driving : (s.earlyClosed k).driver.phase.driving = false := by
  unfold State.earlyClosed
  by_cases hd : s.driver.phase.driving = true
  · simp only [hd, if_true]; rfl
  · simp [hd]

theorem qualifiedOpen_open (ho : s.seq.state = .open) (hs : s.seq.shot = some h) (hk : s.find h.id = some k) :
    qualifiedOpen s = enterTail h (s.earlyClosed k) := by
  unfold qualifiedOpen
  rw [ho, hs]
  refine congrArg (enterTail h) ?_
  unfold State.earlyClosed
  by_cases hd : s.driver.phase.driving = true
  · simp only [hd, if_true]
    rw [driveOff_of_driving hd]
    exact addFlag_of_find ((find_of_store rfl _).trans hk)
  · simp only [hd, if_false, Bool.false_eq_true]
    rw [show s.setFrame k (s.frame k) = s from setFrame_frames_self s k]

/-- With a sync close expected, the qualified close of a shot is taken after it is recorded. -/
theorem qualify_closeRecorded (hc : r.closing = true) (he : s.sync.expect = .close) (hg : s.sync.target = some g)
    (hk : s.find g.id = some k) : qualify r s = qualifiedClose r.edge ((s.afterRun r).closeRecorded k r.edge) := by
  rw [qualify_close hc, recordEdge_close (s := s.afterRun r) hc he hg hk]

theorem qualify_openRecorded (hc : r.closing = false) (he : s.sync.expect = .open) (hg : s.sync.target = some g)
    (hk : s.find g.id = some k) : qualify r s = qualifiedOpen ((s.afterRun r).openRecorded k r.edge) := by
  rw [qualify_open hc, recordEdge_open (s := s.afterRun r) hc he hg hk]

theorem qualifiedClose_waitSync {edge : Word} (hw : s.seq.state = .waitSync) (hs : s.seq.shot = some h) :
    qualifiedClose edge s = enterOpen h s := by
  unfold qualifiedClose
  rw [hw, hs]

/-- In TRIPPED a close leads to OPEN and stops the window (R78). -/
theorem qualifiedClose_tripped {edge : Word} (hl : s.DriveLocked) (ht : s.seq.state = .tripped)
    (hs : s.seq.shot = some h) : qualifiedClose edge s = { s with
      seq := { s.seq with state := .open, refusedTrip := none, shot := some { h with windowTimer := none } }
      sync := { s.sync with listening := false, rearmed := false } } := by
  have idle : s.driver.phase.driving = false := Bool.eq_false_iff.2 fun hd => by
    have := (hl.permits hd).1
    simp [ht] at this
  unfold qualifiedClose
  rw [ht, hs]
  refine (seqEnter_outside_armed (s := onShot (fun h => { h with windowTimer := none }) s) (by decide) fun hd =>
    absurd hd (Bool.eq_false_iff.1 idle)).trans ?_
  simp only [onShot, State.onSeq, hs]
  rfl

/-- The run `r` qualifies for the shot in flight `h`, which is the target `g` and is held by record `k`. -/
structure QualifiesFor (s : State) (r : Run) (g : Target) (h : Shot) (k : Fin 16) : Prop where
  due : Qualifies r s
  locked : s.DriveLocked
  target : s.sync.target = some g
  shot : s.seq.shot = some h
  target_find : s.find g.id = some k
  find : s.find h.id = some k

theorem QualifiesFor.released (x : QualifiesFor s r g h k) (hd : s.driver.phase.driving = true) :
    h.origin = .release := by
  obtain ⟨-, y, hy, origin⟩ := x.locked.permits hd
  exact Option.some.inj (x.shot.symm.trans hy) ▸ origin

theorem QualifiesFor.waitSync (x : QualifiesFor s r g h k) (hc : r.closing = true) (he : s.sync.expect = .close)
    (hw : s.seq.state = .waitSync) : qualify r s = enterOpen h ((s.afterRun r).closeRecorded k r.edge) :=
  (qualify_closeRecorded hc he x.target x.target_find).trans
    (qualifiedClose_waitSync (s := (s.afterRun r).closeRecorded k r.edge) hw x.shot)

theorem QualifiesFor.tripped (x : QualifiesFor s r g h k) (hc : r.closing = true) (he : s.sync.expect = .close) :
    qualify r s = qualifiedClose r.edge ((s.afterRun r).closeRecorded k r.edge) :=
  qualify_closeRecorded hc he x.target x.target_find

theorem find_openRecorded (edge id : Word) : (s.openRecorded k edge).find id = s.find id :=
  find_of_setFrame (k := k) (f := { s.frame k with syncOpen := some edge }) rfl rfl rfl id

theorem find_earlyClosed (id : Word) : (s.earlyClosed k).find id = s.find id :=
  find_of_setFrame (k := k) (f := { s.frame k with
    flags := if s.driver.phase.driving = true then (s.frame k).flags ||| Flag.earlyClose.bit else (s.frame k).flags })
    rfl rfl rfl id

/-- The open of the run `r` is recorded in record `k` and the drive is off (R35, R69). -/
def State.openTaken (s : State) (r : Run) (k : Fin 16) : State := ((s.afterRun r).openRecorded k r.edge).earlyClosed k

theorem find_openTaken (id : Word) : (s.openTaken r k).find id = s.find id :=
  (find_earlyClosed id).trans (find_openRecorded r.edge id)

theorem openTaken_work : FrontWork s (s.openTaken r k) := rfl

theorem frame_openTaken : (s.openTaken r k).frame k = { s.frame k with
    syncOpen := some r.edge
    flags := if s.driver.phase.driving = true then (s.frame k).flags ||| Flag.earlyClose.bit else (s.frame k).flags }
    ∧ SameBut k s (s.openTaken r k) := by
  obtain ⟨opened, others⟩ := frame_of_setFrame (t := (s.afterRun r).openRecorded k r.edge) (s := s.afterRun r)
    (k := k) (f := { s.frame k with syncOpen := some r.edge }) rfl
  obtain ⟨marked, others'⟩ := frame_of_setFrame (t := s.openTaken r k) (k := k)
    (s := (s.afterRun r).openRecorded k r.edge) (f := { ((s.afterRun r).openRecorded k r.edge).frame k with
      flags := if s.driver.phase.driving = true
        then (((s.afterRun r).openRecorded k r.edge).frame k).flags ||| Flag.earlyClose.bit
        else (((s.afterRun r).openRecorded k r.edge).frame k).flags }) rfl
  refine ⟨?_, others.trans others'⟩
  rw [marked, opened]

/-- An open that qualifies in OPEN (R68, R69, R71). -/
theorem QualifiesFor.opens (x : QualifiesFor s r g h k) (hc : r.closing = false) (he : s.sync.expect = .open)
    (ho : s.seq.state = .open) : qualify r s =
      if h.params.closingTail = 0 then endIntegration h ((s.openTaken r k).inTail h) else (s.openTaken r k).inTail h :=
  (qualify_openRecorded hc he x.target x.target_find).trans <|
    (qualifiedOpen_open (s := (s.afterRun r).openRecorded k r.edge) ho x.shot
      ((find_openRecorded _ _).trans x.find)).trans (enterTail_eq earlyClosed_driving x.shot)

theorem inTail_work : FrontWork s (s.inTail h) := rfl

/-- The record when its open is taken and its closing tail is 0 (R71, R72). -/
theorem frame_openEnded (clock : Word)
    (ht : t.store.frames = ((s.openTaken r k).setFrame k (((s.openTaken r k).frame k).intoReadout clock)).store.frames) :
    (t.frame k).syncOpen = some r.edge ∧ (t.frame k).integEnd = some clock ∧ (t.frame k).state = .readout
      ∧ SameBut k s t := by
  obtain ⟨opened, others⟩ := frame_openTaken (s := s) (r := r) (k := k)
  obtain ⟨integrated, others'⟩ := frame_of_setFrame ht
  rw [integrated, opened]
  exact ⟨rfl, rfl, rfl, others.trans others'⟩

/-- The state once integration of the frame in record `k` has ended, with no drive on (R72). -/
def State.integrated (s : State) (k : Fin 16) : State := { s with
  store := (s.setFrame k ((s.frame k).intoReadout s.clock)).store
  seq := { s.seq with
    state := .readout, refusedTrip := none, startWait := none, endWait := some 1000
    shot := s.seq.shot.map Shot.stopped }
  sync := { s.sync with target := none, expect := .none, listening := false, rearmed := false }
  sent := s.sent ++ [.sensorEnd] }

theorem endIntegration_of_idle (hd : s.driver.phase.driving = false) (hk : s.find h.id = some k)
    (hx : (s.frame k).state = .exposing) : endIntegration h s = s.integrated k := by
  rw [endIntegration_eq hk hx, Driver.offNow_of_idle hd, if_neg (by simp [hd])]
  rfl

theorem QualifiesFor.tailEnded (x : QualifiesFor s r g h k) (hx : (s.frame k).state = .exposing) :
    endIntegration h ((s.openTaken r k).inTail h) = ((s.openTaken r k).inTail h).integrated k := by
  refine endIntegration_of_idle (earlyClosed_driving (k := k)) ((find_openTaken h.id).trans x.find) ?_
  exact (congrArg Frame.state frame_openTaken.1).trans hx

/-- Settles O43: the edge is recorded first, and the sequencer then takes it. -/
theorem qualifiedSyncOfAShotIsRecorded : Obligations.QualifiedSyncOfAShotIsRecorded := by
  unfold Obligations.QualifiedSyncOfAShotIsRecorded
  intro s r g h k hs locked hq target shot id find
  have x : QualifiesFor s.quiet r g h k := ⟨hq, locked, target, shot, id ▸ find, find⟩
  refine ⟨fun hc he hw => ?_, fun hc he hw => ?_, fun hc he ho ht => ?_, fun hc he ho ht hx => ?_⟩
  · refine yields_qualify hs hq ((x.waitSync hc he hw).trans (enterOpen_eq x.released x.shot)) rfl fun keeps => ?_
    exact and_assoc.1 ⟨frame_of_setFrame rfl, rfl, rfl, rfl,
      keeps (by simp [frontParts, Part.Same, State.inOpen, State.closeRecorded, State.afterRun])⟩
  · refine yields_qualify hs hq ((x.tripped hc he).trans
      (qualifiedClose_tripped (s := (s.quiet.afterRun r).closeRecorded k r.edge) locked hw shot)) rfl fun keeps => ?_
    exact and_assoc.1 ⟨frame_of_setFrame rfl, rfl, rfl,
      keeps (by simp [frontParts, Part.Same, State.closeRecorded, State.afterRun])⟩
  · refine yields_qualify hs hq ((x.opens hc he ho).trans (if_neg (by omega)))
      (FrontWork.trans (t := s.quiet.openTaken r k) openTaken_work inTail_work) fun keeps => ?_
    have frame := frame_openTaken (s := s.quiet) (r := r) (k := k)
    exact ⟨frame.1, frame.2, rfl, rfl, rfl, keeps (by
      simp [frontParts, Part.Same, State.inTail, State.openTaken, State.earlyClosed, State.openRecorded,
        State.afterRun])⟩
  · refine yields_qualify hs hq ((x.opens hc he ho).trans ((if_pos ht).trans (x.tailEnded hx)))
      (FrontWork.trans (t := s.quiet.openTaken r k) openTaken_work rfl) fun keeps => ?_
    obtain ⟨opened, ended, readout, others⟩ := frame_openEnded (s := s.quiet) (r := r) (k := k) s.clock
      (t := settle s (((s.quiet.openTaken r k).inTail h).integrated k)) rfl
    exact ⟨opened, ended, readout, others, rfl, rfl, rfl, rfl, keeps (by
      simp [frontParts, Part.Same, State.integrated, State.inTail, State.openTaken, State.earlyClosed,
        State.openRecorded, State.afterRun])⟩

end Sys2Proof.Machine

namespace Sys2Proof.Machine

/-! ### Reports to the target's frame (R30, R33, R34) -/

variable {s t u a : State} {k : Fin 16} {r : Run} {id edge : Word} {e : Exposure} {h : Shot}

/-- A report to the frame of the shot target, when a target is set (R34). -/
def reportTarget (f : Frame → Frame) (s : State) : State :=
  match s.sync.target with
  | some g => report g.id f s
  | none => s

/-- The record of the target's frame has become `f` of what it was; no other record has changed. -/
def TargetRecord (f : Frame → Frame) (s t : State) : Prop :=
  (∀ g k, s.sync.target = some g → s.find g.id = some k → t.frame k = f (s.frame k) ∧ SameBut k s t)
    ∧ ((∀ g, s.sync.target = some g → s.find g.id = none) → ∀ k, t.frame k = s.frame k)

theorem reportTarget_eq (f : Frame → Frame) (s : State) :
    reportTarget f s = { s with store := { s.store with frames := (reportTarget f s).store.frames } } := by
  unfold reportTarget
  split
  · exact report_onlyFrames _ _ _
  · rfl

theorem reportTarget_records (f : Frame → Frame) (ht : t.store.frames = (reportTarget f s).store.frames) :
    TargetRecord f s t := by
  have frame : ∀ j, t.frame j = (reportTarget f s).frame j := State.frame_congr t _ ht
  refine ⟨fun g k hg hk => ?_, fun hn k => ?_⟩
  · have reported : reportTarget f s = s.setFrame k (f (s.frame k)) := by
      unfold reportTarget
      rw [hg]
      exact report_of_find hk f
    exact frame_of_setFrame (by rw [ht, reported])
  · rw [frame k]
    unfold reportTarget
    split
    · next g hg => simp [frame_report, hn g hg]
    · rfl

theorem countBounce_eq : countBounce s = reportTarget (fun f => { f with bounce := satInc 255 f.bounce }) s := rfl

/-! ### Close starts and the runs they begin (R28, R36, R77, R78) -/

theorem qualifyTime_eq (closing : Bool) : s.qualifyTime closing = qualifyIn s closing := by
  unfold State.qualifyTime qualifyIn
  cases s.sync.target <;> rfl

/-- A run of this level begun now (R28). -/
def State.begun (s : State) (closing : Bool) : State :=
  { s with sync := { s.sync with run := some ⟨closing, s.clock, 0, qualifyIn s closing⟩ } }

theorem beginRun_eq (closing : Bool) :
    beginRun closing s = if closing then closeStart s.clock (s.begun closing) else s.begun closing := by
  unfold beginRun
  rw [qualifyTime_eq]
  rfl

/-- No trip edge comes of a close start outside ARMED (R59, R77). -/
theorem closeStart_unarmed (hl : s.ListensInArmed) (ha : s.seq.state ≠ .armed) : closeStart edge s = ordinaryStart s :=
  if_neg fun h => ha (hl (Bool.and_eq_true_iff.1 h).1)

theorem closeStart_ordinary (hl : s.ListensInArmed) (ho : OrdinaryStart s) : closeStart edge s = s := by
  rcases ho with ⟨armed, tripped⟩ | ⟨armed, deaf⟩
  · exact (closeStart_unarmed hl armed).trans (if_neg tripped)
  · have silent : ¬(s.sync.listening && !s.sync.rearmed) = true := by
      rcases deaf with h | h <;> simp [h]
    exact (if_neg silent).trans (if_neg (by simp [armed]))

/-- In TRIPPED a close start stops the false-start window (R78). -/
theorem closeStart_tripped (hl : s.ListensInArmed) (ht : s.seq.state = .tripped) (hs : s.seq.shot = some h) :
    closeStart edge s = { s with seq := { s.seq with shot := some { h with windowTimer := none } } } := by
  rw [closeStart_unarmed hl (by simp [ht]), ordinaryStart, if_pos ht]
  simp [onShot, State.onSeq, hs]

theorem closeStart_trip (hl : s.sync.listening = true) (hr : s.sync.rearmed = false) :
    closeStart edge s = handOn (.tripEdge edge s.setup.exposure false) s := if_pos (by simp [hl, hr])

/-! ### Abandoned runs (R30) -/

theorem closeAbandoned_eq : closeAbandoned edge s = { s with
    seq := if s.seq.state = .tripped then { s.seq with
        shot := s.seq.shot.map fun h => { h with windowTimer := some (h.windowTimer.getD (h.params.falseStart * 1000)) } }
      else if s.seq.state = .armed ∧ s.seq.refusedTrip = some edge then { s.seq with refusedTrip := none }
      else s.seq } := by
  unfold closeAbandoned
  split
  · next ht => rw [if_pos ht]; rfl
  · next ha =>
    by_cases hr : s.seq.refusedTrip = some edge
    · rw [if_pos hr]; simp [ha, hr, State.onSeq]
    · rw [if_neg hr]; simp [ha, hr]
  · next ht ha => rw [if_neg ht, if_neg fun h => ha h.1]

/-- The sync input without its run. -/
def State.runless (s : State) : State := { s with sync := { s.sync with run := none } }

theorem abandonRun_open (hc : r.closing = false) : abandonRun r s = s.runless := if_neg (by simp [hc])

theorem abandonRun_close (hc : r.closing = true) : abandonRun r s =
    if s.tripAwaited r.edge then markAbandoned r.edge (countBounce s.runless)
    else closeAbandoned r.edge (countBounce s.runless) := by
  have awaited : (countBounce s.runless).tripAwaited r.edge = s.tripAwaited r.edge := by
    unfold State.tripAwaited
    rw [countBounce_eq, reportTarget_eq]
    rfl
  refine (if_pos hc).trans ?_
  rw [← awaited]
  rfl

/-- An abandoned run leaves the sync input; it may touch the records, the sequencer and the handoffs. -/
theorem abandonRun_work : FrontWork s (abandonRun r s) ∧ (abandonRun r s).sync = s.runless.sync
    ∧ (abandonRun r s).pins = s.pins := by
  cases hc : r.closing with
  | false => rw [abandonRun_open hc]; exact ⟨rfl, rfl, rfl⟩
  | true =>
    rw [abandonRun_close hc]
    split
    · rw [countBounce_eq, reportTarget_eq]
      exact ⟨rfl, rfl, rfl⟩
    · rw [closeAbandoned_eq, countBounce_eq, reportTarget_eq]
      exact ⟨rfl, rfl, rfl⟩

/-! ### A trip edge taken in ARMED (R37, R77) -/

/-- The record of an allocation is the one found by its id (R4). -/
theorem find_allocated {kind : FrameKind} {origin : Origin} {mode : Option ShotMode} (h0 : s.store.nextId ≠ 0)
    (h : allocate kind origin mode s = (a, some (k, id))) : a.find id = some k := by
  obtain ⟨live, held, -⟩ := allocate_frame h
  rcases allocate_cases h with ⟨-, -, hr⟩ | ⟨g, j, hc, hr, rfl⟩
  · cases hr
  cases hr
  have live' : ((fillSlot k s.freshId kind origin mode (reclaim g k s)).frame k).state ≠ FrameState.free := by
    simp [live]
  cases hf : (fillSlot k s.freshId kind origin mode (reclaim g k s)).find s.freshId with
  | none => exact absurd held (find_none hf (freshId_ne_zero h0) k live')
  | some j =>
    obtain ⟨-, livej, heldj⟩ := find_spec hf
    by_cases hj : j = k
    · rw [hj]
    · rw [fillSlot_frame, if_neg hj, reclaim_frame_other hc hj] at livej heldj
      exact absurd heldj (freshId_not_held h0 j livej)

theorem allocate_bounce {kind : FrameKind} {origin : Origin} {mode : Option ShotMode}
    (h : allocate kind origin mode s = (a, some (k, id))) : (a.frame k).bounce = 0 := by
  rcases allocate_cases h with ⟨-, -, hr⟩ | ⟨g, j, hc, hr, rfl⟩
  · cases hr
  · cases hr
    rw [fillSlot_frame, if_pos rfl]
    rfl

/-! An allocation looks only at the frame store, the setup and the causes. -/

section alike
variable (store : t.store = s.store) (setup : t.setup = s.setup)
include store

theorem report_store_congr (id : Word) (f : Frame → Frame) : (report id f t).store = (report id f s).store := by
  unfold report
  rw [find_of_store store]
  split
  · simp only [State.setFrame, State.onStore, State.frame, store]
  · exact store

theorem freeRecord_store_congr (k : Fin 16) : (freeRecord k t).store = (freeRecord k s).store := by
  have dropped : (dropLink (t.frame k).darkState t).store = (dropLink (s.frame k).darkState s).store := by
    rw [frame_of_store store]
    cases (s.frame k).darkState with
    | linked d => exact report_store_congr store d _
    | _ => exact store
  simp only [freeRecord, closeRanks, State.setFrame, State.onStore, dropped]
  rw [frame_of_store store]

theorem reclaim_store_congr (g : Nat) (k : Fin 16) : (reclaim g k t).store = (reclaim g k s).store := by
  unfold reclaim
  split <;> split
  · exact store
  · exact freeRecord_store_congr store k
  · exact store
  · exact freeRecord_store_congr store k

theorem heldIds_congr : t.heldIds = s.heldIds := by
  unfold State.heldIds
  simp only [frame_of_store store]

theorem freshId_congr : t.freshId = s.freshId := by
  unfold State.freshId
  rw [heldIds_congr store, store]

theorem fillSlot_store_congr {kind : FrameKind} {origin : Origin} {mode : Option ShotMode} :
    (fillSlot k id kind origin mode t).store = (fillSlot k id kind origin mode s).store := by
  have placed : (placeRecord k id kind origin mode t).store = (placeRecord k id kind origin mode s).store := by
    simp only [placeRecord, heldIds_congr store, frame_of_store store, State.setFrame, State.onStore, store]
  simp only [fillSlot, State.onStore, placed, heldIds_congr placed]

include setup

theorem candidate_congr : t.candidate = s.candidate := by
  unfold State.candidate State.candidateIn State.groupOf
  simp only [frame_of_store store, store, setup]

theorem allocate_congr {kind : FrameKind} {origin : Origin} {mode : Option ShotMode}
    (causes : t.req.causes = s.req.causes)
    (h : allocate kind origin mode s = (a, some (k, id))) :
    ∃ b, allocate kind origin mode t = (b, some (k, id)) ∧ b.store = a.store ∧ b.req.causes = a.req.causes := by
  rcases allocate_cases h with ⟨-, -, hr⟩ | ⟨g, j, hc, hr, rfl⟩
  · cases hr
  cases hr
  refine ⟨_, ?_, fillSlot_store_congr (reclaim_store_congr store g k), ?_⟩
  · rw [allocate_of_candidate _ _ _ ((candidate_congr store setup).trans hc), freshId_congr store]
  · rw [fillSlot_reclaim_causes, fillSlot_reclaim_causes, causes]

end alike

/-- A trip edge taken in ARMED with a slot starts a TRIPPED frame (R37, R77). -/
theorem tripEdge_slot (armed : s.seq.state = .armed) (idle : s.driver.phase.driving = false)
    (ha : allocate .light .tripped none s = (a, some (k, id))) (hf : a.find id = some k) : tripEdge edge e s = { a with
      store := (a.setFrame k { a.frame k with integStart := some edge }).store
      seq := { s.seq with
        state := .tripped, closingFlush := false, refusedTrip := none, flushWait := none, startWait := some 1000
        shot := some { newShot id k .light .tripped none 0 s.seq.stayArmed e 0 with
          capTimer := some (3600000000 - (s.clock - edge).toNat) } }
      sync := { s.sync with
        target := some ⟨id, e.closeQualify, e.openQualify, e.blankTime⟩, expect := .close
        listening := false, rearmed := false }
      sent := s.sent ++ [.sensorStart] } := by
  have front := allocate_eq ha
  have seq : a.seq = s.seq := by rw [front]
  have sync : a.sync = s.sync := by rw [front]
  have clock : a.clock = s.clock := by rw [front]
  have sent : a.sent = s.sent := by rw [front]
  have driver : a.driver = s.driver := by rw [front]
  have dated : report id (fun f => { f with integStart := some edge }) (issueStart a)
      = (issueStart a).setFrame k { a.frame k with integStart := some edge } :=
      report_of_find (s := issueStart a) ((find_of_store rfl id).trans hf) _
  have allocated : tripEdge edge e s = (seqEnter .tripped (makeShot
      { newShot id k .light .tripped none 0 a.seq.stayArmed e 0 with
        capTimer := some (integrationCapTime - (a.clock - edge).toNat) }
      (report id (fun f => { f with integStart := some edge }) (issueStart a)))).onSync
        fun y => { y with expect := .close } := by
    unfold tripEdge
    rw [if_neg (fun h => h armed), ha]
  rw [allocated, dated, seqEnter_outside_armed (by decide) fun hd => absurd hd (Bool.eq_false_iff.1 (driver ▸ idle)),
    ← seq, ← sync, ← clock, ← sent]
  rfl

/-- With no slot it is a missed shot EARLY and the refused trip edge (R77). -/
theorem tripEdge_full (armed : s.seq.state = .armed) (full : s.candidate = none) : tripEdge edge e s = { s with
    seq := { s.seq with refusedTrip := some edge }
    sync := { s.sync with missed := some (edge, .early), missedCount := satInc 65535 s.sync.missedCount }
    req := { s.req with causes := s.req.causes ||| Cause.storeFull.bit ||| Cause.missedShot.bit } } := by
  unfold tripEdge
  rw [if_neg (fun h => h armed), allocate_of_none _ _ _ full]
  rfl

theorem candidate_of_no_group (h : ∀ g j, ¬ InGroup s g j) : s.candidate = none := by
  by_contra hne
  obtain ⟨⟨g, j⟩, hc⟩ := Option.ne_none_iff_exists'.1 hne
  exact h g j (inGroup_iff.2 (candidate_spec hc).1)

/-- A trip edge that no handoff precedes and that is on its way for no time is taken at once (R37, log 23). -/
theorem handOn_trip (free : s.handoffs = []) (prompt : s.lags.headD 0 = 0) :
    handOn (.tripEdge edge e false) s = tripEdge edge e { s with lags := s.lags.tail } := handTo_prompt _ _ free prompt

/-- A trip edge that starts a TRIPPED frame leads to `Tripped` (R37, R77). The state in which the edge is taken, `t`, may
differ from the one in which it came in the outside levels, the sync input, the lags and what was sent. -/
theorem tripped_of_slot (h0 : s.store.nextId ≠ 0) (locked : s.DriveLocked) (armed : s.seq.state = .armed)
    (ha : allocate .light .tripped none s = (a, some (k, id)))
    (ht : t = { s with pins := t.pins, sync := t.sync, lags := t.lags, sent := [] }) (htrip : tripEdge s.clock e t = u) :
    FrontWork t u ∧ u.pins = t.pins ∧ u.driver = t.driver ∧ u.handoffs = t.handoffs
      ∧ u.sync = { t.sync with
          target := some ⟨id, e.closeQualify, e.openQualify, e.blankTime⟩, expect := .close
          listening := false, rearmed := false }
      ∧ ∀ v, v.store.frames = u.store.frames → v.store.nextId = u.store.nextId → v.seq = u.seq →
        v.sync = u.sync → v.req.causes = u.req.causes → v.sent = u.sent →
        Tripped a k id s.clock e false 3600000000 s v := by
  have store : t.store = s.store := by rw [ht]
  have seq : t.seq = s.seq := by rw [ht]
  have clock : t.clock = s.clock := by rw [ht]
  have driver : t.driver = s.driver := by rw [ht]
  have sent : t.sent = [] := by rw [ht]
  have idle : s.driver.phase.driving = false := Bool.eq_false_iff.2 fun hd => by
    have := (locked.permits hd).1
    simp [armed] at this
  obtain ⟨b, hb, storeb, causes⟩ := allocate_congr store (by rw [ht]) (by rw [ht]) ha
  have hf : b.find id = some k := (find_of_store storeb id).trans (find_allocated h0 ha)
  have hu : u = _ := htrip.symm.trans <| tripEdge_slot (seq ▸ armed) (driver ▸ idle) hb hf
  have front := allocate_eq hb
  refine ⟨?_, ?_, ?_, ?_, by rw [hu], fun v hframes hnext hseq hsync hcauses hsent => ?_⟩
  · rw [hu, front]; rfl
  · rw [hu, front]
  · rw [hu, front]
  · rw [hu, front]
  · rw [hu] at hframes hnext hseq hsync hcauses hsent
    have same : ∀ j, b.frame j = a.frame j := frame_of_store storeb
    obtain ⟨dated, others⟩ := frame_of_setFrame (s := b) (t := v) hframes
    have zero : (s.clock - s.clock).toNat = 0 := by simp
    refine ⟨?_, fun j hj => (others j hj).trans (same j), ?_, hcauses.trans causes, ?_, ?_⟩
    · rw [dated, same]
      simp [allocate_bounce ha]
    · exact hnext.trans (congrArg Store.nextId storeb :)
    · rw [hsent, sent]
      rfl
    · rw [hseq, hsync]
      rw [seq, clock, zero]
      exact ⟨rfl, rfl, rfl, rfl, rfl, rfl, rfl, rfl, rfl, rfl, rfl⟩

end Sys2Proof.Machine

namespace Sys2Proof.Machine

/-! ### Raw edges and the sample at blanking end (R27, R28, R30, R32, R33) -/

variable {s t u a : State} {k : Fin 16} {r : Run} {id edge : Word} {e : Exposure} {h : Shot} {closed : Bool}

/-- The sample shows a level. -/
def State.showing (s : State) (closed : Bool) : State := { s with pins := { s.pins with syncClosed := closed } }

/-- The blanking timer has stopped. -/
def State.unblanked (s : State) : State := { s with sync := { s.sync with blanking := none } }

theorem rawEdge_same (h : closed = s.pins.syncClosed) : rawEdge closed s = s := if_pos h

/-- An edge during blanking is not taken (R32). -/
theorem rawEdge_blanked (h : closed ≠ s.pins.syncClosed) (hb : s.sync.blanking ≠ none) :
    rawEdge closed s = s.showing closed :=
  (if_neg h).trans (if_pos (Option.isSome_iff_ne_none.2 hb))

theorem rawEdge_taken (h : closed ≠ s.pins.syncClosed) (hb : s.sync.blanking = none) :
    rawEdge closed s = takeEdge closed (s.showing closed) :=
  (if_neg h).trans (if_neg (by simp [hb]))

theorem takeEdge_begins (hn : s.sync.run = none) (h : closed ≠ s.sync.qualified) :
    takeEdge closed s = beginRun closed s := by
  unfold takeEdge
  rw [hn]
  exact if_neg (by simpa using h)

theorem takeEdge_abandons (hr : s.sync.run = some r) (h : closed = s.sync.qualified) :
    takeEdge closed s = abandonRun r s := by
  unfold takeEdge
  rw [hr]
  exact if_pos (by simpa using h)

/-- An edge away from the qualified state begins a run (R28). -/
theorem rawEdge_begins (h : closed ≠ s.pins.syncClosed) (hb : s.sync.blanking = none) (hn : s.sync.run = none)
    (away : closed ≠ s.sync.qualified) : rawEdge closed s = beginRun closed (s.showing closed) :=
  (rawEdge_taken h hb).trans (takeEdge_begins (s := s.showing closed) hn away)

/-- An edge back to the qualified state abandons the run in progress (R30). -/
theorem rawEdge_abandons (h : closed ≠ s.pins.syncClosed) (hb : s.sync.blanking = none) (hr : s.sync.run = some r)
    (back : closed = s.sync.qualified) : rawEdge closed s = abandonRun r (s.showing closed) :=
  (rawEdge_taken h hb).trans (takeEdge_abandons (s := s.showing closed) hr back)

/-- BLANKED_EDGE is added to the flags of a record (R33). -/
def Frame.blankedEdge (f : Frame) : Frame := f.withFlag .blankedEdge

/-! The sample at blanking end (R33). -/

theorem blankingEnd_abandons (hr : s.sync.run = some r) (h : s.pins.syncClosed = s.sync.qualified) :
    blankingEnd s = abandonRun r s.unblanked := by
  simp only [blankingEnd, State.onSync, hr]
  rw [if_pos h]
  rfl

/-- Nothing happens when a suspended run goes on, or there is no run and the sample does not differ. -/
theorem blankingEnd_goes_on (h : s.sync.run.isSome ∧ s.pins.syncClosed ≠ s.sync.qualified
    ∨ s.sync.run = none ∧ ¬s.pins.syncClosed ≠ s.sync.qualified) : blankingEnd s = s.unblanked := by
  rcases h with ⟨hr, differs⟩ | ⟨hr, same⟩
  · obtain ⟨r, hr⟩ := Option.isSome_iff_exists.1 hr
    simp only [blankingEnd, State.onSync, hr]
    rw [if_neg differs]
    simp only [State.unblanked, hr]
  · simp only [blankingEnd, State.onSync, hr]
    rw [if_pos (not_not.1 same)]
    simp only [State.unblanked, hr]

theorem blankingEnd_begins (hr : s.sync.run = none) (h : s.pins.syncClosed ≠ s.sync.qualified) :
    blankingEnd s = beginRun s.pins.syncClosed (reportTarget Frame.blankedEdge s.unblanked) := by
  have pins : (reportTarget Frame.blankedEdge s.unblanked).pins = s.pins := by rw [reportTarget_eq]; rfl
  rw [← pins]
  simp only [blankingEnd, State.onSync, hr]
  rw [if_neg h]
  cases ht : s.sync.target with
  | none => simp only [reportTarget, State.unblanked, ht, hr]
  | some g => simp only [reportTarget, State.unblanked, ht, hr]; rfl

theorem effect_blankingEnd (timer : s.sync.blanking = some 0) : effect .blankingEnd s = blankingEnd s :=
  if_pos (by simp [timer, timerDue])

/-- The abandonment of a closing run whose trip edge does not wait does what it is to do (R30). -/
theorem abandonRun_abandons (hc : r.closing = true) (hw : s.tripAwaited r.edge = false)
    (frames : t.store.frames = (abandonRun r s).store.frames) (seq : t.seq = (abandonRun r s).seq) :
    AbandonsClose r s t := by
  rw [abandonRun_close hc, hw, if_neg (by decide), closeAbandoned_eq] at frames seq
  obtain ⟨counted, kept⟩ := reportTarget_records _ (s := s.runless) (frames.trans rfl)
  refine ⟨counted, kept, seq.trans ?_⟩
  rw [countBounce_eq, reportTarget_eq]
  rfl

theorem yields_rawEdge {P : State → Prop} (hs : s.Awake) (he : rawEdge closed s.quiet = u) (work : FrontWork s u)
    (h : (∀ {c}, (∀ p ∈ frontParts, p ∉ c → p.Same s u) → Keeps c s (settle s u)) → P (settle s u)) :
    Yields (.syncRawEdge closed) s P := yields_front hs (runLine_of_awake hs.1) he work h

theorem yields_blankingEnd {P : State → Prop} (hs : s.Awake) (hb : s.sync.blanking = some 0)
    (he : blankingEnd s.quiet = u) (work : FrontWork s u)
    (h : (∀ {c}, (∀ p ∈ frontParts, p ∉ c → p.Same s u) → Keeps c s (settle s u)) → P (settle s u)) :
    Yields .blankingEnd s P := yields_front hs rfl ((effect_blankingEnd (s := s.quiet) hb).trans he) work h

/-! Runs that begin, by what their close start is (R36). -/

theorem beginRun_ordinary (hl : s.ListensInArmed) (h : closed = false ∨ OrdinaryStart s) :
    beginRun closed s = s.begun closed := by
  rw [beginRun_eq]
  rcases h with rfl | h
  · rfl
  · split
    · exact closeStart_ordinary (s := s.begun closed) hl h
    · rfl

theorem beginRun_tripped (hl : s.ListensInArmed) (ht : s.seq.state = .tripped) (hs : s.seq.shot = some h) :
    beginRun true s = { s.begun true with seq := { s.seq with shot := some { h with windowTimer := none } } } :=
  beginRun_eq true |>.trans (closeStart_tripped (s := s.begun true) hl ht hs)

theorem beginRun_trip (hl : s.sync.listening = true) (hr : s.sync.rearmed = false) :
    beginRun true s = handOn (.tripEdge s.clock s.setup.exposure false) (s.begun true) :=
  beginRun_eq true |>.trans (closeStart_trip (s := s.begun true) hl hr)

/-- The state in which the run of blanking end begins: the frame of the target is marked (R33). -/
def State.marked (s : State) : State := reportTarget Frame.blankedEdge s.unblanked

theorem marked_eq : s.marked = { s.unblanked with store := { s.store with frames := s.marked.store.frames } } :=
  reportTarget_eq _ _

theorem marked_records (ht : t.store.frames = s.marked.store.frames) : TargetRecord Frame.blankedEdge s t :=
  reportTarget_records (s := s.unblanked) _ ht

theorem marked_untargeted (h : s.sync.target = none) : s.marked = s.unblanked := by
  simp only [State.marked, reportTarget, State.unblanked, h]

/-- The abandonment of a closing run whose trip edge does not wait touches the run, the records and the sequencer. -/
theorem abandonRun_close_eq (hc : r.closing = true) (hw : s.tripAwaited r.edge = false) :
    abandonRun r s = { s.runless with
      store := { s.store with frames := (abandonRun r s).store.frames }, seq := (abandonRun r s).seq } := by
  rw [abandonRun_close hc, hw, if_neg (by decide), closeAbandoned_eq, countBounce_eq, reportTarget_eq]
  rfl

/-- The run that blanking end begins (R33). -/
def State.begunAtBlankingEnd (s : State) : State := { s with
  store := { s.store with frames := s.marked.store.frames }
  sync := { s.sync with
    blanking := none
    run := some ⟨s.pins.syncClosed, s.clock, 0, qualifyIn s s.pins.syncClosed⟩ } }

theorem marked_begun : s.marked.begun s.pins.syncClosed = s.begunAtBlankingEnd := by
  rw [marked_eq]
  rfl

theorem blankingEnd_ordinary (hl : s.ListensInArmed) (hn : s.sync.run = none) (h : s.pins.syncClosed ≠ s.sync.qualified)
    (ho : s.pins.syncClosed = false ∨ OrdinaryStart s) : blankingEnd s = s.begunAtBlankingEnd := by
  refine (blankingEnd_begins hn h).trans ((beginRun_ordinary (s := s.marked) ?_ ?_).trans marked_begun)
  · rw [marked_eq]; exact hl
  · rw [marked_eq]; exact ho

theorem blankingEnd_tripped (hl : s.ListensInArmed) (hn : s.sync.run = none) (h : s.pins.syncClosed ≠ s.sync.qualified)
    (hc : s.pins.syncClosed = true) (ht : s.seq.state = .tripped) {x : Shot} (hs : s.seq.shot = some x) : blankingEnd s =
      { s.begunAtBlankingEnd with seq := { s.seq with shot := some { x with windowTimer := none } } } := by
  rw [blankingEnd_begins hn h, ← marked_begun, hc]
  refine (beginRun_tripped (s := s.marked) (h := x) ?_ ?_ ?_).trans ?_
  · rw [marked_eq]; exact hl
  · rw [marked_eq]; exact ht
  · rw [marked_eq]; exact hs
  · rw [marked_eq]; rfl

theorem blankingEnd_trip (hn : s.sync.run = none) (h : s.pins.syncClosed ≠ s.sync.qualified)
    (hc : s.pins.syncClosed = true) (hl : s.sync.listening = true) (hr : s.sync.rearmed = false)
    (hg : s.sync.target = none) : blankingEnd s =
      handOn (.tripEdge s.clock s.setup.exposure false) (s.unblanked.begun true) := by
  rw [blankingEnd_begins hn h, ← State.marked, marked_untargeted hg, hc]
  exact beginRun_trip (s := s.unblanked) hl hr

/-- Settles O40, by what the edge or the sample makes of the run and what its close start then is. -/
theorem edgesAndBlankingMakeRuns : Obligations.EdgesAndBlankingMakeRuns := by
  unfold Obligations.EdgesAndBlankingMakeRuns
  intro s hs listens
  refine ⟨fun closed => ⟨fun same => ?_, fun edge hb => ?_, fun edge hb hn away quiet => ?_,
    fun h edge hb hn qualified hc tripped shot => ?_, fun r edge hb hr back => ?_⟩, fun timer =>
    ⟨fun same => ?_, fun r hr same => ?_, fun hn differs quiet => ?_, fun h hn differs hc tripped shot => ?_,
      fun hn differs hc listening rearmed target handoffs locked =>
        ⟨fun a k id h0 prompt ha => ?_, fun prompt full => ?_, fun n rest lags => ?_⟩⟩⟩
  · refine yields_rawEdge (u := s.quiet) hs (rawEdge_same same) rfl fun keeps =>
      keeps (by simp [frontParts, Part.Same, State.frame])
  · refine yields_rawEdge hs (rawEdge_blanked (s := s.quiet) edge hb) rfl fun keeps =>
      ⟨rfl, keeps (by simp [frontParts, Part.Same, State.frame, State.showing])⟩
  · refine yields_rawEdge hs ((rawEdge_begins (s := s.quiet) edge hb hn away).trans
      (beginRun_ordinary (s := s.quiet.showing closed) listens quiet)) rfl fun keeps =>
      ⟨rfl, rfl, keeps (by simp [frontParts, Part.Same, State.frame, State.showing, State.begun])⟩
  · subst hc
    refine yields_rawEdge hs ((rawEdge_begins (s := s.quiet) edge hb hn (by simp [qualified])).trans
      (beginRun_tripped (s := s.quiet.showing true) listens tripped shot)) rfl fun keeps =>
      ⟨rfl, rfl, rfl, keeps (by simp [frontParts, Part.Same, State.frame, State.showing, State.begun])⟩
  · obtain ⟨work, sync, pins⟩ := abandonRun_work (s := s.quiet.showing closed) (r := r)
    refine yields_rawEdge hs (rawEdge_abandons (s := s.quiet) edge hb hr back)
      (FrontWork.trans (t := s.quiet.showing closed) rfl work) fun keeps =>
      ⟨pins, sync, fun hc hw => ⟨?_, ?_⟩, fun hc => ?_⟩
    · exact abandonRun_abandons (s := s.quiet.showing closed) hc hw rfl rfl
    · rw [abandonRun_close_eq (s := s.quiet.showing closed) hc hw] at keeps ⊢
      exact keeps (by simp [frontParts, Part.Same, State.showing, State.runless])
    · rw [abandonRun_open hc] at keeps ⊢
      exact keeps (by simp [frontParts, Part.Same, State.frame, State.showing, State.runless])
  · refine yields_blankingEnd hs timer (blankingEnd_goes_on (s := s.quiet) same) rfl fun keeps =>
      ⟨rfl, keeps (by simp [frontParts, Part.Same, State.frame, State.unblanked])⟩
  · obtain ⟨work, sync, pins⟩ := abandonRun_work (s := s.quiet.unblanked) (r := r)
    refine yields_blankingEnd hs timer (blankingEnd_abandons (s := s.quiet) hr (not_not.1 same))
      (FrontWork.trans (t := s.quiet.unblanked) rfl work) fun keeps => ⟨sync, fun hc hw => ⟨?_, ?_⟩, fun hc => ?_⟩
    · exact abandonRun_abandons (s := s.quiet.unblanked) hc hw rfl rfl
    · rw [abandonRun_close_eq (s := s.quiet.unblanked) hc hw] at keeps ⊢
      exact keeps (by simp [frontParts, Part.Same, State.unblanked, State.runless])
    · rw [abandonRun_open hc] at keeps ⊢
      exact keeps (by simp [frontParts, Part.Same, State.frame, State.unblanked, State.runless])
  · refine yields_blankingEnd hs timer (blankingEnd_ordinary (s := s.quiet) listens hn differs quiet) rfl fun keeps =>
      ⟨rfl, marked_records (s := s.quiet) rfl, keeps (by simp [frontParts, Part.Same, State.begunAtBlankingEnd])⟩
  · refine yields_blankingEnd hs timer (blankingEnd_tripped (s := s.quiet) listens hn differs hc tripped shot) rfl
      fun keeps => ⟨rfl, marked_records (s := s.quiet) rfl, rfl,
        keeps (by simp [frontParts, Part.Same, State.begunAtBlankingEnd])⟩
  · have taken := (blankingEnd_trip (s := s.quiet) hn differs hc listening rearmed target).trans
      (handOn_trip (s := s.quiet.unblanked.begun true) handoffs prompt)
    generalize htrip : tripEdge _ _ _ = u at taken
    obtain ⟨work, pins, driver, kept, sync, tripped⟩ := tripped_of_slot h0 locked (listens listening) ha rfl htrip
    refine yields_blankingEnd hs timer taken
      (FrontWork.trans (t := { s.quiet.unblanked.begun true with lags := s.lags.tail }) rfl work) fun keeps =>
      ⟨tripped _ rfl rfl rfl rfl rfl rfl, ?_, ?_, ?_, ?_, keeps ?_⟩
    · exact (congrArg SyncInput.run sync).trans (by rw [hc]; rfl)
    · exact congrArg SyncInput.blanking sync
    · exact (congrArg SyncInput.missed sync :)
    · exact (congrArg SyncInput.qualified sync :)
    · simp [frontParts, Part.Same, pins, driver, kept, State.unblanked, State.begun]
  · have taken := (blankingEnd_trip (s := s.quiet) hn differs hc listening rearmed target).trans
      ((handOn_trip (s := s.quiet.unblanked.begun true) handoffs prompt).trans
        (tripEdge_full (listens listening) ((candidate_congr rfl rfl).trans (candidate_of_no_group full))))
    refine yields_blankingEnd hs timer taken rfl fun keeps => ⟨rfl, by rw [hc]; rfl, rfl,
      keeps (by simp [frontParts, Part.Same, State.frame, State.unblanked, State.begun])⟩
  · have taken := (blankingEnd_trip (s := s.quiet) hn differs hc listening rearmed target).trans
      (handTo_lag (s := s.quiet.unblanked.begun true) _ _ n rest handoffs lags)
    refine yields_blankingEnd hs timer taken rfl fun keeps => ⟨by rw [hc]; rfl, rfl, rfl,
      keeps (by simp [frontParts, Part.Same, State.frame, State.unblanked, State.begun])⟩

end Sys2Proof.Machine

namespace Sys2Proof.Machine

/-! ### One microsecond of an empty queue (R26, R29, R32, R49, R52) -/

variable {s t u : State}

/-- The microsecond in which no handoff arrives. -/
def quietMicrosecond (s : State) : State :=
  (microsecond s.quiet).onHandoffs fun _ => s.handoffs.map fun h => { h with lag := h.lag - 1 }

/-- The permission of a drive and its current do not turn on the timers that run. -/
theorem driveFlows_ticked : (tickSync (tickSeq s)).driveFlows = s.driveFlows := by
  have permission : (tickSync (tickSeq s)).permission = s.permission := by
    unfold State.permission
    cases h : s.seq.shot with
    | none => simp [tickSync, tickSeq, State.onSync, State.onSeq, h]
    | some x => simp [tickSync, tickSeq, State.onSync, State.onSeq, h, tickShot]
  unfold State.driveFlows
  rw [permission]
  rfl

/-- The current of a microsecond, sensed while it flows (R49, R52). -/
theorem senseDrive_eq (flows : Bool) (current : Nat) (d : Driver) : (if flows then senseDrive current d else d) = { d with
    cable := if flows = true ∧ 50000 ≤ current then .present else d.cable
    shortTimer := if flows = false then d.shortTimer else if 3000000 < current then satInc 10 d.shortTimer else 0
    openTimer := if flows = true ∧ d.openEval = true ∧ d.rampTimer = none then
        (if current < 50000 then satInc 10000 d.openTimer else 0)
      else d.openTimer } := by
  cases flows with
  | false => simp
  | true =>
    have evaluated : (d.openEval && d.rampTimer.isNone) = true ↔ d.openEval = true ∧ d.rampTimer = none := by
      rw [Bool.and_eq_true, Option.isNone_iff_eq_none]
    simp only [if_true, true_and, reduceCtorEq, if_false, senseDrive, evaluated, openThreshold, shortThreshold, shortTime,
      openTimerTop]
    rfl

/-- The driver's timers with one microsecond less to run. -/
def Driver.runDown (d : Driver) : Driver := { d with
  checkTimer := d.checkTimer.runDown, pullTimer := d.pullTimer.runDown
  holdTimer := d.holdTimer.runDown, bulbTimer := d.bulbTimer.runDown
  rampTimer := d.rampTimer.runDown, chopTimer := d.chopTimer.runDown
  supplyFilter := d.supplyFilter.runDown }

theorem tickDriver_driver :
    (tickDriver s).driver = (if s.driveFlows then senseDrive s.pins.sense s.driver else s.driver).runDown := rfl

theorem tick_driver : (quietMicrosecond s).driver = { s.driver with
    cable := if s.driveFlows = true ∧ 50000 ≤ s.pins.sense then .present else s.driver.cable
    shortTimer := if s.driveFlows = false then s.driver.shortTimer
      else if 3000000 < s.pins.sense then satInc 10 s.driver.shortTimer else 0
    openTimer := if s.driveFlows = true ∧ s.driver.openEval = true ∧ s.driver.rampTimer = none then
        (if s.pins.sense < 50000 then satInc 10000 s.driver.openTimer else 0)
      else s.driver.openTimer
    checkTimer := s.driver.checkTimer.runDown, pullTimer := s.driver.pullTimer.runDown
    holdTimer := s.driver.holdTimer.runDown, bulbTimer := s.driver.bulbTimer.runDown
    rampTimer := s.driver.rampTimer.runDown, chopTimer := s.driver.chopTimer.runDown
    supplyFilter := s.driver.supplyFilter.runDown } := by
  have flows : (tickSync (tickSeq { s.quiet with clock := s.clock + 1 })).driveFlows = s.driveFlows := driveFlows_ticked
  have ticked : (quietMicrosecond s).driver
      = (tickDriver (tickSync (tickSeq { s.quiet with clock := s.clock + 1 }))).driver := rfl
  rw [ticked, tickDriver_driver, flows]
  exact congrArg Driver.runDown (senseDrive_eq s.driveFlows s.pins.sense s.driver)

/-- A run counts outside blanking while the raw level stays at its own (R29, R32). -/
theorem tick_sync : (quietMicrosecond s).sync = { s.sync with
    rearmed := false, blanking := s.sync.blanking.runDown
    run := s.sync.run.map fun r => { r with
      counted := if s.sync.blanking = none ∧ s.pins.syncClosed = r.closing then r.counted + 1 else r.counted } } := by
  have counts (r : Run) : (if s.sync.blanking.isNone && s.pins.syncClosed == r.closing then
      { r with counted := r.counted + 1 } else r) = { r with
        counted := if s.sync.blanking = none ∧ s.pins.syncClosed = r.closing then r.counted + 1 else r.counted } := by
    by_cases h : s.sync.blanking = none ∧ s.pins.syncClosed = r.closing
    · rw [if_pos (by simp [h]), if_pos h]
    · rw [if_neg (by simpa using h), if_neg h]
  simp only [← counts]
  rfl

/-- The wait of a held read with one microsecond less to run; a read that is computed does not wait (R136). -/
def ReadCond.runDown : ReadCond → ReadCond
  | .held w => .held w.runDown
  | .computing => .computing

theorem tick_develop : (quietMicrosecond s).develop = { s.develop with
    service := s.develop.service.map fun sv => { sv with cond := sv.cond.runDown } } := by
  refine congrArg (fun x => { s.develop with service := x }) (Option.map_congr fun sv _ => ?_)
  split
  · next w held => rw [held]; rfl
  · next computing => rw [computing]; simp [ReadCond.runDown, ← computing]

theorem quietMicrosecond_keeps :
    Keeps [.clock, .sequencer, .sync, .driver, .readout, .card, .develop, .handoffs] s (quietMicrosecond s) := by
  intro p hp
  have kept := arrival_keeps s p hp
  cases p
  case handoffs => simp at hp
  all_goals exact kept

theorem step_quiet (hp : s.pending = []) (hs : s.Awake) (h : ∀ x ∈ s.handoffs, 1 < x.lag) :
    step s = .next (settle s (quietMicrosecond s)) := by
  have served : (quietMicrosecond s).PortServed := fun hn => hs.2 (Option.map_eq_none_iff.1 hn)
  have ticked : takeArrived (microsecond s.quiet) = quietMicrosecond s := takeArrived_none h
  simp only [step, hp, tick, hs.1, ticked, Bool.false_eq_true, if_false]
  rw [pump_of_served (s := quietMicrosecond s) served]

/-- Settles O33: with no handoff arriving the step is the microsecond of every block, settled. -/
theorem idleStepIsOneMicrosecond : Obligations.IdleStepIsOneMicrosecond := by
  unfold Obligations.IdleStepIsOneMicrosecond
  intro s hp hs later
  refine ⟨_, step_quiet hp hs later, rfl, rfl, rfl, hs.1, rfl, (settle_sync s _).trans tick_sync,
    (settle_driver s _).trans tick_driver, rfl, settle_card_of_jobs rfl,
    fun sv w service held => ?_, fun computing => ?_, ?_⟩
  · rw [settle_develop]
    exact tick_develop.trans (by simp only [service, Option.map_some, held, ReadCond.runDown])
  · rw [settle_develop, tick_develop]
    have same : s.develop.service.map (fun sv => { sv with cond := sv.cond.runDown }) = s.develop.service :=
      (Option.map_congr fun sv hsv => by
        have unwaited : sv.cond.runDown = sv.cond := by rw [computing sv hsv]; rfl
        rw [unwaited]).trans Option.map_id'
    rw [same]
  · exact keeps_settle s quietMicrosecond_keeps

end Sys2Proof.Machine

namespace Sys2Proof.Machine

/-! ### The driver's reports, as the sequencer takes them (R69, R70) -/

variable {s t u : State} {k : Fin 16} {h : Shot} {cause : DriveEnd} {off : Word} {d : Driver} {causes : BitVec 14}

/-- The record `k` with more flags. -/
def State.flagged (s : State) (k : Fin 16) (flags : BitVec 13) : State :=
  { s with store := (s.setFrame k { s.frame k with flags := (s.frame k).flags ||| flags }).store }

theorem flagged_zero : s.flagged k 0 = s := by
  have same : { s.frame k with flags := (s.frame k).flags ||| 0 } = s.frame k := by simp
  unfold State.flagged
  rw [same, setFrame_frames_self]

theorem flagged_frames {b : BitVec 13} (ht : t.store.frames = (s.flagged k b).store.frames) :
    t.frame k = { s.frame k with flags := (s.frame k).flags ||| b } ∧ SameBut k s t := frame_of_setFrame ht

theorem addFlag_flagged {f : Flag} (hk : s.find h.id = some k) : addFlag h.id f s = s.flagged k f.bit :=
  addFlag_of_find hk

/-- The flag of a drive ended report is added to the frame's record (R70). -/
theorem addEndFlag_eq (hk : s.find h.id = some k) : addFlag? h.id cause.flag s = s.flagged k (endFlag cause) := by
  cases cause with
  | openAbort => exact addFlag_flagged hk
  | short => exact addFlag_flagged hk
  | lowSupply => exact addFlag_flagged hk
  | bulbEnd => exact flagged_zero.symm
  | holdLimit => exact flagged_zero.symm

/-- Taken in OPEN the report adds its flag, and a TIMED_BULB shot waits for its open from the drive off (R69, R70). -/
theorem takeDriveEnd_open (ho : s.seq.state = .open) (hs : s.seq.shot = some h) (hk : s.find h.id = some k) :
    takeDriveEnd cause off s = { s.flagged k (endFlag cause) with
      seq := { s.seq with shot := some { h with
        openWait := if h.mode = some .timedBulb then some (h.params.syncTimeout * 1000 - (s.clock - off).toNat)
          else h.openWait } } } := by
  unfold takeDriveEnd
  rw [ho, hs]
  simp only [addEndFlag_eq hk]
  by_cases hb : h.mode = some .timedBulb
  · simp only [if_pos hb, onShot, State.onSeq]
    rw [show (s.flagged k (endFlag cause)).seq = s.seq from rfl, hs]
    rfl
  · simp only [if_neg hb, ← hs]
    rfl

/-- Taken in TAIL or READOUT it only adds its flag; so it does in WAIT_SYNC when it does not spoil the shot (R70). -/
theorem takeDriveEnd_late (hs : s.seq.shot = some h) (hk : s.find h.id = some k)
    (ho : s.seq.state = .tail ∨ s.seq.state = .readout ∨ s.seq.state = .waitSync ∧ cause ≠ .openAbort ∧ cause ≠ .short) :
    takeDriveEnd cause off s = s.flagged k (endFlag cause) := by
  unfold takeDriveEnd
  rcases ho with ho | ho | ⟨ho, notOpen, notShort⟩
  · rw [ho, hs]
    exact addEndFlag_eq hk
  · rw [ho, hs]
    exact addEndFlag_eq hk
  · rw [ho, hs]
    cases cause with
    | openAbort => exact absurd rfl notOpen
    | short => exact absurd rfl notShort
    | lowSupply => exact addFlag_flagged hk
    | bulbEnd => exact flagged_zero.symm
    | holdLimit => exact flagged_zero.symm

theorem takeDriveEnd_spoils (ho : s.seq.state = .waitSync) (hs : s.seq.shot = some h)
    (hc : cause = .openAbort ∨ cause = .short) : takeDriveEnd cause off s = leaveSpoiled h .releaseFault .returning s := by
  unfold takeDriveEnd
  rw [ho, hs]
  rcases hc with rfl | rfl <;> rfl

theorem takeOpenContinuing_eq (ho : s.seq.state ∈ [.waitSync, .open, .tail, .readout]) (hs : s.seq.shot = some h)
    (hk : s.find h.id = some k) : takeOpenContinuing s = s.flagged k Flag.openLoad.bit := by
  unfold takeOpenContinuing
  simp only [List.mem_cons, List.not_mem_nil, or_false] at ho
  rcases ho with ho | ho | ho | ho <;> rw [ho, hs] <;> exact addFlag_flagged hk

/-! ### What ends a drive (R41, R47, R50, R52, R54) -/

/-- The drive of the driver `d` has gone off, a phase change (R31, R47), with these causes raised. -/
def State.driveGone (s : State) (d : Driver) (causes : BitVec 14) : State :=
  { s with driver := d.gone, sync := { s.sync with blanking := blankedBy s }, req := { s.req with causes := causes } }

theorem endDrive_eq (hd : s.driver.phase.driving = true) :
    endDrive cause s = reportDrive (.driveEnded cause s.clock) (s.driveGone s.driver s.req.causes) := by
  unfold endDrive
  rw [driveOff_of_driving hd]
  rfl

theorem effect_bulbEnd (hd : s.driver.phase.driving = true) (timer : s.driver.bulbTimer = some 0) :
    effect .bulbEnd s = reportDrive (.driveEnded .bulbEnd s.clock) (s.driveGone s.driver s.req.causes) :=
  (if_pos (by simp [hd, timer, timerDue])).trans (endDrive_eq hd)

theorem effect_holdLimit (hd : s.driver.phase.driving = true) (phase : s.driver.phase = .hold)
    (timer : s.driver.holdTimer = some 0) :
    effect .holdLimit s = reportDrive (.driveEnded .holdLimit s.clock) (s.driveGone s.driver s.req.causes) :=
  (if_pos (by simp [phase, timer, timerDue])).trans (endDrive_eq hd)

theorem effect_lowSupply (hd : s.driver.phase.driving = true) (filter : s.driver.supplyFilter = some 0)
    (low : s.pins.supplyLow = true) (was : s.driver.supplyLow = false) :
    effect .lowSupplyIndication s = reportDrive (.driveEnded .lowSupply s.clock)
      (s.driveGone { s.driver with supplyLow := true, supplyFilter := none } s.req.causes) := by
  refine (effect_lowSupplyIndication filter).trans ?_
  unfold indicateSupply
  simp only [State.onDriver, low, was, hd, Bool.not_false, Bool.and_self, if_true]
  exact endDrive_eq (s := { s with driver := { s.driver with supplyLow := true, supplyFilter := none } }) hd

theorem effect_short (hd : s.driver.phase.driving = true) (timer : 10 ≤ s.driver.shortTimer) :
    effect .shortDetected s = reportDrive (.driveEnded .short s.clock)
      (s.driveGone { s.driver with faultShort := true } (s.req.causes ||| Cause.releaseFault.bit)) := by
  refine (if_pos (by simp [hd, timer, shortTime])).trans ?_
  unfold latchShort
  rw [driveOff_of_driving hd]
  rfl

/-- An open load is latched under CONTINUE: the drive goes on without open evaluation (R50). -/
def State.openContinued (s : State) : State := { s with
  driver := { s.driver with faultOpen := true, cable := .absent, openEval := false }
  req := { s.req with causes := s.req.causes ||| Cause.releaseFault.bit } }

section openLoad
variable {p : DriveParams} (hd : s.driver.phase.driving = true) (eval : s.driver.openEval = true)
  (params : s.driver.params = some p) (timer : p.deglitch ≤ s.driver.openTimer)
include hd eval params timer

theorem openDue_of : s.openDue = true := by simp [State.openDue, hd, eval, params, timer]

theorem effect_openAbort (response : p.response = .abort) :
    effect .openLoadLatch s = reportDrive (.driveEnded .openAbort s.clock)
      (s.driveGone { s.driver with faultOpen := true, cable := .absent } (s.req.causes ||| Cause.releaseFault.bit)) := by
  refine (if_pos (openDue_of hd eval params timer)).trans ?_
  unfold latchOpen
  rw [params, Option.map_some, response, if_neg (by decide)]
  exact endDrive_eq (s := raise .releaseFault (s.onDriver fun d => { d with faultOpen := true, cable := .absent })) hd

theorem effect_openContinue (response : p.response = .continue) :
    effect .openLoadLatch s = reportDrive .openContinuing s.openContinued := by
  refine (if_pos (openDue_of hd eval params timer)).trans ?_
  unfold latchOpen
  rw [params, Option.map_some, response, if_pos rfl]
  rfl

end openLoad

/-! Reports that are taken at once, and reports that are on their way (log 23). -/

theorem reportDrive_prompt (ready : s.Prompt) (report : DriverReport) :
    reportDrive report s = takeReport (s.seq.shot.map (·.id)) report { s with lags := s.lags.tail } :=
  handTo_prompt _ _ ready.1 ready.2

theorem takeReport_ended (s : State) :
    takeReport (s.seq.shot.map (·.id)) (.driveEnded cause off) s = takeDriveEnd cause off s :=
  if_pos rfl

theorem takeReport_continuing (s : State) :
    takeReport (s.seq.shot.map (·.id)) .openContinuing s = takeOpenContinuing s :=
  if_pos rfl

theorem reportDrive_lag {n : Nat} {rest : List Nat} (free : s.handoffs = []) (lags : s.lags = (n + 1) :: rest)
    (report : DriverReport) : reportDrive report s = { s with
      handoffs := [⟨.driver (s.seq.shot.map (·.id)) report, n + 1⟩], lags := rest } :=
  handTo_lag _ _ n rest free lags

end Sys2Proof.Machine

namespace Sys2Proof.Machine

/-! ### Drives that end without spoiling their shot (R41, R47, R69, R70) -/

variable {s t u : State} {k : Fin 16} {h : Shot} {cause : DriveEnd} {off : Word} {d : Driver} {causes : BitVec 14}
  {i : Instr}

/-- The report of the end of a drive leaves its shot in flight when it is taken in this state (R70). -/
def KeepsShot (cause : DriveEnd) (st : SeqState) : Prop :=
  st = .open ∨ st = .tail ∨ st = .readout ∨ st = .waitSync ∧ cause ≠ .openAbort ∧ cause ≠ .short

theorem takeDriveEnd_kept (hs : s.seq.shot = some h) (hk : s.find h.id = some k) (ho : KeepsShot cause s.seq.state)
    {n : Nat} (since : (s.clock - off).toNat = n) : takeDriveEnd cause off s = { s.flagged k (endFlag cause) with
      seq := { s.seq with shot := some { h with
        openWait := if s.seq.state = .open ∧ h.mode = some .timedBulb
          then some (h.params.syncTimeout * 1000 - n) else h.openWait } } } := by
  rcases ho with ho | late
  · rw [takeDriveEnd_open ho hs hk]
    simp only [ho, true_and, since]
  · have unopened : ¬(s.seq.state = .open ∧ h.mode = some .timedBulb) := by
      rintro ⟨ho, -⟩
      simp [ho] at late
    rw [takeDriveEnd_late hs hk late, if_neg unopened, ← hs]
    rfl

theorem endFlag_eq : (cause.flag.map Flag.bit).getD 0 = endFlag cause := by cases cause <;> rfl

/-- A drive whose end is reported at once and that keeps its shot. -/
theorem yields_driveEnded (hs : s.Awake) (hi : exec i s = run (effect i) s) (ready : s.Prompt)
    (shot : s.seq.shot = some h) (find : s.find h.id = some k) (kept : KeepsShot cause s.seq.state)
    (he : effect i s.quiet = reportDrive (.driveEnded cause s.clock) (s.quiet.driveGone d causes)) :
    Yields i s fun t => DriveEnded d cause.flag h k s t ∧ t.req.causes = causes
      ∧ Keeps [.records, .causes, .driver, .sync, .sequencer] s t := by
  have taken := he.trans ((reportDrive_prompt (s := s.quiet.driveGone d causes) ready _).trans
    ((takeReport_ended { s.quiet.driveGone d causes with lags := s.lags.tail }).trans
      (takeDriveEnd_kept (s := { s.quiet.driveGone d causes with lags := s.lags.tail }) (n := 0) shot find kept
        (by simp [State.driveGone]))))
  obtain ⟨frame, others⟩ := flagged_frames (s := s) (k := k) (b := endFlag cause)
    (t := { s.quiet.driveGone d causes with lags := s.lags.tail }.flagged k (endFlag cause)) rfl
  refine yields_front hs hi taken rfl fun keeps => ⟨⟨rfl, rfl, ?_, ?_, ?_⟩, rfl, keeps ?_⟩
  · rw [settle_frame, endFlag_eq]
    exact frame
  · exact others
  · rfl
  · simp [frontParts, Part.Same, State.flagged, State.driveGone]

/-- A drive whose end is on its way to the sequencer. -/
theorem yields_driveHanded {n : Nat} {rest : List Nat} (hs : s.Awake) (hi : exec i s = run (effect i) s)
    (free : s.handoffs = []) (lags : s.lags = (n + 1) :: rest)
    (he : effect i s.quiet = reportDrive (.driveEnded cause s.clock) (s.quiet.driveGone d causes)) :
    Yields i s fun t => DriveHanded d (.driveEnded cause s.clock) (n + 1) s t ∧ t.req.causes = causes
      ∧ Keeps [.causes, .driver, .sync, .handoffs] s t := by
  have taken := he.trans (reportDrive_lag (s := s.quiet.driveGone d causes) free lags _)
  refine yields_front hs hi taken rfl fun keeps => ⟨⟨rfl, rfl, rfl, ?_⟩, rfl, keeps ?_⟩
  · rw [lags]; rfl
  · simp [frontParts, Part.Same, State.frame, State.driveGone]

/-! An open load under CONTINUE (R50, R70). -/

theorem reportDrive_continues (ready : s.Prompt) (shot : s.seq.shot = some h) (find : s.find h.id = some k)
    (flying : s.seq.state ∈ [.waitSync, .open, .tail, .readout]) :
    reportDrive .openContinuing s = { s with lags := s.lags.tail }.flagged k Flag.openLoad.bit :=
  (reportDrive_prompt ready _).trans ((takeReport_continuing { s with lags := s.lags.tail }).trans
    (takeOpenContinuing_eq (s := { s with lags := s.lags.tail }) flying shot find))

section continues
variable {p : DriveParams} (hs : s.Awake) (hd : s.driver.phase.driving = true) (eval : s.driver.openEval = true)
  (params : s.driver.params = some p) (timer : p.deglitch ≤ s.driver.openTimer) (response : p.response = .continue)
include hs hd eval params timer response

theorem yields_openContinues (ready : s.Prompt) (shot : s.seq.shot = some h) (find : s.find h.id = some k)
    (flying : s.seq.state ∈ [.waitSync, .open, .tail, .readout]) : Yields .openLoadLatch s fun t =>
      t.driver = { s.driver with faultOpen := true, cable := .absent, openEval := false }
        ∧ t.frame k = { s.frame k with flags := (s.frame k).flags ||| Flag.openLoad.bit } ∧ SameBut k s t
        ∧ t.req.causes = s.req.causes ||| Cause.releaseFault.bit ∧ Keeps [.records, .driver, .causes] s t := by
  have taken := (effect_openContinue (s := s.quiet) hd eval params timer response).trans
    (reportDrive_continues (s := s.quiet.openContinued) ready shot find flying)
  refine yields_front hs rfl taken rfl fun keeps => ⟨rfl, ?_⟩
  exact and_assoc.1 ⟨flagged_frames rfl, rfl, keeps (by simp [frontParts, Part.Same, State.flagged, State.openContinued])⟩

theorem yields_openContinues_handed {n : Nat} {rest : List Nat} (free : s.handoffs = []) (lags : s.lags = (n + 1) :: rest)
    (shot : s.seq.shot = some h) : Yields .openLoadLatch s fun t =>
      t.driver = { s.driver with faultOpen := true, cable := .absent, openEval := false }
        ∧ t.handoffs = [⟨.driver (some h.id) .openContinuing, n + 1⟩] ∧ t.lags = rest
        ∧ t.req.causes = s.req.causes ||| Cause.releaseFault.bit ∧ Keeps [.driver, .causes, .handoffs] s t := by
  have taken := (effect_openContinue (s := s.quiet) hd eval params timer response).trans
    (reportDrive_lag (s := s.quiet.openContinued) free lags .openContinuing)
  refine yields_front hs rfl taken rfl fun keeps => ⟨rfl, ?_, rfl, rfl,
    keeps (by simp [frontParts, Part.Same, State.frame, State.openContinued])⟩
  have named : s.seq.shot.map (·.id) = some h.id := by rw [shot]; rfl
  rw [← named]
  rfl

end continues

end Sys2Proof.Machine

namespace Sys2Proof.Machine

/-! ### A spoil is handed to the views and the card job (R7, R139, R160) -/

variable {s t u : State} {k : Fin 16} {h : Shot} {id : Word}

/-- What the develop engine and the card engine do with a spoil: they touch their own state, their memory clients, the
causes, what is sent, and of the records the pins and the settled mark. -/
structure Handed (s t : State) : Prop where
  only : t = { s with
    store := { s.store with frames := t.store.frames }, develop := t.develop, card := t.card, path := t.path
    dram := t.dram, req := { s.req with causes := t.req.causes }, sent := t.sent }
  frames : ∀ k, t.frame k = { s.frame k with
    viewPins := (t.frame k).viewPins, cardPins := (t.frame k).cardPins, settled := (t.frame k).settled }
  causes : ∀ c, s.Raised c → t.Raised c

theorem Handed.refl (s : State) : Handed s s := ⟨rfl, fun _ => rfl, fun _ h => h⟩

theorem Handed.trans (h : Handed s t) (g : Handed t u) : Handed s u := by
  refine ⟨?_, fun k => ?_, fun c hc => g.causes c (h.causes c hc)⟩
  · rw [g.only, h.only]
  · rw [g.frames k, h.frames k]

theorem OnlyData.handed (h : OnlyData s t) : Handed s t := by
  have store : t.store = s.store := by rw [h]
  refine ⟨?_, fun k => ?_, fun c hc => hc.congr (by rw [h])⟩
  · rw [h]
  · rw [frame_of_store store]

theorem handed_raise (c : Cause) (s : State) : Handed s (raise c s) := ⟨rfl, fun _ => rfl, fun _ h => h.raise c⟩

theorem handed_unpinView (x : View) (s : State) : Handed s (unpinView x s) := by
  refine ⟨?_, fun k => ?_, fun c hc => hc.congr ?_⟩
  · rw [unpinView_onlyFrames s x]; rfl
  · rw [frame_unpinView]
  · rw [unpinView_onlyFrames s x]; rfl

theorem onlyData_zeroRead (s : State) : OnlyData s (zeroRead s) := by
  unfold zeroRead
  refine .trans ?_ (onlyData_finishRead _ _)
  split
  · exact onlyData_onPath _ s
  · exact .refl s

theorem handed_breakView (v : Fin 4) (s : State) : Handed s (breakView v s) := by
  have served : Handed s (endService v s) := by
    unfold endService
    split
    · exact (onlyData_zeroRead s).handed
    · exact .refl s
  have broken : Handed (endService v s) ((endService v s).setView v { s.view v with state := .broken }) :=
    (onlyData_onDevelop _ _).handed
  exact ((served.trans broken).trans (handed_unpinView _ _)).trans (handed_raise _ _)

theorem handed_breakViews (id : Word) (s : State) : Handed s (breakViews id s) := by
  unfold breakViews
  generalize viewIndices = vs
  induction vs generalizing s with
  | nil => exact .refl s
  | cons v vs ih =>
    refine .trans ?_ (ih _)
    dsimp only
    split
    · exact handed_breakView v s
    · exact .refl s

theorem jobs_of_activeJob {j : Job} (h : s.card.activeJob = some j) : ∃ rest, s.card.jobs = j :: rest := by
  unfold CardEngine.activeJob at h
  split at h
  · next j' rest hj =>
    split at h
    · cases h
      exact ⟨rest, hj⟩
    · cases h
  · cases h

theorem handed_failActive {j : Job} (reason : FailReason) (h : s.card.activeJob = some j) :
    Handed s (failActive reason false s) := by
  obtain ⟨rest, jobs⟩ := jobs_of_activeJob h
  refine ⟨?_, fun k => ?_, fun c hc => ?_⟩
  · rw [failActive_run s reason false]
  · rw [failActive_frame reason jobs k]
    split <;> rfl
  · have raised := hc.raise .cardHalted
    exact raised.congr (failActive_causes reason s)

theorem handed_cardSpoiled (id : Word) (s : State) : Handed s (cardSpoiled id s) := by
  unfold cardSpoiled
  split
  · exact .refl s
  · next j hj =>
    split
    · split
      · exact (onlyData_onCard _ s).handed
      · exact handed_failActive _ hj
    · exact .refl s

end Sys2Proof.Machine

namespace Sys2Proof.Machine

/-! ### A shot that is spoiled and left (R7, R72, R74) -/

variable {s t u x : State} {k : Fin 16} {h : Shot} {id : Word} {reason : SpoilReason}

/-- The spoil of a frame in flight (R7). -/
theorem spoilFrame_of_find (hk : s.find id = some k) (hx : (s.frame k).state = .exposing) :
    spoilFrame id reason s = cardSpoiled id (breakViews id (spoilRecord k reason s)) := by
  have flying : s.inFlightRecord id = some k := by
    simp [State.inFlightRecord, hk, Option.filter, Frame.inFlight, hx]
  unfold spoilFrame
  rw [flying]

theorem handed_spoilFrame (hk : s.find id = some k) (hx : (s.frame k).state = .exposing) :
    Handed (spoilRecord k reason s) (spoilFrame id reason s) := by
  rw [spoilFrame_of_find hk hx]
  exact (handed_breakViews id _).trans (handed_cardSpoiled id _)

/-- With no view and no card job on the frame only the record takes note of its spoil (R139, R160). -/
theorem spoilFrame_unused (hk : s.find id = some k) (hx : (s.frame k).state = .exposing) (unused : NoUsers s id) :
    spoilFrame id reason s = spoilRecord k reason s := by
  obtain ⟨views, job⟩ := unused
  have views' : ∀ v, ¬(((spoilRecord k reason s).view v).state = .open
    ∧ ((spoilRecord k reason s).view v).frame = some id) := views
  have unseen : breakViews id (spoilRecord k reason s) = spoilRecord k reason s := by
    unfold breakViews
    generalize viewIndices = vs
    induction vs with
    | nil => rfl
    | cons v vs ih =>
      rw [List.foldl_cons, if_neg (views' v)]
      exact ih
  have unwritten : cardSpoiled id (spoilRecord k reason s) = spoilRecord k reason s := by
    unfold cardSpoiled
    split
    · rfl
    · next j hj => exact if_neg (job j hj)
  rw [spoilFrame_of_find hk hx, unseen, unwritten]

/-- The record of a spoil (R6, R7). -/
theorem spoilRecord_frames : (spoilRecord k reason s).frame k = { s.frame k with state := .spoiled, spoil := some reason }
    ∧ SameBut k s (spoilRecord k reason s) := frame_of_setFrame rfl

theorem spoilRecord_raised : (spoilRecord k reason s).Raised .shotSpoiled := raised_raise _ _

theorem find_spoiled (hs : Handed (spoilRecord k reason s) x) (hk : s.find id = some k) : x.find id = some k := by
  obtain ⟨spoiled, others⟩ := spoilRecord_frames (s := s) (k := k) (reason := reason)
  obtain ⟨-, live, -⟩ := find_spec hk
  refine (find_congr_live (fun j => ?_) id).trans hk
  rw [hs.frames j]
  by_cases hj : j = k
  · subst hj
    simp [spoiled, live]
  · simp [others j hj]

/-- The integration of a spoiled frame ends with it (R74). -/
def Frame.cutShort (f : Frame) (clock : Word) : Frame :=
  if f.integStart.isSome then { f with integEnd := some clock } else f

/-- The state in which a shot whose frame was integrating has been spoiled and left (R74). -/
def State.leftShot (s : State) (k : Fin 16) : State := { s with
  store := (s.setFrame k ((s.frame k).cutShort s.clock)).store
  driver := s.driver.offNow
  sync := { s.sync with
    target := none, expect := .none, blanking := if s.driver.phase.driving then s.blankNow else s.sync.blanking }
  seq := { s.seq with
    shot := none, startWait := none, closingFlush := true
    flushWait := if s.seq.flushWait.isSome then s.seq.flushWait else some (ms s.setup.sensor.flushTimeout) }
  sent := if s.seq.flushWait.isSome then s.sent else s.sent ++ [.sensorFlush] }

theorem spoilShot_eq (hk : s.find h.id = some k) (hx : (s.frame k).state = .exposing)
    (hxk : (spoilFrame h.id reason s).find h.id = some k) :
    spoilShot h reason s = (spoilFrame h.id reason s).leftShot k := by
  have exposing : ((s.find h.id).any fun k => (s.frame k).state == .exposing) = true := by simp [hk, hx]
  generalize hw : spoilFrame h.id reason s = w at hxk
  have find : (clearTarget (driveOff w)).find h.id = some k := by rw [driveOff_eq]; exact (find_of_store rfl _).trans hxk
  have cut := report_of_find find fun f => f.cutShort (clearTarget (driveOff w)).clock
  have spoilt : spoilShot h reason s = (closingFlush (report h.id (fun f => f.cutShort (clearTarget (driveOff w)).clock)
      (clearTarget (driveOff w)))).onSeq fun q => { q with shot := none, startWait := none } := by
    simp only [spoilShot, exposing, hw, if_true]
    rfl
  rw [spoilt, cut, driveOff_eq]
  unfold closingFlush
  cases hf : w.seq.flushWait.isSome with
  | true =>
    refine (congrArg (State.onSeq · _) (if_pos hf)).trans ?_
    simp only [State.leftShot, hf, if_true]
    rfl
  | false =>
    have idle : ¬w.seq.flushWait.isSome = true := by simp [hf]
    refine (congrArg (State.onSeq · _) (if_neg idle)).trans ?_
    simp only [State.leftShot, hf]
    rfl

/-- The return state entered with no drive on leaves the driver, the target and the expectation alone (R72). -/
theorem enterReturn_sync (h : Shot) (hd : s.driver.phase.driving = false) :
    (enterReturn h s).driver = s.driver ∧ (enterReturn h s).sync.target = s.sync.target
      ∧ (enterReturn h s).sync.expect = s.sync.expect := by
  unfold enterReturn
  extract_lets v
  split
  · rw [enterArmed_eq, seqEnter_keeps_drive (s := v) fun hx => absurd hx (Bool.eq_false_iff.1 hd)]
    exact ⟨rfl, rfl, rfl⟩
  · rw [seqEnter_keeps_drive (s := v) fun hx => absurd hx (Bool.eq_false_iff.1 hd)]
    exact ⟨rfl, rfl, rfl⟩

/-- A shot has been spoiled and left for its return state (R72, R74). -/
structure LeftSpoiled (reason : SpoilReason) (h : Shot) (k : Fin 16) (s t : State) : Prop where
  driver : t.driver = s.driver.offNow
  target : t.sync.target = none ∧ t.sync.expect = .none
  shot : t.seq.shot = none
  state : t.seq.state = if h.returnArmed then .armed else .idle
  record : SpoiledAs reason s.clock (s.frame k) (t.frame k)
  raised : t.Raised .shotSpoiled
  causes : ∀ c, s.Raised c → t.Raised c
  rest : t.handoffs = s.handoffs ∧ t.clock = s.clock ∧ t.inReset = s.inReset ∧ t.pending = s.pending

theorem spoiledAs_cutShort {f : Frame} (hf : f.state = .exposing) (clock : Word) (view card : Nat) (settled : Bool) :
    SpoiledAs reason clock f (Frame.cutShort { f with
      state := .spoiled, spoil := some reason, viewPins := view, cardPins := card, settled := settled } clock) := by
  unfold Frame.cutShort
  cases hi : f.integStart with
  | none => simp [SpoiledAs, hi]
  | some i => simp [SpoiledAs, hi, hf]

theorem leftShot_returns (hx : (s.frame k).state = .exposing) (hs : Handed (spoilRecord k reason s) x) :
    LeftSpoiled reason h k s (enterReturn h (x.leftShot k)) := by
  obtain ⟨spoiled, -⟩ := spoilRecord_frames (s := s) (k := k) (reason := reason)
  obtain ⟨only, store, shot, state⟩ := enterReturn_spec h (x.leftShot k)
  obtain ⟨driver, target, expect⟩ := enterReturn_sync (s := x.leftShot k) h (Driver.offNow_driving _)
  have causes (c : Cause) (hc : x.Raised c) : (enterReturn h (x.leftShot k)).Raised c := hc.congr (by rw [only]; rfl)
  refine ⟨?_, ⟨target, expect⟩, shot, state, ?_, causes _ (hs.causes _ spoilRecord_raised), fun c hc => ?_, ?_⟩
  · rw [driver, hs.only]; rfl
  · have cut : (enterReturn h (x.leftShot k)).frame k = (x.frame k).cutShort x.clock :=
      (frame_of_store store k).trans (frame_of_setFrame rfl).1
    have clock : x.clock = s.clock := by rw [hs.only]; rfl
    rw [cut, hs.frames k, spoiled, clock]
    exact spoiledAs_cutShort hx s.clock _ _ _
  · exact causes c (hs.causes c (hc.raise .shotSpoiled))
  · rw [only, hs.only]
    exact ⟨rfl, rfl, rfl, rfl⟩

theorem leaveSpoiled_returns (hk : s.find h.id = some k) (hx : (s.frame k).state = .exposing) :
    LeftSpoiled reason h k s (leaveSpoiled h reason .returning s) := by
  have handed := handed_spoilFrame (reason := reason) hk hx
  have left : leaveSpoiled h reason .returning s = enterReturn h ((spoilFrame h.id reason s).leftShot k) :=
    congrArg (enterReturn h) (spoilShot_eq hk hx (find_spoiled handed hk))
  rw [left]
  exact leftShot_returns hx handed

/-- With no view and no card job on the frame only the front parts take note (R7, R139, R160). -/
theorem leaveSpoiled_work (hk : s.find h.id = some k) (hx : (s.frame k).state = .exposing) (unused : NoUsers s h.id) :
    let t := leaveSpoiled h reason .returning s
    FrontWork s t ∧ SameBut k s t ∧ t.pins = s.pins ∧ t.handoffs = s.handoffs := by
  have left : leaveSpoiled h reason .returning s = enterReturn h ((spoilRecord k reason s).leftShot k) := by
    have spoilt := spoilShot_eq (reason := reason) hk hx (find_spoiled (handed_spoilFrame hk hx) hk)
    rw [spoilFrame_unused hk hx unused] at spoilt
    exact congrArg (enterReturn h) spoilt
  obtain ⟨only, store, -, -⟩ := enterReturn_spec h ((spoilRecord k reason s).leftShot k)
  intro t
  have ht : t = enterReturn h ((spoilRecord k reason s).leftShot k) := left
  have others : SameBut k (spoilRecord k reason s) t := fun j hj => by
    rw [ht, frame_of_store store]
    exact (frame_of_setFrame rfl).2 j hj
  have work : FrontWork (spoilRecord k reason s) t := by
    rw [ht, only]
    rfl
  refine ⟨FrontWork.trans (t := spoilRecord k reason s) rfl work, spoilRecord_frames.2.trans others, ?_, ?_⟩
  · rw [ht, only]; rfl
  · rw [ht, only]; rfl

end Sys2Proof.Machine

namespace Sys2Proof.Machine

/-! ### Drives whose end spoils the shot, and reports that arrive (R70, R74) -/

variable {s t u : State} {k : Fin 16} {h : Shot} {cause : DriveEnd} {off : Word} {d : Driver} {causes : BitVec 14}
  {i : Instr}

/-- A drive whose end is reported at once in WAIT_SYNC and spoils the shot. -/
theorem yields_driveSpoiled (hs : s.Awake) (hi : exec i s = run (effect i) s) (ready : s.Prompt)
    (shot : s.seq.shot = some h) (find : s.find h.id = some k) (exposing : (s.frame k).state = .exposing)
    (waits : s.seq.state = .waitSync) (spoils : cause = .openAbort ∨ cause = .short)
    (fault : causes.getLsbD Cause.releaseFault.position = true)
    (he : effect i s.quiet = reportDrive (.driveEnded cause s.clock) (s.quiet.driveGone d causes)) :
    Yields i s (DriveSpoiled d h k s) := by
  have taken := he.trans ((reportDrive_prompt (s := s.quiet.driveGone d causes) ready _).trans
    ((takeReport_ended { s.quiet.driveGone d causes with lags := s.lags.tail }).trans
      (takeDriveEnd_spoils (s := { s.quiet.driveGone d causes with lags := s.lags.tail }) waits shot spoils)))
  have left := leaveSpoiled_returns (s := { s.quiet.driveGone d causes with lags := s.lags.tail })
    (reason := .releaseFault) find exposing
  have alone := leaveSpoiled_work (s := { s.quiet.driveGone d causes with lags := s.lags.tail })
    (reason := .releaseFault) find exposing
  generalize leaveSpoiled _ _ _ _ = u at taken left alone
  have data := onlyData_pump u
  have same : SameOutcome u (settle s (pump u)) := sameOutcome_answer s u
  refine ⟨settle s (pump u), ?_, ?_⟩
  · rw [hi, run_of_awake hs.1, taken]
  · refine ⟨?_, ?_, ?_, ?_, ?_, ?_, ?_, ?_, fun unused => ?_⟩
    · exact (congrArg State.driver data).trans left.driver
    · rw [same.frame]
      exact left.record
    · rw [same.seq]
      exact left.shot
    · rw [same.seq]
      exact left.state
    · exact (congrArg (·.sync.target) data).trans left.target.1
    · exact (congrArg (·.sync.expect) data).trans left.target.2
    · exact (left.causes .releaseFault fault).congr same.causes
    · exact left.raised.congr same.causes
    · obtain ⟨work, others, pins, handoffs⟩ := alone unused
      have work' : FrontWork s u :=
        FrontWork.trans (t := { s.quiet.driveGone d causes with lags := s.lags.tail }) rfl work
      have still : pump u = u := pump_of_served (s := u) fun hn => work'.port.trans (hs.2 (work'.service.symm.trans hn))
      rw [still]
      refine ⟨others, keeps_settle s (work'.keeps_rest.restrict ?_)⟩
      simp [frontParts, Part.Same, pins, handoffs, State.driveGone]

theorem ArrivesLeaving.imp {rest : List Handoff} {m : Message} {P Q : State → Prop} (a : ArrivesLeaving rest m s P)
    (h : ∀ t, P t → Q t) : ArrivesLeaving rest m s Q := by
  intro hp hm
  obtain ⟨t, next, handoffs, clock, reset, pending, ht⟩ := a hp hm
  exact ⟨t, next, handoffs, clock, reset, pending, h t ht⟩

theorem arrival_shot (shot : s.seq.shot = some h) : (arrival s).seq.shot = some (tickShot h) :=
  congrArg (Option.map tickShot) shot

/-- The report of the shot in flight is taken. -/
theorem takeReport_own {x : Shot} (shot : s.seq.shot = some x) :
    takeReport (some x.id) (.driveEnded cause off) s = takeDriveEnd cause off s
      ∧ takeReport (some x.id) .openContinuing s = takeOpenContinuing s := by
  have own : some x.id = s.seq.shot.map (·.id) := by rw [shot]; rfl
  exact ⟨if_pos own, if_pos own⟩

/-- A report that names another shot is ignored (R65, R70). -/
theorem takeReport_foreign {id : Option Word} {report : DriverReport} (shot : s.seq.shot = some h)
    (foreign : id ≠ some h.id) : takeReport id report s = s := by
  have other : ¬id = s.seq.shot.map (·.id) := by rw [shot]; exact foreign
  cases report with
  | driveEnded cause off => exact if_neg other
  | openContinuing => exact if_neg other
  | checkResult present =>
    cases id with
    | none => rfl
    | some id =>
      have differs : h.id ≠ id := fun e => foreign (e ▸ rfl)
      unfold takeReport takeCheck
      dsimp only
      split
      · next x _ hx =>
        rw [shot] at hx
        cases hx
        exact if_neg fun c => differs c.1
      · rfl

theorem arrives_kept (hr : s.inReset = false) (shot : s.seq.shot = some h) (find : s.find h.id = some k)
    (kept : KeepsShot cause s.seq.state) : Arrives (.driver (some h.id) (.driveEnded cause off)) s fun t =>
      (t.frame k = { s.frame k with flags := (s.frame k).flags ||| endFlag cause } ∧ SameBut k s t
        ∧ t.seq.state = s.seq.state ∧ t.req.causes = s.req.causes)
      ∧ t.seq.shot = some { tickShot h with
          openWait := if s.seq.state = .open ∧ h.mode = some .timedBulb
            then some (h.params.syncTimeout * 1000 - (s.clock + 1 - off).toNat) else h.openWait.runDown } := by
  have taken := (takeReport_own (cause := cause) (off := off) (arrival_shot shot)).1.trans
    (takeDriveEnd_kept (arrival_shot shot) ((find_of_store rfl h.id).trans find) kept rfl)
  refine arrives hr fun t e ht o _ => ?_
  rw [show t = _ from ht.trans taken] at o ⊢
  obtain ⟨frames, -, -⟩ := o.store
  have record := flagged_frames (s := s) (k := k) (b := endFlag cause) frames
  exact ⟨rfl, rfl, rfl, rfl, ⟨record.1, record.2, by rw [o.seq]; rfl, by rw [o.causes]; rfl⟩, by rw [o.seq]; rfl⟩

/-- A report that spoils the shot is taken in WAIT_SYNC. -/
theorem arrives_spoils (hr : s.inReset = false) (shot : s.seq.shot = some h) (find : s.find h.id = some k)
    (exposing : (s.frame k).state = .exposing) (waits : s.seq.state = .waitSync)
    (spoils : cause = .openAbort ∨ cause = .short) : Arrives (.driver (some h.id) (.driveEnded cause off)) s fun t =>
      SpoiledAs .releaseFault (s.clock + 1) (s.frame k) (t.frame k) ∧ t.seq.shot = none
        ∧ t.seq.state = (if h.returnArmed then .armed else .idle) ∧ t.driver.phase.driving = false
        ∧ t.req.causes.getLsbD Cause.shotSpoiled.position = true := by
  have taken := (takeReport_own (cause := cause) (off := off) (arrival_shot shot)).1.trans
    (takeDriveEnd_spoils (s := arrival s) waits (arrival_shot shot) spoils)
  have left := leaveSpoiled_returns (s := arrival s) (h := tickShot h) (reason := .releaseFault)
    ((find_of_store rfl h.id).trans find) exposing
  refine arrives hr fun t e ht o he => ?_
  have same : t = leaveSpoiled (tickShot h) .releaseFault .returning (arrival s) := ht.trans taken
  rw [← ht] at he
  rw [← same] at left
  obtain ⟨handoffs, clock, reset, pending⟩ := left.rest
  have driver : e.driver = t.driver := by
    rw [he]
    exact (congrArg State.driver (onlyData_pump (settle (arrival s) t)) :)
  refine ⟨handoffs, clock, reset, pending, ?_, ?_, ?_, ?_, left.raised.congr o.causes⟩
  · rw [o.frame]
    exact left.record
  · rw [o.seq]
    exact left.shot
  · rw [o.seq]
    exact left.state
  · rw [driver, left.driver]
    exact Driver.offNow_driving _

theorem arrives_continuing (hr : s.inReset = false) (shot : s.seq.shot = some h) (find : s.find h.id = some k)
    (flying : s.seq.state ∈ [.waitSync, .open, .tail, .readout]) :
    Arrives (.driver (some h.id) .openContinuing) s fun t =>
      t.frame k = { s.frame k with flags := (s.frame k).flags ||| Flag.openLoad.bit } ∧ SameBut k s t
        ∧ t.seq.state = s.seq.state ∧ t.seq.shot = some (tickShot h) := by
  have taken := (takeReport_own (cause := .short) (off := 0) (arrival_shot shot)).2.trans
    (takeOpenContinuing_eq (s := arrival s) flying (arrival_shot shot) ((find_of_store rfl h.id).trans find))
  refine arrives hr fun t e ht o _ => ?_
  rw [show t = _ from ht.trans taken] at o ⊢
  obtain ⟨frames, -, -⟩ := o.store
  have record := flagged_frames (s := s) (k := k) (b := Flag.openLoad.bit) frames
  exact ⟨rfl, rfl, rfl, rfl, record.1, record.2, by rw [o.seq]; rfl, by rw [o.seq]; exact arrival_shot shot⟩

theorem arrives_foreign (hs : s.Awake) (shot : s.seq.shot = some h) {id : Option Word} {report : DriverReport}
    (foreign : id ≠ some h.id) : Arrives (.driver id report) s fun t =>
      (∀ j, t.frame j = s.frame j) ∧ t.seq.state = s.seq.state ∧ t.seq.shot = some (tickShot h)
        ∧ t.req.causes = s.req.causes ∧ t.sent = [] := by
  have taken : takeMessage (.driver id report) (arrival s) = arrival s := takeReport_foreign (arrival_shot shot) foreign
  refine arrives hs.1 fun t e ht o he => ?_
  rw [taken] at ht he
  rw [pump_of_served (s := settle (arrival s) (arrival s)) (arrival_served hs.2)] at he
  subst ht
  exact ⟨rfl, rfl, rfl, rfl, o.frame, by rw [o.seq]; rfl, by rw [o.seq]; exact arrival_shot shot, o.causes,
    by rw [he, settle_sent, settle_sent]; rfl⟩

end Sys2Proof.Machine

namespace Sys2Proof.Machine

/-! ### Every cause that ends a drive -/

variable {s t : State} {k : Fin 16} {h : Shot} {cause : DriveEnd} {off : Word} {d : Driver} {causes : BitVec 14}
  {i : Instr}

theorem Yields.imp {P Q : State → Prop} (y : Yields i s P) (h : ∀ t, P t → Q t) : Yields i s Q := by
  obtain ⟨t, next, ht⟩ := y
  exact ⟨t, next, h t ht⟩

theorem releaseFault_raised (c : BitVec 14) :
    (c ||| Cause.releaseFault.bit).getLsbD Cause.releaseFault.position = true := by
  have bit : Cause.releaseFault.bit.getLsbD Cause.releaseFault.position = true := by decide
  rw [BitVec.getLsbD_or, bit, Bool.or_true]

/-- A drive that ends with no flag and no cause leaves the records and the causes alone. -/
theorem DriveEnded.unflagged (e : DriveEnded d none h k s t) (causes : t.req.causes = s.req.causes)
    (keeps : Keeps [.records, .causes, .driver, .sync, .sequencer] s t) : Keeps [.driver, .sync, .sequencer] s t := by
  obtain ⟨-, -, frame, others, -⟩ := e
  refine (keeps.same (p := .records) fun j => ?_).same (p := .causes) causes
  by_cases hj : j = k
  · rw [hj, frame]
    simp
  · exact others j hj

theorem keepsShot_of_permitted (h : s.seq.state = .waitSync ∨ s.seq.state = .open) (notOpen : cause ≠ .openAbort)
    (notShort : cause ≠ .short) : KeepsShot cause s.seq.state := by
  rcases h with h | h
  · exact .inr (.inr (.inr ⟨h, notOpen, notShort⟩))
  · exact .inl h

/-- Settles O47: each cause is a report of a drive that has gone off, which is taken at once, handed on or arrives. -/
theorem causesEndTheDrive : Obligations.CausesEndTheDrive := by
  unfold Obligations.CausesEndTheDrive
  intro s h k hs locked shot find
  refine ⟨fun driving => ⟨fun ready => ⟨fun timer => ?_, fun phase timer => ?_, fun ⟨filter, low, was⟩ => ?_,
      fun p ⟨eval, params, timer⟩ => ⟨fun response => ?_, fun response opened => ?_, fun response waits exposing => ?_⟩,
      fun timer => ⟨fun opened => ?_, fun waits exposing => ?_⟩⟩,
    fun n rest free lags => ⟨fun timer => ?_, fun phase timer => ?_, fun ⟨filter, low, was⟩ => ?_,
      fun p ⟨eval, params, timer⟩ => ⟨fun response => ?_, fun response => ?_⟩, fun timer => ?_⟩⟩,
    fun cause off => ⟨fun opened => ?_, fun late => ?_, fun waits notOpen notShort => ?_,
      fun waits spoils exposing => ?_⟩,
    arrives_continuing hs.1 shot find, fun id report foreign => arrives_foreign hs shot foreign⟩
  · have kept := keepsShot_of_permitted (cause := .bulbEnd) (locked.permits driving).1 nofun nofun
    exact (yields_driveEnded hs rfl ready shot find kept (effect_bulbEnd (s := s.quiet) driving timer)).imp
      fun t ⟨ended, causes, keeps⟩ => ⟨ended, ended.unflagged causes keeps⟩
  · have kept := keepsShot_of_permitted (cause := .holdLimit) (locked.permits driving).1 nofun nofun
    exact (yields_driveEnded hs rfl ready shot find kept (effect_holdLimit (s := s.quiet) driving phase timer)).imp
      fun t ⟨ended, causes, keeps⟩ => ⟨ended, ended.unflagged causes keeps⟩
  · have kept := keepsShot_of_permitted (cause := .lowSupply) (locked.permits driving).1 nofun nofun
    exact (yields_driveEnded hs rfl ready shot find kept (effect_lowSupply (s := s.quiet) driving filter low was)).imp
      fun t ⟨ended, causes, keeps⟩ => ⟨ended, (keeps.mono (by decide)).same (p := .causes) causes⟩
  · exact yields_openContinues hs driving eval params timer response ready shot find
      (by rcases (locked.permits driving).1 with h | h <;> simp [h])
  · exact (yields_driveEnded hs rfl ready shot find (.inl opened)
      (effect_openAbort (s := s.quiet) driving eval params timer response)).imp
      fun t ⟨ended, causes, keeps⟩ => ⟨ended, causes, keeps.mono (by decide)⟩
  · exact yields_driveSpoiled hs rfl ready shot find exposing waits (.inl rfl) (releaseFault_raised _)
      (effect_openAbort (s := s.quiet) driving eval params timer response)
  · exact (yields_driveEnded hs rfl ready shot find (.inl opened) (effect_short (s := s.quiet) driving timer)).imp
      fun t ⟨ended, causes, keeps⟩ => ⟨ended, causes, keeps.mono (by decide)⟩
  · exact yields_driveSpoiled hs rfl ready shot find exposing waits (.inr rfl) (releaseFault_raised _)
      (effect_short (s := s.quiet) driving timer)
  · exact (yields_driveHanded hs rfl free lags (effect_bulbEnd (s := s.quiet) driving timer)).imp
      fun t ⟨handed, causes, keeps⟩ => ⟨handed, keeps.same (p := .causes) causes⟩
  · exact (yields_driveHanded hs rfl free lags (effect_holdLimit (s := s.quiet) driving phase timer)).imp
      fun t ⟨handed, causes, keeps⟩ => ⟨handed, keeps.same (p := .causes) causes⟩
  · exact (yields_driveHanded hs rfl free lags (effect_lowSupply (s := s.quiet) driving filter low was)).imp
      fun t ⟨handed, causes, keeps⟩ => ⟨handed, keeps.same (p := .causes) causes⟩
  · exact yields_openContinues_handed hs driving eval params timer response free lags shot
  · exact (yields_driveHanded hs rfl free lags (effect_openAbort (s := s.quiet) driving eval params timer response)).imp
      fun t ⟨handed, causes, keeps⟩ => ⟨handed, causes, keeps.mono (by decide)⟩
  · exact (yields_driveHanded hs rfl free lags (effect_short (s := s.quiet) driving timer)).imp
      fun t ⟨handed, causes, keeps⟩ => ⟨handed, causes, keeps.mono (by decide)⟩
  · refine (arrives_kept hs.1 shot find (.inl opened)).imp fun t ⟨flagged, waits⟩ => ⟨flagged, ?_⟩
    rw [waits]
    simp only [opened, true_and]
  · have kept : KeepsShot cause s.seq.state := .inr (by tauto)
    refine (arrives_kept hs.1 shot find kept).imp fun t ⟨flagged, same⟩ => ⟨flagged, ?_⟩
    rw [same, if_neg (by rcases late with h | h <;> simp [h])]
    rfl
  · refine (arrives_kept hs.1 shot find (keepsShot_of_permitted (.inl waits) notOpen notShort)).imp
      fun t ⟨flagged, same⟩ => ⟨flagged, ?_⟩
    rw [same, if_neg (by simp [waits])]
    rfl
  · exact arrives_spoils hs.1 shot find exposing waits spoils

end Sys2Proof.Machine

namespace Sys2Proof.Machine

/-! ### The output lock (R48)

Most operations are inert: no drive goes on, and the sequencer stays in its state with its shot. A state that is entered
takes the drive off unless its shot permits it, whatever was before; and a drive goes on where integration of a released
shot starts. -/

variable {s t u : State}

/-- What the lock reads of a shot. -/
def Shot.lockKey (h : Shot) : FrameKind × Origin := (h.kind, h.origin)

/-- No drive goes on, and the sequencer stays in its state with a shot of the same kind and origin. -/
structure Inert (s t : State) : Prop where
  drive : t.driver.phase.driving = true → s.driver.phase.driving = true
  state : t.seq.state = s.seq.state
  shot : t.seq.shot.map Shot.lockKey = s.seq.shot.map Shot.lockKey

/-- The shot in flight, if it is LIGHT, was released (R58, R64). -/
def State.Released (s : State) : Prop := ∀ h, s.seq.shot = some h → h.kind = .light → h.origin = .release

theorem permission_iff : s.permission = true ↔ Permits s.seq.state s.seq.shot := by
  simp [State.permission, Permits, Option.any_eq_true]

/-- Drive current flows under the permission, and not while a SHORT is latched (R48, R52). -/
theorem driveFlows_spec (h : s.driveFlows = true) : s.permission = true ∧ s.driver.faultShort = false := by
  simp only [State.driveFlows, Bool.and_eq_true, Bool.not_eq_true'] at h
  exact h.1

theorem Inert.refl (s : State) : Inert s s := ⟨fun h => h, rfl, rfl⟩

/-- An operation that leaves the driver and the sequencer alone. -/
theorem Inert.same (driver : t.driver = s.driver) (seq : t.seq = s.seq) : Inert s t :=
  ⟨fun h => driver ▸ h, by rw [seq], by rw [seq]⟩

theorem Inert.trans (h : Inert s t) (g : Inert t u) : Inert s u :=
  ⟨fun x => h.drive (g.drive x), g.state.trans h.state, g.shot.trans h.shot⟩

theorem Inert.ite {c : Prop} [Decidable c] (h : c → Inert s t) (g : ¬c → Inert s u) : Inert s (if c then t else u) := by
  split
  · next hc => exact h hc
  · next hc => exact g hc

theorem Inert.foldl {α : Type} {f : State → α → State} (h : ∀ s a, Inert s (f s a)) (l : List α) (s : State) :
    Inert s (l.foldl f s) := by
  induction l generalizing s with
  | nil => exact .refl s
  | cons a l ih => exact (h s a).trans (ih (f s a))

/-- An inert operation behind one that leaves the driver and the sequencer alone. -/
theorem Inert.after (g : Inert t u) (driver : t.driver = s.driver) (seq : t.seq = s.seq) : Inert s u :=
  (Inert.same driver seq).trans g

/-- Each shot after an inert operation has the kind and the origin of the one before. -/
theorem Inert.shot_before (i : Inert s t) {h : Shot} (ht : t.seq.shot = some h) :
    ∃ x, s.seq.shot = some x ∧ x.kind = h.kind ∧ x.origin = h.origin := by
  have key : s.seq.shot.map Shot.lockKey = some h.lockKey := by rw [← i.shot, ht]; rfl
  obtain ⟨x, hx, same⟩ := Option.map_eq_some_iff.1 key
  obtain ⟨kind, origin⟩ := Prod.mk.inj same
  exact ⟨x, hx, kind, origin⟩

theorem Inert.shot_after (i : Inert s t) {h : Shot} (hs : s.seq.shot = some h) :
    ∃ x, t.seq.shot = some x ∧ x.kind = h.kind ∧ x.origin = h.origin := by
  have key : t.seq.shot.map Shot.lockKey = some h.lockKey := by rw [i.shot, hs]; rfl
  obtain ⟨x, hx, same⟩ := Option.map_eq_some_iff.1 key
  obtain ⟨kind, origin⟩ := Prod.mk.inj same
  exact ⟨x, hx, kind, origin⟩

theorem Inert.released (i : Inert s t) (hr : s.Released) : t.Released := by
  intro h ht light
  obtain ⟨x, hx, kind, origin⟩ := i.shot_before ht
  rw [← origin]
  exact hr x hx (kind.trans light)

/-- An inert operation keeps the lock. -/
theorem Inert.locked (i : Inert s t) (hl : s.DriveLocked) : t.DriveLocked := by
  obtain ⟨drive, shot⟩ := hl
  refine ⟨fun hd => ?_, fun h ht light st => ?_⟩
  · obtain ⟨st, h, hs, released⟩ := permission_iff.1 (drive (i.drive hd))
    obtain ⟨x, hx, -, origin⟩ := i.shot_after hs
    exact permission_iff.2 ⟨i.state ▸ st, x, hx, origin.trans released⟩
  · obtain ⟨x, hx, kind, origin⟩ := i.shot_before ht
    rw [← origin]
    exact shot x hx (kind.trans light) (i.state ▸ st)

theorem OnlyMemory.inert (h : OnlyMemory s t) : Inert s t := .same (by rw [h]) (by rw [h])
theorem OnlyData.inert (h : OnlyData s t) : Inert s t := .same (by rw [h]) (by rw [h])
theorem OnlyCard.inert (h : OnlyCard s t) : Inert s t := .same (by rw [h]) (by rw [h])
theorem OnlyFrames.inert (h : OnlyFrames s t) : Inert s t := h.onlyCard.inert
theorem CardWork.inert (h : CardWork s t) : Inert s t := .same (by rw [h]) (by rw [h])
theorem CardRun.inert (h : CardRun s t) : Inert s t := h.work.inert
theorem Handed.inert (h : Handed s t) : Inert s t := .same (by rw [h.only]) (by rw [h.only])

/-- An allocation works on the records and the causes. -/
theorem inert_allocate {kind : FrameKind} {origin : Origin} {mode : Option ShotMode} {r : Option (Fin 16 × Word)}
    (h : allocate kind origin mode s = (t, r)) : Inert s t :=
  .same (by rw [allocate_eq h]) (allocate_seq h)

/-! #### The part's pages and the request unit -/

variable (s)

theorem inert_report (id : Word) (f : Frame → Frame) : Inert s (report id f s) := (report_onlyFrames id f s).inert

theorem inert_onReq (f : RequestUnit → RequestUnit) : Inert s (s.onReq f) := .same rfl rfl

theorem inert_raise (c : Cause) : Inert s (raise c s) := .same rfl rfl

theorem inert_recordWrite (a : Nat) (bytes : List Byte) : Inert s (recordWrite a bytes s) :=
  (recordWrite_onlyMemory s a bytes).inert

/-- Bytes fetched through a client and taken from it. -/
theorem inert_fetch (c : RotClient) (bs : List Burst) (n : Nat) : Inert s (takeGot c n (drain c (issue c bs s))).1 := by
  rw [takeGot_fst]
  exact OnlyData.inert (((onlyData_issue c bs s).trans (onlyData_drain c _)).trans (onlyData_onPath _ _))

theorem inert_recordRead (a n : Nat) : Inert s (recordRead a n s).1 := inert_fetch s .record _ n

theorem inert_writeMirror (k : Fin 16) : Inert s (writeMirror k s) := by
  unfold writeMirror
  refine .trans ?_ (inert_recordWrite _ _ _)
  refine .trans ?_ (inert_recordWrite _ _ _)
  refine .trans ?_ (inert_recordWrite _ _ _)
  exact .same rfl rfl

theorem inert_writeQueueMirror : Inert s (writeQueueMirror s) := by
  unfold writeQueueMirror
  refine .trans ?_ (inert_recordWrite _ _ _)
  refine .trans ?_ (inert_recordWrite _ _ _)
  refine .trans ?_ (inert_recordWrite _ _ _)
  refine .trans ?_ (inert_recordWrite _ _ _)
  exact .same rfl rfl

theorem inert_writeStatusPage : Inert s (writeStatusPage s) := by
  unfold writeStatusPage
  refine .trans ?_ (inert_recordWrite _ _ _)
  refine .trans ?_ (inert_recordWrite _ _ _)
  refine .trans ?_ (inert_recordWrite _ _ _)
  exact .same rfl rfl

theorem inert_writeAwaited : Inert s (writeAwaited s) := by
  unfold writeAwaited
  extract_lets u
  have hu : Inert s u := .foldl inert_writeMirror _ s
  exact hu.trans (.ite (fun _ => inert_writeQueueMirror u) fun _ => .refl u)

theorem inert_completeRequest : Inert s (completeRequest s) := by
  unfold completeRequest
  split
  · extract_lets u word v
    have hu : Inert s u := inert_writeAwaited s
    have hv : Inert u v := inert_recordWrite u _ _
    exact ((hu.trans hv).trans (inert_onReq _ _)).trans (inert_raise _ _)
  · exact .refl s

theorem inert_fetchRequest : Inert s (fetchRequest s) := (inert_recordRead s _ _).trans (.same rfl rfl)

theorem inert_postEffect (lo hi : Option Byte) : Inert s (postEffect lo hi s) :=
  .ite (fun _ => .same rfl rfl) fun _ => .same rfl rfl

theorem inert_takeBare {e : State → State} (h : ∀ s, Inert s (e s)) : Inert s (takeBare e s) :=
  .ite (fun _ => .refl s) fun _ => (drain_onlyMemory s _).inert.trans (h _)

theorem inert_takePost (lo hi : Option Byte) : Inert s (takePost lo hi s) := by
  unfold takePost
  split
  · exact inert_takeBare s fun s => inert_postEffect s lo hi
  · refine .ite (fun _ => .trans ?_ (inert_postEffect _ lo hi)) fun _ => .refl s
    exact (grantUntil_onlyMemory s _ _).inert.trans (.same rfl rfl)

theorem inert_takeClear (b4 b5 b6 b7 : Option Byte) : Inert s (takeClear b4 b5 b6 b7 s) := by
  unfold takeClear
  split
  · exact inert_takeBare s fun _ => .same rfl rfl
  · refine .ite (fun _ => ?_) fun _ => .refl s
    exact (grantUntil_onlyMemory s _ _).inert.trans (.same rfl rfl)

/-! #### The develop engine -/

theorem inert_expireRead : Inert s (expireRead s) := by
  unfold expireRead
  split
  · exact .refl s
  · refine OnlyData.inert (.trans ?_ (onlyData_foldl (fun s _ => onlyData_onDevelop _ s) _ _))
    exact (onlyData_issue _ _ s).trans (onlyData_completeRead _)

theorem inert_writeTone : Inert s (writeTone s) := by
  unfold writeTone
  split
  · exact .refl s
  · exact .same rfl rfl

theorem inert_decideLoadTone (table : Half) (addr : Word) : Inert s (decideLoadTone table addr s).1 := by
  unfold decideLoadTone
  split
  · exact .refl s
  · extract_lets r entries
    have read : Inert s r.1 := inert_fetch s .develop _ 130
    dsimp only
    exact read.trans (onlyData_onDevelop _ _).inert

theorem inert_zeroRead : Inert s (zeroRead s) := (onlyData_zeroRead s).inert

theorem inert_closeOneView (v : Fin 4) : Inert s (closeOneView v s) := by
  unfold closeOneView
  extract_lets x u
  have hu : Inert s u := .ite (fun _ => inert_zeroRead s) fun _ => .refl s
  split
  · exact hu.trans ((unpinView_onlyFrames _ _).inert.after rfl rfl)
  · exact .same rfl rfl
  · exact .refl s

theorem inert_restartViews : Inert s (restartViews s) := by
  unfold restartViews
  exact (Inert.ite (fun _ => inert_zeroRead s) fun _ => .refl s).trans (.foldl inert_closeOneView _ _)

theorem inert_decideCloseView (view : Half) : Inert s (decideCloseView view s).1 := by
  unfold decideCloseView
  split
  · exact .refl s
  · exact inert_closeOneView s _

theorem inert_decideOpenView (f : OpenViewFields) : Inert s (decideOpenView f s).1 := by
  unfold decideOpenView
  extract_lets v use
  split
  · exact .refl s
  · split
    · exact .refl s
    · split
      · exact .refl s
      · split
        · exact .refl s
        · split
          · exact .refl s
          · exact .trans (t := s.setView v _) (.same rfl rfl)
              ((pinView_onlyFrames _ _).trans (pinView_onlyFrames _ _)).inert

/-! #### The card engine -/

theorem inert_failActive (reason : FailReason) (quiet : Bool) : Inert s (failActive reason quiet s) :=
  (failActive_run s reason quiet).inert

theorem inert_activate : Inert s (activate s) := (activate_run s).inert

theorem inert_prefetchSector : Inert s (prefetchSector s) := (onlyData_prefetchSector s).inert

theorem inert_takePending (p : PendingEnd) : Inert s (takePending p s) := (inert_failActive s _ _).trans (inert_activate _)

theorem inert_failSector (reason : FailReason) : Inert s (failSector reason s) := by
  unfold failSector
  split
  · exact inert_takePending s _
  · exact inert_failActive s _ _

theorem inert_succeed : Inert s (succeed s) := by
  unfold succeed
  split
  · exact .refl s
  · refine .trans ?_ (inert_activate _)
    exact ((closeTransfer_run s).trans (endHead_run _ _ _)).inert.trans (.same rfl rfl)

theorem inert_sectorFetched : Inert s (sectorFetched s) := by
  unfold sectorFetched
  have taken : Inert s (takeFetched s).1 := (drain_onlyMemory s .card).inert.trans (.same rfl rfl)
  exact taken.trans (.ite (fun _ => .same rfl rfl) fun _ => .same rfl rfl)

theorem inert_takeToken (token : Token) : Inert s (takeToken token s) := by
  cases token with
  | accepted => exact .after (inert_prefetchSector _) rfl rfl
  | crcReject => exact inert_failSector s _
  | writeFault => exact inert_failSector s _

theorem inert_nextSector : Inert s (nextSector s) := by
  unfold nextSector
  split
  · refine .ite (fun _ => inert_succeed s) fun _ => ?_
    split
    · exact .same rfl rfl
    · exact .same rfl rfl
    · exact (startSector_run s _).inert
  · exact .refl s

theorem inert_busyEnd : Inert s (busyEnd s) := by
  unfold busyEnd
  extract_lets u
  have hu : Inert s u := .same rfl rfl
  split
  · exact hu.trans (inert_takePending _ _)
  · exact hu.trans (inert_nextSector _)

theorem inert_readStored : Inert s (readStored s) := by
  unfold readStored
  extract_lets u
  have hu : Inert s u := (drain_onlyMemory s .card).inert.trans (.same rfl rfl)
  split
  · exact hu.trans (inert_takePending _ _)
  · split
    · exact hu.trans (.ite (fun _ => inert_succeed _) fun _ => .refl _)
    · exact hu

theorem inert_receiveSector (bytes : List Byte) (check : Half) : Inert s (receiveSector bytes check s) := by
  unfold receiveSector
  split
  · exact .ite (fun _ => .same rfl rfl) fun _ => inert_failSector s _
  · exact .refl s

theorem inert_afterStoring {f : State → State} (h : ∀ s, Inert s (f s)) : Inert s (afterStoring f s) :=
  .ite (fun _ => .ite (fun _ => inert_readStored s) fun _ => (inert_readStored s).trans (h _)) fun _ => h s

theorem inert_sectorLimit : Inert s (sectorLimit s) :=
  .ite (fun _ => .ite (fun _ => inert_afterStoring s fun s => inert_failSector s _) fun _ => .refl s)
    fun _ => inert_failSector s _

theorem inert_cancelQueued : Inert s (cancelQueued s) := (cancelQueued_onlyCard s).inert

theorem inert_decideCardFlush : Inert s (decideCardFlush s).1 := (flushed_work s).inert

theorem inert_restartCard : Inert s (restartCard s) := by
  unfold restartCard
  refine .trans (.trans ?_ (inert_cancelQueued _)) (.same rfl rfl)
  exact .ite (fun _ => .ite (fun _ => .same rfl rfl) fun _ => inert_failActive s _ _) fun _ => .refl s

theorem inert_decideCardResume : Inert s (decideCardResume s).1 := by
  unfold decideCardResume
  split
  · exact .after (inert_activate _) rfl rfl
  · exact .refl s

theorem inert_decideCardJob (f : CardJobFields) : Inert s (decideCardJob f s).1 := by
  cases hc : s.cardJobCheck f with
  | some code => unfold decideCardJob; rw [hc]; exact .refl s
  | none =>
    cases hk : jobKindOf f.kind with
    | none => unfold decideCardJob; rw [hc, hk]; exact .refl s
    | some kind =>
      rw [decideCardJob_accepted hc hk]
      have joined : Inert s (enqueueJob (newJob f kind) s) :=
        .same (by rw [enqueueJob_eq]) (by rw [enqueueJob_eq])
      have awaited : Inert s (awaitQueue (enqueueJob (newJob f kind) s)) := joined.trans (.same rfl rfl)
      exact awaited.trans (inert_activate _)

theorem inert_removal : Inert s (removal s) := by
  by_cases h : s.card.state = .absent
  · unfold removal
    rw [if_pos h]
    exact .refl s
  · rw [removal_eq h]
    have ended (u : State) : Inert u (raise .cardChange (endJobs (.failed .cardGone) s.card.jobs u)) :=
      (endJobs_onlyCard _ _ u).inert.trans (.same rfl rfl)
    exact (ended _).after rfl rfl

theorem inert_debounced : Inert s (debounced s) := by
  unfold debounced
  extract_lets u
  have hu : Inert s u := .same rfl rfl
  refine hu.trans (.ite (fun _ => ?_) fun _ => inert_removal u)
  exact .ite (fun _ => .same rfl rfl) fun _ => .refl u

theorem inert_cardUnusable : Inert s (cardUnusable s) := .same rfl rfl

theorem inert_identify (block : List Byte) (check : Half) : Inert s (identify block check s) :=
  .ite (fun _ => .same rfl rfl) fun _ => inert_cardUnusable s

theorem inert_takeCapacity (bytes : List Byte) (check : Half) : Inert s (takeCapacity bytes check s) :=
  .ite (fun _ => .after (inert_activate _) rfl rfl) fun _ => inert_cardUnusable s

/-! #### Rows, records and setup -/

theorem inert_storeRow : Inert s (storeRow s) := by
  unfold storeRow
  split
  · refine .trans (.trans ?_ (onlyData_developRows _ _).inert) (onlyData_cardRows _ _).inert
    exact .after (inert_report _ _ _) rfl rfl
  · exact .refl s

theorem inert_storeRows (n : Nat) : Inert s (storeRows n s) := by
  induction n generalizing s with
  | zero => exact .refl s
  | succ n ih => exact (inert_storeRow s).trans (ih _)

theorem inert_drainReadout : Inert s (drainReadout s) := (onlyData_drainReadout s).inert

theorem inert_finishRows : Inert s (finishRows s) := (inert_drainReadout s).trans (inert_storeRows _ _)

theorem inert_completeRecord (k : Fin 16) (blacks : Blacks) (flags : List Flag) :
    Inert s (completeRecord k blacks flags s) := by
  unfold completeRecord
  extract_lets f f'
  split
  · exact .same rfl rfl
  · split
    · exact .ite (fun _ => .after (inert_report _ _ _) rfl rfl) fun _ => .same rfl rfl
    · exact .same rfl rfl

theorem inert_onRecord {d : Fin 16 → State → State × Option ResultCode} (id : Word)
    (h : ∀ k, Inert s (d k s).1) : Inert s (onRecord id d s).1 := by
  unfold onRecord
  split
  · exact h _
  · exact .refl s

theorem inert_decideSettle (k : Fin 16) : Inert s (decideSettle k s).1 := by
  unfold decideSettle
  split
  · exact .refl s
  · exact .same rfl rfl

theorem inert_decideDiscard (k : Fin 16) : Inert s (decideDiscard k s).1 := by
  unfold decideDiscard
  split
  · exact .refl s
  · exact (freeRecord_onlyFrames k s).inert

theorem inert_decideSetupStore (f : StoreFields) : Inert s (decideSetupStore f s).1 := by
  unfold decideSetupStore
  extract_lets limit moved
  split
  · exact .refl s
  · split
    · exact .refl s
    · dsimp only
      split
      · exact .same rfl rfl
      · exact .same rfl rfl

theorem inert_decideSetupExposure (f : ExposureFields) : Inert s (decideSetupExposure f s).1 := by
  unfold decideSetupExposure
  split
  · exact .refl s
  · exact .same rfl rfl

/-! #### The dark reference unit -/

theorem inert_darkMissing (id : Word) : Inert s (darkMissing id s) := inert_report s _ _

theorem inert_settleDark (id : Word) (d : DarkState) : Inert s (settleDark id d s) := inert_report s _ _

theorem inert_orderDark (light : Word) (duration retry : Nat) : Inert s (orderDark light duration retry s).1 := by
  unfold orderDark
  split
  · next ha => exact (inert_allocate ha).trans (.same rfl rfl)
  · next ha => exact ((inert_allocate ha).trans (inert_darkMissing _ _)).trans (.same rfl rfl)

theorem inert_decideDark (id : Word) (p : DarkParams) (canRun : Bool) : Inert s (decideDark id p canRun s).1 := by
  unfold decideDark
  split
  · exact .refl s
  · dsimp only
    split
    · exact inert_settleDark s _ _
    · split
      · dsimp only
        exact (inert_settleDark s _ _).trans (inert_report _ _ _)
      · split
        · exact (inert_settleDark s _ _).trans (inert_orderDark _ _ _ _)
        · exact inert_darkMissing s _

theorem inert_darkFailure : Inert s (darkFailure s) := by
  unfold darkFailure
  split
  · exact .refl s
  · split
    · exact .same rfl rfl
    · exact (inert_darkMissing s _).trans (.same rfl rfl)

end Sys2Proof.Machine

namespace Sys2Proof.Machine

variable {s t u : State} {h : Shot}

/-! #### Inert operations of the driver, the sync input and the sequencer -/

section
variable (s)

theorem inert_phaseChange : Inert s (phaseChange s) := by
  rw [phaseChange_eq]
  exact .same rfl rfl

/-- After drive off no drive is on (R47). -/
theorem inert_driveOff : Inert s (driveOff s) := by
  rw [driveOff_eq]
  exact ⟨fun h => absurd h (Bool.eq_false_iff.1 (Driver.offNow_driving _)), rfl, rfl⟩

theorem inert_checkCommand (shot : Word) : Inert s (checkCommand shot s) := by
  unfold checkCommand
  split
  · exact ⟨nofun, rfl, rfl⟩
  · exact ⟨fun h => h, rfl, rfl⟩
  · exact .refl s

theorem inert_decideCheckRelease : Inert s (decideCheckRelease s).1 := by
  unfold decideCheckRelease
  split
  · exact ⟨nofun, rfl, rfl⟩
  · exact .refl s

/-- A check that ends leaves the driver off or in the check that was pending (R42, R44). -/
theorem inert_checkOver (present : Bool) : Inert s (checkOver present s) := by
  unfold checkOver
  extract_lets u
  split
  · exact ⟨nofun, rfl, rfl⟩
  · exact ⟨nofun, rfl, rfl⟩

theorem inert_senseCurrent (i : Nat) : Inert s (senseCurrent i s) := by
  unfold senseCurrent
  extract_lets u
  exact .ite (fun _ => ⟨fun h => h, rfl, rfl⟩) fun _ => .same rfl rfl

theorem inert_compareSupply (low : Bool) : Inert s (compareSupply low s) :=
  .ite (fun _ => .refl s) fun _ => ⟨fun h => h, rfl, rfl⟩

theorem inert_countBounce : Inert s (countBounce s) := by
  unfold countBounce
  split
  · exact inert_report s _ _
  · exact .refl s

/-- A change of the shot that leaves its kind and its origin. -/
theorem inert_onShot {f : Shot → Shot} (h : ∀ x, (f x).lockKey = x.lockKey) : Inert s (onShot f s) := by
  refine ⟨fun x => x, rfl, ?_⟩
  change (s.seq.shot.map f).map Shot.lockKey = _
  rw [Option.map_map]
  exact congrArg (Option.map · s.seq.shot) (funext h)

theorem inert_issueFlush : Inert s (issueFlush s) := ⟨fun h => h, rfl, rfl⟩

theorem inert_ordinaryStart : Inert s (ordinaryStart s) :=
  .ite (fun _ => inert_onShot s fun _ => rfl) fun _ => .refl s

theorem inert_closeAbandoned (edge : Word) : Inert s (closeAbandoned edge s) := by
  unfold closeAbandoned
  split
  · exact inert_onShot s fun _ => rfl
  · exact .ite (fun _ => ⟨fun h => h, rfl, rfl⟩) fun _ => .refl s
  · exact .refl s

theorem inert_abandonRun (r : Run) : Inert s (abandonRun r s) := by
  unfold abandonRun
  extract_lets u v
  have hu : Inert s u := .same rfl rfl
  refine hu.trans (.ite (fun _ => (inert_countBounce u).trans ?_) fun _ => .refl u)
  exact .ite (fun _ => .same rfl rfl) fun _ => inert_closeAbandoned v _

theorem inert_recordEdge (r : Run) : Inert s (recordEdge r s) := by
  unfold recordEdge
  split
  · exact (inert_report s _ _).trans (.same rfl rfl)
  · exact (inert_report s _ _).trans (.same rfl rfl)
  · exact .refl s

theorem inert_addFlag? (id : Word) (f : Option Flag) : Inert s (addFlag? id f s) := by
  cases f with
  | none => exact .refl s
  | some f => exact (report_onlyFrames id (·.withFlag f) s).inert

theorem inert_takeOpenContinuing : Inert s (takeOpenContinuing s) := by
  unfold takeOpenContinuing
  split
  · exact inert_report s _ _
  · exact inert_report s _ _
  · exact inert_report s _ _
  · exact inert_report s _ _
  · exact .refl s

theorem inert_endAck : Inert s (endAck s) := by
  unfold endAck
  extract_lets u
  have hu : Inert s u := ⟨fun h => h, rfl, rfl⟩
  split
  · exact hu.trans (.same rfl rfl)
  · exact hu

/-- A microsecond of every block: timers run, and nothing goes on. -/
theorem inert_microsecond : Inert s (microsecond s) := by
  have shot : Inert s (tickSeq s) := by
    refine ⟨fun h => h, rfl, ?_⟩
    cases hs : s.seq.shot with
    | none => simp [tickSeq, State.onSeq, hs]
    | some x => simp [tickSeq, State.onSeq, hs, Shot.lockKey, tickShot]
  refine ⟨fun hd => ?_, rfl, shot.shot⟩
  change (quietMicrosecond s).driver.phase.driving = true at hd
  rwa [tick_driver] at hd

end

/-! #### States that are entered -/

/-- A drive that is taken off without its permission is on only under it. -/
theorem permission_of_driving (hd : (if s.permission then s else driveOff s).driver.phase.driving = true) :
    (if s.permission then s else driveOff s).permission = true := by
  by_cases permitted : s.permission = true
  · rwa [if_pos permitted]
  · rw [if_neg permitted, driveOff_eq] at hd
    exact absurd hd (Bool.eq_false_iff.1 (Driver.offNow_driving _))

/-- Entering a state takes the drive off unless the shot permits it; entered with a LIGHT shot, DELAY and PREPARING want
a released one (R48, R59). -/
theorem locked_seqEnter {st : SeqState} (h : st = .delay ∨ st = .preparing → s.Released) :
    (seqEnter st s).DriveLocked := by
  obtain ⟨-, shot, state, -⟩ := seqEnter_tab s st
  refine ⟨permission_of_driving, fun x hx light hst => ?_⟩
  rw [state] at hst
  exact h hst x (shot ▸ hx) light

/-- The states other than DELAY and PREPARING want nothing of the shot. -/
theorem locked_enter {st : SeqState} (delay : st ≠ .delay) (preparing : st ≠ .preparing) : (seqEnter st s).DriveLocked :=
  locked_seqEnter fun h => h.elim (absurd · delay) (absurd · preparing)

theorem locked_enterArmed (s : State) : (enterArmed s).DriveLocked := by
  unfold enterArmed
  extract_lets u
  have hu : u.DriveLocked :=
    Inert.locked (s := seqEnter .armed s) ⟨fun h => h, rfl, rfl⟩ (locked_enter (by decide) (by decide))
  exact (Inert.ite (fun _ => .refl u) fun _ => inert_issueFlush u).locked hu

theorem locked_enterReturn (h : Shot) (s : State) : (enterReturn h s).DriveLocked := by
  unfold enterReturn
  extract_lets u
  split
  · exact locked_enterArmed u
  · exact locked_enter (by decide) (by decide)

theorem locked_leaveSpoiled (h : Shot) (reason : SpoilReason) (after : AfterSpoil) (s : State) :
    (leaveSpoiled h reason after s).DriveLocked := by
  cases after with
  | idle => exact locked_enter (by decide) (by decide)
  | armed => exact locked_enterArmed _
  | returning => exact locked_enterReturn _ _

theorem locked_endIntegration (h : Shot) (s : State) : (endIntegration h s).DriveLocked :=
  locked_enter (by decide) (by decide)

theorem locked_sensorFault (s : State) : (sensorFault s).DriveLocked := locked_enter (by decide) (by decide)

theorem locked_enterTail (h : Shot) (s : State) : (enterTail h s).DriveLocked := by
  unfold enterTail
  extract_lets u
  split
  · exact locked_endIntegration h u
  · exact locked_enter (by decide) (by decide)

theorem locked_enterOpen (h : Shot) (s : State) : (enterOpen h s).DriveLocked := by
  unfold enterOpen
  extract_lets u
  have hu : u.DriveLocked := locked_enter (by decide) (by decide)
  refine Inert.locked (.ite (fun _ => ?_) fun _ => inert_driveOff u) hu
  exact .ite (fun _ => .refl u) fun _ => inert_onShot u fun _ => rfl

/-! #### Integration starts (R65, R66, R81) -/

theorem driveOn_seq (p : DriveParams) (s : State) : (driveOn p s).seq = s.seq := by
  unfold driveOn
  rw [phaseChange_eq]
  rfl

/-- The drive of a released shot goes on in WAIT_SYNC, under its permission (R48, R66). -/
theorem locked_startReleased (hs : s.seq.shot = some h) (released : h.origin = .release) (g : Shot) :
    (startReleased g s).DriveLocked := by
  have entered : (driveOn g.driveParams (seqEnter .waitSync (issueStart s))).DriveLocked := by
    have seq : (driveOn g.driveParams (seqEnter .waitSync (issueStart s))).seq.state = .waitSync
        ∧ (driveOn g.driveParams (seqEnter .waitSync (issueStart s))).seq.shot = some h := by
      rw [driveOn_seq, seqEnter_eq]
      exact ⟨rfl, hs⟩
    obtain ⟨state, shot⟩ := seq
    refine ⟨fun _ => permission_iff.2 ⟨.inl state, h, shot, released⟩, fun x _ _ hst => ?_⟩
    rw [state] at hst
    simp at hst
  refine Inert.locked ?_ entered
  refine .trans ?_ (inert_onShot _ fun _ => rfl)
  exact .after (inert_report _ _ _) rfl rfl

theorem locked_startDark (h : Shot) (s : State) : (startDark h s).DriveLocked := by
  unfold startDark
  extract_lets u v w
  split
  · exact locked_endIntegration h w
  · exact locked_enter (by decide) (by decide)

/-- The passes of a shot that is dark or released lead to no drive but a released one's. -/
theorem locked_beginPasses (hl : s.DriveLocked) (hr : s.Released) : (beginPasses s).DriveLocked := by
  unfold beginPasses
  split
  · exact hl
  · next h hs =>
    split
    · exact hl
    · split
      · unfold startIntegration
        split
        · exact locked_startDark h s
        · next light =>
          refine locked_startReleased hs (hr h hs ?_) h
          cases hk : h.kind with
          | light => rfl
          | dark => exact absurd hk light
      · exact (inert_issueFlush s).locked hl

theorem State.Released.onShot (hr : s.Released) {f : Shot → Shot} (h : ∀ x, (f x).lockKey = x.lockKey) :
    (onShot f s).Released := (inert_onShot s h).released hr

theorem State.DriveLocked.onShot (hl : s.DriveLocked) {f : Shot → Shot} (h : ∀ x, (f x).lockKey = x.lockKey) :
    (onShot f s).DriveLocked := (inert_onShot s h).locked hl

theorem State.Released.enter (hr : s.Released) {st : SeqState} : (seqEnter st s).Released :=
  fun x hx light => hr x ((seqEnter_tab s st).2.1 ▸ hx) light

theorem locked_enterPreparing (hs : s.seq.shot = some h) (hr : s.Released) : (enterPreparing s).DriveLocked := by
  unfold enterPreparing
  split
  · next none => exact nomatch hs.symm.trans none
  · next h _ =>
    extract_lets check u
    have prepared : (onShot (fun h => { h with
        passesLeft := s.setup.sensor.passes, checking := check, delayTimer := none }) s).Released :=
      hr.onShot fun _ => rfl
    have entered : u.DriveLocked := locked_seqEnter fun _ => prepared
    have hu : u.Released := prepared.enter
    split
    · exact (inert_checkCommand u _).locked entered
    · exact locked_beginPasses entered hu

end Sys2Proof.Machine

namespace Sys2Proof.Machine

variable {s t : State} {h : Shot}

/-! #### Dark shots and the ends of frames (R72, R81) -/

theorem locked_runDark (origin : Origin) (ret : Bool) (o : DarkOrder) (s : State) :
    (runDark origin ret o s).DriveLocked := by
  refine locked_enterPreparing rfl fun x hx light => ?_
  cases hx
  cases light

theorem locked_takeOrder (h : Shot) (order : Option DarkOrder) (s : State) : (takeOrder h order s).DriveLocked := by
  cases order with
  | none => exact locked_enterReturn h s
  | some o => exact locked_runDark _ _ o s

theorem locked_frameSpoiled (hl : s.DriveLocked) (id : Word) : (frameSpoiled id s).DriveLocked := by
  unfold frameSpoiled
  split
  · exact hl
  · split
    · exact hl
    · exact locked_enterReturn _ _

theorem inert_spoilFrame (id : Word) (reason : SpoilReason) (s : State) : Inert s (spoilFrame id reason s) := by
  unfold spoilFrame
  split
  · exact ((handed_breakViews id _).trans (handed_cardSpoiled id _)).inert.after rfl rfl
  · exact .refl s

theorem locked_spoilReadout (hl : s.DriveLocked) (reason : SpoilReason) : (spoilReadout reason s).DriveLocked := by
  unfold spoilReadout
  split
  · exact hl
  · next f _ =>
    extract_lets u
    have hu : Inert s u := (inert_finishRows _).after rfl rfl
    have spoilt := locked_frameSpoiled ((hu.trans (inert_spoilFrame f.id reason u)).locked hl) f.id
    exact Inert.locked (.same rfl rfl) spoilt

theorem locked_lightCompleted (hl : s.DriveLocked) (f : ReadoutFrame) : (lightCompleted f s).DriveLocked := by
  unfold lightCompleted
  extract_lets r
  split
  · exact locked_takeOrder _ _ _
  · exact (inert_decideDark s _ _ _).locked hl

theorem locked_darkCompleted (hl : s.DriveLocked) (f : ReadoutFrame) : (darkCompleted f s).DriveLocked := by
  unfold darkCompleted
  split
  · exact locked_enterReturn _ _
  · exact hl

/-! #### Messages that are taken, and those that are handed on (log 23) -/

theorem locked_handTo {take : State → State} (h : ∀ u, u.DriveLocked → (take u).DriveLocked) (hl : s.DriveLocked)
    (m : Message) : (handTo take m s).DriveLocked := by
  obtain he | ⟨n, -, he⟩ := handTo_cases take m s
  · rw [he]
    exact h _ (Inert.locked (.same rfl rfl) hl)
  · rw [he]
    exact Inert.locked (.same rfl rfl) hl

theorem locked_takeCompletion (hl : s.DriveLocked) (f : ReadoutFrame) (blacks : Blacks) (flags : List Flag) :
    (takeCompletion f blacks flags s).DriveLocked := by
  unfold takeCompletion
  split
  · exact hl
  · next k _ =>
    extract_lets kind
    have completed (c : Cause) : (raise c (completeRecord k blacks flags s)).DriveLocked :=
      ((inert_completeRecord s k blacks flags).trans (inert_raise _ c)).locked hl
    cases kind with
    | light => exact locked_handTo (fun u hu => locked_lightCompleted hu f) (completed _) _
    | dark => exact locked_darkCompleted (completed _) f

/-- A trip edge that finds a slot makes a shot of TRIPPED, which has no permission (R59, R77). -/
theorem locked_tripEdge (hl : s.DriveLocked) (edge : Word) (params : Exposure) :
    (tripEdge edge params s).DriveLocked := by
  unfold tripEdge
  split
  · exact (inert_ordinaryStart s).locked hl
  · split
    · next ha => exact ((inert_allocate ha).trans ⟨fun h => h, rfl, rfl⟩).locked hl
    · extract_lets ret cap _ h u v
      have hv : v.DriveLocked := locked_enter (by decide) (by decide)
      exact Inert.locked (.same rfl rfl) hv

theorem locked_answerTrip (hl : s.DriveLocked) (edge : Word) (params : Exposure) (abandoned : Bool) :
    (answerTrip edge params abandoned s).DriveLocked := by
  unfold answerTrip
  extract_lets t
  have ht : t.DriveLocked := locked_tripEdge hl edge params
  split
  · refine (Inert.trans ?_ (inert_closeAbandoned _ _)).locked ht
    exact .ite (fun _ => inert_countBounce t) fun _ => .refl t
  · exact ht

/-- A pre-shot check is awaited in PREPARING, of a LIGHT shot that was released (R64, R65). -/
theorem locked_takeCheck (hl : s.DriveLocked) (shot : Word) (present : Bool) : (takeCheck shot present s).DriveLocked := by
  unfold takeCheck
  split
  · next hst hs =>
    split
    · split
      · have released : s.Released := fun x hx light => hl.2 x hx light (.inr hst)
        exact locked_beginPasses (hl.onShot fun _ => rfl) (released.onShot fun _ => rfl)
      · exact locked_leaveSpoiled _ _ _ _
    · exact hl
  · exact hl

theorem locked_takeDriveEnd (hl : s.DriveLocked) (cause : DriveEnd) (off : Word) :
    (takeDriveEnd cause off s).DriveLocked := by
  unfold takeDriveEnd
  split
  · cases cause with
    | openAbort => exact locked_leaveSpoiled _ _ _ _
    | short => exact locked_leaveSpoiled _ _ _ _
    | lowSupply => exact (report_onlyFrames _ _ s).inert.locked hl
    | bulbEnd => exact hl
    | holdLimit => exact hl
  · next h _ _ =>
    extract_lets u
    have hu : Inert s u := inert_addFlag? s h.id cause.flag
    split
    · exact (hu.locked hl).onShot fun _ => rfl
    · exact hu.locked hl
  · exact (inert_addFlag? s _ _).locked hl
  · exact (inert_addFlag? s _ _).locked hl
  · exact hl

theorem locked_takeReport (hl : s.DriveLocked) (shot : Option Word) (report : DriverReport) :
    (takeReport shot report s).DriveLocked := by
  unfold takeReport
  split
  · split
    · exact locked_takeCheck hl _ _
    · exact hl
  · split
    · exact locked_takeDriveEnd hl _ _
    · exact hl
  · exact (Inert.ite (fun _ => inert_takeOpenContinuing s) fun _ => .refl s).locked hl

theorem locked_takeMessage (hl : s.DriveLocked) (m : Message) : (takeMessage m s).DriveLocked := by
  cases m with
  | tripEdge edge params abandoned => exact locked_answerTrip hl edge params abandoned
  | driver shot report => exact locked_takeReport hl shot report
  | completion f blacks flags => exact locked_takeCompletion hl f blacks flags
  | completed f => exact locked_lightCompleted hl f

theorem locked_handOn (hl : s.DriveLocked) (m : Message) : (handOn m s).DriveLocked :=
  locked_handTo (fun _ hu => locked_takeMessage hu m) hl m

theorem locked_takeAll (hl : s.DriveLocked) (hs : List Handoff) : (takeAll hs s).DriveLocked := by
  induction hs generalizing s with
  | nil => exact hl
  | cons h hs ih => exact ih (Inert.locked (.same rfl rfl) (locked_takeMessage hl h.message))

/-! #### The driver's events (R41, R42, R45, R47, R50, R52, R54) -/

theorem locked_checkEnd (hl : s.DriveLocked) (microamps : Nat) : (checkEnd microamps s).DriveLocked := by
  rw [checkEnd_eq]
  have ended := inert_checkOver s (decide (checkThreshold ≤ microamps))
  split
  · exact ended.locked hl
  · exact locked_handOn ((Inert.ite (fun _ => ended) fun _ => ended.trans (inert_raise _ _)).locked hl) _

/-- HOLD follows a PULL_IN (R45). -/
theorem inert_enterHold (hd : s.driver.phase.driving = true) : Inert s (enterHold s) :=
  .trans (t := s.onDriver _) ⟨fun _ => hd, rfl, rfl⟩ (inert_phaseChange _)

theorem locked_endDrive (hl : s.DriveLocked) (cause : DriveEnd) : (endDrive cause s).DriveLocked :=
  locked_handOn ((inert_driveOff s).locked hl) _

theorem locked_latchOpen (hl : s.DriveLocked) : (latchOpen s).DriveLocked := by
  unfold latchOpen
  extract_lets response u
  have hu : u.DriveLocked := Inert.locked (s := s) ⟨fun h => h, rfl, rfl⟩ hl
  split
  · have unevaluated : (u.onDriver fun d => { d with openEval := false }).DriveLocked :=
      Inert.locked (s := u) ⟨fun h => h, rfl, rfl⟩ hu
    exact locked_handOn unevaluated _
  · exact locked_endDrive hu _

theorem locked_latchShort (hl : s.DriveLocked) : (latchShort s).DriveLocked := by
  unfold latchShort
  extract_lets u
  have hu : Inert s u := (inert_driveOff s).trans ⟨fun h => h, rfl, rfl⟩
  exact locked_handOn ((hu.trans (inert_raise u _)).locked hl) _

theorem locked_indicateSupply (hl : s.DriveLocked) : (indicateSupply s).DriveLocked := by
  unfold indicateSupply
  extract_lets fell u
  have hu : u.DriveLocked := Inert.locked (s := s) ⟨fun h => h, rfl, rfl⟩ hl
  split
  · exact locked_endDrive hu _
  · exact hu

/-! #### The contact's events (R27 to R33, R67 to R69, R79) -/

theorem locked_qualifiedClose (hl : s.DriveLocked) (edge : Word) : (qualifiedClose edge s).DriveLocked := by
  have missed (reason : MissedReason) {u : State} (hu : u.DriveLocked) : (missedShot edge reason u).DriveLocked :=
    Inert.locked (.same rfl rfl) hu
  unfold qualifiedClose
  split
  · exact missed _ hl
  · exact missed _ hl
  · exact missed _ hl
  · split
    · exact Inert.locked (s := s) ⟨fun h => h, rfl, rfl⟩ hl
    · exact missed _ hl
  · exact missed _ hl
  · exact missed _ (locked_leaveSpoiled _ _ _ _)
  · split
    · exact missed _ hl
    · exact missed _ (locked_leaveSpoiled _ _ _ _)
  · exact locked_enterOpen _ s
  · exact locked_enter (by decide) (by decide)
  · exact (report_onlyFrames _ _ s).inert.locked hl
  · exact locked_takeOrder _ _ _
  · exact hl
  · exact hl

theorem locked_qualifiedOpen (hl : s.DriveLocked) : (qualifiedOpen s).DriveLocked := by
  unfold qualifiedOpen
  split
  · exact locked_enterTail _ _
  · exact hl

theorem locked_qualify (hl : s.DriveLocked) (r : Run) : (qualify r s).DriveLocked := by
  unfold qualify
  extract_lets u v
  have hv : v.DriveLocked := ((inert_recordEdge u r).after rfl rfl).locked hl
  split
  · exact locked_qualifiedClose hv _
  · exact locked_qualifiedOpen hv

theorem locked_beginRun (hl : s.DriveLocked) (closing : Bool) : (beginRun closing s).DriveLocked := by
  unfold beginRun
  extract_lets edge u
  have hu : u.DriveLocked := Inert.locked (s := s) (.same rfl rfl) hl
  split
  · unfold closeStart
    split
    · exact locked_handOn hu _
    · exact (inert_ordinaryStart u).locked hu
  · exact hu

theorem locked_takeEdge (hl : s.DriveLocked) (closed : Bool) : (takeEdge closed s).DriveLocked := by
  unfold takeEdge
  split
  · exact (Inert.ite (fun _ => inert_abandonRun s _) fun _ => .refl s).locked hl
  · split
    · exact hl
    · exact locked_beginRun hl _

theorem locked_rawEdge (hl : s.DriveLocked) (closed : Bool) : (rawEdge closed s).DriveLocked := by
  unfold rawEdge
  split
  · exact hl
  · extract_lets u
    have hu : u.DriveLocked := Inert.locked (s := s) (.same rfl rfl) hl
    split
    · exact hu
    · exact locked_takeEdge hu _

theorem locked_blankingEnd (hl : s.DriveLocked) : (blankingEnd s).DriveLocked := by
  unfold blankingEnd
  extract_lets u w
  have hu : u.DriveLocked := Inert.locked (s := s) (.same rfl rfl) hl
  split
  · exact (Inert.ite (fun _ => inert_abandonRun u _) fun _ => .refl u).locked hu
  · split
    · exact hu
    · have hw : Inert u w := by
        simp only [w]
        split
        · exact (report_onlyFrames _ _ u).inert
        · exact .refl u
      exact locked_beginRun (hw.locked hu) _

/-! #### The sequencer's requests and answers (R61 to R64, R75, R76, R80, R112, R193) -/

theorem locked_flushDone (hl : s.DriveLocked) : (flushDone s).DriveLocked := by
  unfold flushDone
  extract_lets closing u
  have hu : u.DriveLocked := Inert.locked (s := s) ⟨fun h => h, rfl, rfl⟩ hl
  split
  · exact (inert_issueFlush u).locked hu
  · next hst _ =>
    have released : u.Released := fun x hx light => hu.2 x hx light (.inr hst)
    split
    · exact hu
    · split
      · exact locked_beginPasses hu released
      · exact locked_beginPasses (hu.onShot fun _ => rfl) (released.onShot fun _ => rfl)
  · exact hu

/-- The shot of a RELEASE is a released one (R63, R64). -/
theorem locked_beginRelease (id : Word) (k : Fin 16) (mode : ShotMode) (bulb delay : Nat) (s : State) :
    (beginRelease id k mode bulb delay s).DriveLocked := by
  unfold beginRelease
  extract_lets armed h u v
  have made : u.Released := fun x hx _ => by cases hx; rfl
  have shot : (if armed then stopLoop u else u).seq.shot = u.seq.shot := by
    split <;> rfl
  have stopped : (if armed then stopLoop u else u).Released := fun x hx => made x (shot ▸ hx)
  have entered : v.DriveLocked := locked_seqEnter fun _ => stopped
  split
  · exact locked_enterPreparing ((seqEnter_tab _ .delay).2.1.trans shot) stopped.enter
  · exact entered

theorem locked_decideRelease (hl : s.DriveLocked) (mode : Half) (bulbMs delayMs : Word) :
    (decideRelease mode bulbMs delayMs s).1.DriveLocked := by
  unfold decideRelease
  split
  · exact hl
  · split
    · exact hl
    · split
      · next ha => exact (inert_allocate ha).locked hl
      · exact locked_beginRelease _ _ _ _ _ _

theorem locked_decideArm (hl : s.DriveLocked) (stay : Bool) : (decideArm stay s).1.DriveLocked := by
  unfold decideArm
  split
  · exact hl
  · split
    · exact hl
    · split
      · exact hl
      · split
        · exact hl
        · split
          · exact hl
          · exact locked_enterArmed _

theorem locked_clearStay (hl : s.DriveLocked) : (clearStay s).DriveLocked :=
  Inert.locked (s := s) ⟨fun h => h, rfl, rfl⟩ hl

theorem locked_decideDisarm (hl : s.DriveLocked) : (decideDisarm s).1.DriveLocked := by
  unfold decideDisarm
  split
  · exact locked_enter (by decide) (by decide)
  · exact locked_clearStay (locked_leaveSpoiled _ _ _ _)
  · exact hl
  · exact hl
  · exact hl
  · exact hl

theorem locked_cancelShot (h : Shot) (s : State) : (cancelShot h s).DriveLocked := by
  unfold cancelShot
  extract_lets u
  have hu : u.DriveLocked := locked_clearStay (locked_leaveSpoiled _ _ _ _)
  exact (Inert.ite (fun _ => inert_darkFailure u) fun _ => .refl u).locked hu

theorem locked_decideCancel (hl : s.DriveLocked) : (decideCancel s).1.DriveLocked := by
  unfold decideCancel
  split
  · exact locked_enter (by decide) (by decide)
  · exact hl
  · exact hl
  · exact hl
  · exact hl
  · exact locked_cancelShot _ s
  · exact hl

theorem locked_decideTakeDark (hl : s.DriveLocked) (duration : Word) : (decideTakeDark duration s).1.DriveLocked := by
  unfold decideTakeDark
  split
  · exact hl
  · split
    · exact hl
    · split
      · exact hl
      · split
        · next ha => exact (inert_allocate ha).locked hl
        · exact locked_runDark _ _ _ _

theorem locked_decideSetupSensor (hl : s.DriveLocked) (f : SensorFields) : (decideSetupSensor f s).1.DriveLocked := by
  unfold decideSetupSensor
  split
  · exact hl
  · split
    · exact hl
    · split
      · exact hl
      · split
        · exact hl
        · extract_lets u v
          split
          · exact locked_enter (by decide) (by decide)
          · exact Inert.locked (s := s) (.same rfl rfl) hl

theorem locked_withShot {f : Shot → State → State} (hl : s.DriveLocked) (hf : ∀ h u, (f h u).DriveLocked) :
    (withShot f s).DriveLocked := by
  unfold withShot
  split
  · exact hf _ _
  · exact hl

theorem locked_falseStart (h : Shot) (s : State) : (falseStart h s).DriveLocked :=
  Inert.locked (s := leaveSpoiled h .falseStart .armed _) (.same rfl rfl) (locked_leaveSpoiled _ _ _ _)

theorem locked_rowPacket (hl : s.DriveLocked) (row : Half) (samples : List Sample) (check : Half) :
    (rowPacket row samples check s).DriveLocked := by
  unfold rowPacket
  split
  · exact hl
  · split
    · exact Inert.locked (s := s) (.same rfl rfl) hl
    · exact locked_spoilReadout hl _

theorem locked_frameEndMarker (hl : s.DriveLocked) : (frameEndMarker s).DriveLocked := by
  unfold frameEndMarker
  split
  · exact hl
  · split
    · exact locked_spoilReadout hl _
    · exact Inert.locked (s := s) (.same rfl rfl) hl

theorem locked_completeFrame (hl : s.DriveLocked) (f : ReadoutFrame) : (completeFrame f s).DriveLocked := by
  unfold completeFrame
  extract_lets u blacks flags v
  have hv : Inert u v := .ite (fun _ => .same rfl rfl) fun _ => .refl u
  have left : Inert v (leaveReadout v) := .same rfl rfl
  exact locked_handOn ((((inert_finishRows s).trans hv).trans left).locked hl) _

/-! #### Resets (R57, R84, R209) -/

/-- A sequencer without a shot, beside a driver that is off. -/
theorem locked_off (off : s.driver.phase.driving = false) (shot : s.seq.shot = none) : s.DriveLocked :=
  ⟨fun hd => absurd hd (Bool.eq_false_iff.1 off), fun _ hx => nomatch shot.symm.trans hx⟩

theorem inert_spoilFlying (s : State) : Inert s (spoilFlying s) := by
  unfold spoilFlying
  split
  · exact .same rfl rfl
  · exact .refl s

theorem inert_handSpoil (id : Option Word) (first : Bool) {f : Word → State → State} (h : ∀ i s, Inert s (f i s))
    (s : State) : Inert s (handSpoil id first f s) := by
  unfold handSpoil
  split
  · exact .ite (fun _ => h _ s) fun _ => .refl s
  · exact .refl s

theorem inert_restartBlocks (id : Option Word) (v c : Bool) (s : State) : Inert s (restartBlocks id v c s) := by
  have views (s : State) : Inert s (handSpoil id v breakViews s) :=
    inert_handSpoil id v (fun i s => (handed_breakViews i s).inert) s
  have card (s : State) : Inert s (handSpoil id c cardSpoiled s) :=
    inert_handSpoil id c (fun i s => (handed_cardSpoiled i s).inert) s
  have readout (s : State) : Inert s (restartReadout s) :=
    .ite (fun _ => (inert_finishRows s).trans (.same rfl rfl)) fun _ => .refl s
  exact ((((views s).trans (inert_restartViews _)).trans (card _)).trans (inert_restartCard _)).trans (readout _)

theorem locked_restart (v c : Bool) (s : State) : (restart v c s).DriveLocked := by
  rw [restart_eq]
  have begun : (restartBegun s).DriveLocked := locked_off rfl rfl
  exact (((inert_spoilFlying _).trans (inert_restartBlocks _ v c _)).trans (inert_darkFailure _)).locked begun

theorem locked_poweredOn (s : State) : (poweredOn s).DriveLocked := locked_off rfl rfl

theorem inert_endReset (c d : Bool) (s : State) : Inert s (endReset c d s) := by
  unfold endReset
  extract_lets u v w x y z
  have hy : Inert s y := ⟨fun h => h, rfl, rfl⟩
  have hz : Inert y z := .foldl inert_writeMirror _ y
  exact ((hy.trans hz).trans (inert_writeQueueMirror z)).trans (inert_writeStatusPage _)

end Sys2Proof.Machine

namespace Sys2Proof.Machine

/-! #### Every step keeps the lock -/

variable {s t : State}

theorem locked_whenDue {due : State → Bool} {f : State → State} (hl : s.DriveLocked)
    (h : due s = true → (f s).DriveLocked) : (whenDue due f s).DriveLocked := by
  unfold whenDue
  split
  · next hd => exact h hd
  · exact hl

theorem inert_whenDue {due : State → Bool} {f : State → State} (h : ∀ u, Inert u (f u)) : Inert s (whenDue due f s) :=
  .ite (fun _ => h s) fun _ => .refl s

/-- A decision is made between the request unit's own updates. -/
theorem locked_asked (i : Instr) {d : State → State × Option ResultCode} (hl : s.DriveLocked)
    (h : ∀ u, u.DriveLocked → (d u).1.DriveLocked) : (asked i d s).DriveLocked :=
  locked_whenDue hl fun _ => Inert.locked (.same rfl rfl) (h _ (Inert.locked (s := s) (.same rfl rfl) hl))

theorem inert_asked (i : Instr) {d : State → State × Option ResultCode} (h : ∀ u, Inert u (d u).1) :
    Inert s (asked i d s) :=
  inert_whenDue fun u => Inert.trans (t := (d (beginDecision u)).1) ((h (beginDecision u)).after rfl rfl) (.same rfl rfl)

theorem shotDue_spec {st : SeqState} {timer : Shot → Timer} (h : s.shotDue st timer = true) :
    s.seq.state = st ∧ ∃ x, s.seq.shot = some x := by
  simp only [State.shotDue, Bool.and_eq_true, beq_iff_eq, Option.any_eq_true] at h
  obtain ⟨state, x, hx, -⟩ := h
  exact ⟨state, x, hx⟩

theorem locked_effect (i : Instr) (hl : s.DriveLocked) : (effect i s).DriveLocked := by
  cases i <;> dsimp only [effect]
  case powerOnReset => exact hl
  case resetEnd => exact hl
  case processorWrite =>
    exact Inert.locked (s := s) (.ite (fun _ => .same rfl rfl) fun _ => (onlyData_takeWrite _ s).inert) hl
  case postWrite => exact (inert_takePost s _ _).locked hl
  case causeClearWrite => exact (inert_takeClear s _ _ _ _).locked hl
  case apertureRead =>
    exact Inert.locked (s := s) (.ite (fun _ => .same rfl rfl) fun _ => (onlyData_takeRead _ _ s).inert) hl
  case apertureReadComplete => exact (inert_whenDue fun u => (onlyData_completeRead u).inert).locked hl
  case heldReadExpiry => exact (inert_whenDue inert_expireRead).locked hl
  case arbiterGrant => exact (grant_onlyMemory s).inert.locked hl
  case requestFetch => exact (inert_whenDue inert_fetchRequest).locked hl
  case requestComplete => exact (inert_whenDue inert_completeRequest).locked hl
  case statusPageWrite => exact (inert_whenDue inert_writeStatusPage).locked hl
  case mirrorWrite k => exact (inert_whenDue fun u => inert_writeMirror u k).locked hl
  case cardQueueMirrorWrite => exact (inert_whenDue inert_writeQueueMirror).locked hl
  case setupSensor f => exact locked_asked _ hl fun u hu => locked_decideSetupSensor hu f
  case setupStore f => exact (inert_asked _ fun u => inert_decideSetupStore u f).locked hl
  case setupExposure f => exact (inert_asked _ fun u => inert_decideSetupExposure u f).locked hl
  case setMask => exact Inert.locked (inert_asked _ fun _ => .same rfl rfl) hl
  case restart v c => exact locked_asked _ hl fun u _ => locked_restart v c u
  case release => exact locked_asked _ hl fun u hu => locked_decideRelease hu _ _ _
  case arm stay => exact locked_asked _ hl fun u hu => locked_decideArm hu stay
  case disarm => exact locked_asked _ hl fun u hu => locked_decideDisarm hu
  case cancel => exact locked_asked _ hl fun u hu => locked_decideCancel hu
  case checkRelease => exact (inert_asked _ inert_decideCheckRelease).locked hl
  case clearFaults => exact Inert.locked (inert_asked _ fun _ => ⟨fun h => h, rfl, rfl⟩) hl
  case takeDark duration => exact locked_asked _ hl fun u hu => locked_decideTakeDark hu duration
  case keep id => exact Inert.locked (inert_asked _ fun _ => inert_onRecord _ id fun _ => .same rfl rfl) hl
  case unkeep id => exact Inert.locked (inert_asked _ fun _ => inert_onRecord _ id fun _ => .same rfl rfl) hl
  case settle id => exact (inert_asked _ fun u => inert_onRecord u id (inert_decideSettle u)).locked hl
  case discard id => exact (inert_asked _ fun u => inert_onRecord u id (inert_decideDiscard u)).locked hl
  case openView f => exact (inert_asked _ fun u => inert_decideOpenView u f).locked hl
  case closeView view => exact (inert_asked _ fun u => inert_decideCloseView u view).locked hl
  case loadTone table addr => exact (inert_asked _ fun u => inert_decideLoadTone u table addr).locked hl
  case toneBankWrite => exact (inert_whenDue inert_writeTone).locked hl
  case cardJob f => exact (inert_asked _ fun u => inert_decideCardJob u f).locked hl
  case cardResume => exact (inert_asked _ inert_decideCardResume).locked hl
  case cardFlush => exact (inert_asked _ inert_decideCardFlush).locked hl
  case unknownRequest => exact (inert_asked _ fun u => .refl u).locked hl
  case syncRawEdge closed => exact locked_rawEdge hl closed
  case runQualifies =>
    refine locked_whenDue hl fun _ => ?_
    split
    · exact locked_qualify hl _
    · exact hl
  case blankingEnd => exact locked_whenDue hl fun _ => locked_blankingEnd hl
  case checkEnd microamps => exact locked_whenDue hl fun _ => locked_checkEnd hl microamps
  case pullInEnd =>
    refine locked_whenDue hl fun due => (inert_enterHold ?_).locked hl
    simp only [Bool.and_eq_true, beq_iff_eq] at due
    rw [due.1]
    rfl
  case holdChop => exact Inert.locked (inert_whenDue fun _ => ⟨fun h => h, rfl, rfl⟩) hl
  case bulbEnd => exact locked_whenDue hl fun _ => locked_endDrive hl _
  case holdLimit => exact locked_whenDue hl fun _ => locked_endDrive hl _
  case openLoadLatch => exact locked_whenDue hl fun _ => locked_latchOpen hl
  case shortDetected => exact locked_whenDue hl fun _ => locked_latchShort hl
  case lowSupplyIndication => exact locked_whenDue hl fun _ => locked_indicateSupply hl
  case tripDelayEnd =>
    refine locked_whenDue hl fun due => ?_
    obtain ⟨delay, h, hs⟩ := shotDue_spec due
    exact locked_enterPreparing hs fun x hx light => hl.2 x hx light (.inl delay)
  case flushDone => exact locked_whenDue hl fun _ => locked_flushDone hl
  case startAck => exact Inert.locked (s := s) ⟨fun h => h, rfl, rfl⟩ hl
  case endAck => exact (inert_whenDue inert_endAck).locked hl
  case flushTimeout => exact locked_whenDue hl fun _ => locked_sensorFault s
  case ackTimeout => exact locked_whenDue hl fun _ => locked_sensorFault s
  case syncTimeout => exact locked_whenDue hl fun _ => locked_withShot hl fun _ _ => locked_endIntegration _ _
  case openWaitExpiry => exact locked_whenDue hl fun _ => locked_withShot hl fun _ _ => locked_endIntegration _ _
  case tailEnd => exact locked_whenDue hl fun _ => locked_withShot hl locked_endIntegration
  case integrationCap => exact locked_whenDue hl fun _ => locked_withShot hl fun _ _ => locked_endIntegration _ _
  case falseStartWindowExpiry => exact locked_whenDue hl fun _ => locked_withShot hl locked_falseStart
  case darkDurationEnd => exact locked_whenDue hl fun _ => locked_withShot hl locked_endIntegration
  case rowPacket => exact locked_rowPacket hl _ _ _
  case rowStored => exact (inert_whenDue fun u => (inert_drainReadout u).trans (inert_storeRow _)).locked hl
  case frameEndMarker => exact locked_frameEndMarker hl
  case frameComplete =>
    refine locked_whenDue hl fun _ => ?_
    split
    · exact locked_completeFrame hl _
    · exact hl
  case readoutTimeout => exact locked_whenDue hl fun _ => locked_spoilReadout hl _
  case detectLineChange => exact Inert.locked (s := s) (.same rfl rfl) hl
  case detectDebounceExpiry => exact (inert_whenDue inert_debounced).locked hl
  case identifyAnswer => exact (inert_whenDue fun u => inert_identify u _ _).locked hl
  case capacityAnswer => exact (inert_whenDue fun u => inert_takeCapacity u _ _).locked hl
  case cardInitTimeout => exact (inert_whenDue inert_cardUnusable).locked hl
  case sectorFetched => exact (inert_whenDue inert_sectorFetched).locked hl
  case cardToken token => exact (inert_whenDue fun u => inert_takeToken u token).locked hl
  case cardBusyEnd => exact (inert_whenDue inert_busyEnd).locked hl
  case sectorLimitExpiry => exact (inert_whenDue inert_sectorLimit).locked hl
  case readSectorReceived =>
    exact (inert_whenDue fun u => inert_afterStoring u fun u => inert_receiveSector u _ _).locked hl
  case readSectorStored => exact (inert_whenDue inert_readStored).locked hl
  case rampBlankEnd => exact Inert.locked (inert_whenDue fun _ => ⟨fun h => h, rfl, rfl⟩) hl
  case currentSenseChange microamps => exact (inert_senseCurrent s microamps).locked hl
  case supplyComparatorChange low => exact (inert_compareSupply s low).locked hl

/-- What every step does around its effect is inert. -/
theorem inert_answer (a s : State) : Inert s (settle a (pump s)) :=
  (onlyData_pump s).inert.trans (.same rfl rfl)

theorem locked_answered {e : State → State} (hl : s.DriveLocked) (he : ∀ u, u.DriveLocked → (e u).DriveLocked)
    (h : Answered e s t) : t.DriveLocked := by
  obtain ⟨-, level, rfl⟩ | ⟨-, rfl⟩ := h
  · exact Inert.locked (s := s) (.same rfl rfl) hl
  · exact (inert_answer _ _).locked (he _ (Inert.locked (s := s) (.same rfl rfl) hl))

theorem locked_tick (hl : s.DriveLocked) : (tick s).DriveLocked := by
  unfold tick
  split
  · exact Inert.locked (s := s) (.same rfl rfl) hl
  · refine (inert_answer _ _).locked (locked_takeAll ?_ _)
    exact Inert.locked (.same rfl rfl) ((inert_microsecond s.quiet).locked (Inert.locked (s := s) (.same rfl rfl) hl))

theorem locked_step (hl : s.DriveLocked) (h : step s = .next t) : t.DriveLocked := by
  obtain ⟨-, rfl⟩ | ⟨i, rest, -, he⟩ := step_cases h
  · exact locked_tick hl
  · have next : ({ s with pending := rest } : State).DriveLocked := Inert.locked (s := s) (.same rfl rfl) hl
    obtain ⟨-, rfl⟩ | ⟨c, d, -, rfl⟩ | ha := exec_cases he
    · exact locked_poweredOn _
    · exact (Inert.ite (fun _ => inert_endReset c d _) fun _ => .same rfl rfl).locked next
    · exact locked_answered next (fun _ hu => locked_effect i hu) ha

/-- Settles O37: operations are inert, or end in a state just entered, but for the start of a released shot's drive. -/
theorem everyStepKeepsTheDriveLocked : Obligations.EveryStepKeepsTheDriveLocked := by
  unfold Obligations.EveryStepKeepsTheDriveLocked
  exact ⟨fun _ => permission_iff, fun _ => driveFlows_spec, fun _ _ => locked_step⟩

end Sys2Proof.Machine

namespace Sys2Proof.Machine

/-! ### The requests of the release driver (R43, R55) -/

variable {s t : State}

/-- A request whose decision touches the driver alone yields the driver so changed. -/
theorem yields_driverRequest {i : Instr} {d : State → State × Option ResultCode} {e : Driver} (hs : s.Awake)
    (hi : exec i s = request i d s) (ha : s.asks i = true) (hd : d s.deciding = accept { s.deciding with driver := e }) :
    Yields i s fun t => t.req.answer = some .ok ∧ t.driver = e ∧ Keeps [.driver, .answer] s t := by
  refine yields_request hs hi ha (by rw [hd]; rfl) (by rw [hd]; rfl) ?_
  rw [hd]
  have decided : Keeps [.driver, .answer] s { s.deciding with driver := e } := by
    intro p hp
    have kept := keeps_deciding s p fun hm => hp (by simp_all)
    cases p
    case driver => simp at hp
    all_goals exact kept
  exact ⟨rfl, rfl, keeps_settle_endDecision decided (by simp)⟩

theorem yields_checkRelease (hs : s.Awake) (ha : s.asks .checkRelease = true) (off : s.driver.phase = .off) :
    Yields .checkRelease s fun t => t.req.answer = some .ok
      ∧ t.driver = { s.driver with phase := .check, checkTimer := some 2000, checkFor := none }
      ∧ Keeps [.driver, .answer] s t :=
  yields_driverRequest hs rfl ha (if_pos off)

theorem yields_checkRelease_busy (hs : s.Awake) (ha : s.asks .checkRelease = true) (on : s.driver.phase ≠ .off) :
    Yields .checkRelease s fun t => t.req.answer = some .busy ∧ Keeps [.answer] s t :=
  yields_refuse hs rfl ha (if_neg on)

theorem yields_clearFaults (hs : s.Awake) (ha : s.asks .clearFaults = true) : Yields .clearFaults s fun t =>
    t.req.answer = some .ok
      ∧ t.driver = { s.driver with
          faultShort := false, faultOpen := false
          cable := if s.driver.cable = .absent then .unknown else s.driver.cable }
      ∧ Keeps [.driver, .answer] s t :=
  yields_driverRequest hs rfl ha rfl

end Sys2Proof.Machine

namespace Sys2Proof.Machine

/-! ### Integration of a released shot starts (R45, R66) -/

variable {s t u : State} {k : Fin 16} {h : Shot}

/-- The driver with a drive just turned on (R45). -/
def Driver.turnedOn (d : Driver) (p : DriveParams) (clock : Word) : Driver :=
  { d with
    phase := .pullIn, checkTimer := none, checkFor := none, openTimer := 0, shortTimer := 0, params := some p
    driveStart := clock, openEval := true, pullTimer := some p.pullIn, holdTimer := none
    bulbTimer := if p.mode = .timedBulb then some p.bulb else none, rampTimer := some rampBlank
    chopOn := false, chopTimer := none }

theorem bulbTimer_turnedOn (h : Shot) (d : Driver) (clock : Word) :
    (d.turnedOn h.driveParams clock).bulbTimer = if h.mode = some .timedBulb then some h.bulb else none := by
  cases mode : h.mode with
  | none => simp [Driver.turnedOn, Shot.driveParams, mode]
  | some m => simp [Driver.turnedOn, Shot.driveParams, mode]

theorem driveOn_eq (p : DriveParams) (s : State) : driveOn p s = { s with
    pins := { s.pins with sense := 0 }, driver := s.driver.turnedOn p s.clock
    sync := { s.sync with blanking := blankedBy s } } := phaseChange_eq _

theorem issueStart_eq (s : State) : issueStart s = { s with
    seq := { s.seq with flushWait := none, closingFlush := false, startWait := some 1000 }
    sent := s.sent ++ [.sensorStart] } := rfl

theorem issueFlush_eq (s : State) : issueFlush s = { s with
    seq := { s.seq with flushWait := some (s.setup.sensor.flushTimeout * 1000) }
    sent := s.sent ++ [.sensorFlush] } := rfl

/-- The shot whose integration has started, with the timers of WAIT_SYNC (R66). -/
def Shot.waiting (h : Shot) : Shot :=
  { h with syncTimer := some (h.params.syncTimeout * 1000), capTimer := some 3600000000 }

/-- A released shot in WAIT_SYNC, its drive just turned on. -/
theorem startReleased_eq (shot : s.seq.shot = some h) (find : s.find h.id = some k) (released : h.origin = .release) :
    startReleased h s = { s with
      pins := { s.pins with sense := 0 }
      driver := s.driver.turnedOn h.driveParams s.clock
      sync := { s.sync with listening := false, rearmed := false, expect := .close, blanking := blankedBy s }
      seq := { s.seq with
        state := .waitSync, refusedTrip := none, flushWait := none, closingFlush := false, startWait := some 1000
        shot := some h.waiting }
      store := (s.setFrame k { s.frame k with release := some s.clock, integStart := some s.clock }).store
      sent := s.sent ++ [.sensorStart] } := by
  have entered := seqEnter_outside_armed (s := issueStart s) (st := .waitSync) (by decide)
    fun _ => ⟨.inl rfl, h, shot, released⟩
  unfold startReleased
  rw [entered, driveOn_eq]
  dsimp only
  rw [report_of_find (k := k) (by exact find)]
  simp only [onShot, State.onSeq, issueStart_eq]
  rw [show ∀ x : State, x.seq.shot = some h → x.seq.shot.map _ = some h.waiting from fun x hx => by rw [hx]; rfl]
  · rfl
  · exact shot

/-- The start of integration of a released shot works on the front parts, as R66 says. -/
theorem startReleased_spec (shot : s.seq.shot = some h) (find : s.find h.id = some k) (released : h.origin = .release)
    (unsent : s.sent = []) : FrontWork s (startReleased h s) ∧ StartsReleased h k s (startReleased h s) := by
  have started := startReleased_eq shot find released
  generalize startReleased h s = t at started
  have work : FrontWork s t := by rw [started]; rfl
  have frames := frame_of_setFrame (s := s) (t := t) (k := k)
    (f := { s.frame k with release := some s.clock, integStart := some s.clock }) (by rw [started])
  have blanked : t.sync.blanking = blankedBy s := by rw [started]
  have keeps : Keeps [.records, .sync, .driver, .sequencer, .pins, .sent] s t :=
    work.keeps_rest.restrict (by rw [started]; simp [frontParts, Part.Same, State.setFrame, State.onStore])
  have bulb : t.driver.bulbTimer = if h.mode = some .timedBulb then some h.bulb else none := by
    rw [started]
    exact bulbTimer_turnedOn h s.driver s.clock
  refine ⟨work, ?_, ?_, ?_, ?_, frames.1, frames.2, ?_, ?_, ?_, ?_, ?_, bulb, ?_, ?_, fun g target positive => ?_, ?_,
    keeps⟩
  case refine_12 =>
    rw [blanked]
    unfold blankedBy
    simp [target, Nat.ne_of_gt positive]
  all_goals rw [started]
  case refine_2 => simp [unsent]
  all_goals rfl

end Sys2Proof.Machine

namespace Sys2Proof.Machine

/-! ### What a frame keeps over several steps of an argument -/

variable {s t u a b x : State} {c : List Part} {k : Fin 16} {h : Shot}

theorem Part.Same.trans {p : Part} (f : p.Same s t) (g : p.Same t u) : p.Same s u := by
  cases p
  case records | dram => exact fun k => (g k).trans (f k)
  case card =>
    have unscheduled : { u.card with mirrorDue := t.card.mirrorDue } = t.card := g
    exact (congrArg (fun y : CardEngine => { y with mirrorDue := s.card.mirrorDue }) unscheduled :).trans f
  case clock => exact ⟨g.1.trans f.1, g.2.trans f.2⟩
  case store | answer => exact ⟨g.1.trans f.1, g.2.1.trans f.2.1, g.2.2.trans f.2.2⟩
  case counts =>
    obtain ⟨post, consumed, hand, mask, page⟩ := f
    obtain ⟨post', consumed', hand', mask', page'⟩ := g
    exact ⟨post'.trans post, consumed'.trans consumed, hand'.trans hand, mask'.trans mask, page'.trans page⟩
  case due => exact ⟨fun k m => g.1 k (f.1 k m), fun m => g.2.1 (f.2.1 m), fun m => g.2.2 (f.2.2 m)⟩
  case sent => exact g
  all_goals exact Eq.trans g f

theorem Keeps.trans (f : Keeps c s t) (g : Keeps c t u) : Keeps c s u := fun p hp => (f p hp).trans (g p hp)

/-- What is scheduled for a microsecond is scheduled for it and an effect that schedules what was. -/
theorem due_settle_in_turn (frames : ∀ k, s.frame k = b.frame k) (jobs : s.card.jobs = b.card.jobs)
    (view : s.statusView = b.statusView) (f : Part.due.Same a x) :
    Part.due.Same (settle b a) (settle s (settle a x)) := by
  obtain ⟨mirror, queue, status⟩ := f
  have jobs' : (settle a x).card.jobs = x.card.jobs := rfl
  have view' : (settle a x).statusView = x.statusView := rfl
  refine ⟨fun k m => ?_, fun m => ?_, fun m => ?_⟩
  · rw [mem_settle_mirrorDue] at m
    rw [mem_settle_mirrorDue, mem_settle_mirrorDue, settle_frame, frames]
    by_cases same : (a.frame k).content = (x.frame k).content
    · exact m.imp (fun m => .inl (mirror k m)) fun changed => same ▸ changed
    · exact .inl (.inr same)
  · rw [settle_queueDue, Bool.or_eq_true, decide_eq_true_iff] at m
    rw [settle_queueDue, settle_queueDue, jobs, jobs', Bool.or_eq_true, Bool.or_eq_true, decide_eq_true_iff,
      decide_eq_true_iff]
    by_cases same : a.card.jobs = x.card.jobs
    · exact m.imp (fun m => .inl (queue m)) fun changed => same ▸ changed
    · exact .inl (.inr same)
  · rw [settle_statusDue, Bool.or_eq_true, decide_eq_true_iff] at m
    rw [settle_statusDue, settle_statusDue, view, view', Bool.or_eq_true, Bool.or_eq_true, decide_eq_true_iff,
      decide_eq_true_iff]
    by_cases same : a.statusView = x.statusView
    · exact m.imp (fun m => .inl (status m)) fun changed => same ▸ changed
    · exact .inl (.inr same)

/-- What is kept of a state is kept of it settled, if what is scheduled then is. -/
theorem Keeps.of_settled (f : Keeps c a t) (due : Part.due.Same (settle b a) t) : Keeps c (settle b a) t := by
  intro p hp
  have kept := f p hp
  cases p
  case due => exact due
  case card => exact congrArg (fun y : CardEngine => { y with mirrorDue := (settle b a).card.mirrorDue }) kept
  all_goals exact kept

/-- What an effect keeps of the state a microsecond leads to is kept by a step that settles the microsecond and the
effect in turn, of what the step of the microsecond alone would answer. -/
theorem keeps_settle_in_turn (frames : ∀ k, s.frame k = b.frame k) (jobs : s.card.jobs = b.card.jobs)
    (view : s.statusView = b.statusView) (f : Keeps c a x) (due : Part.due.Same a x) :
    Keeps c (settle b a) (settle s (settle a x)) :=
  (keeps_settle s (keeps_settle a f)).of_settled (due_settle_in_turn frames jobs view due)

/-- The parts that a take of the sequencer works on agree. -/
structure SameFront (x t : State) : Prop where
  seq : t.seq = x.seq
  sync : t.sync = x.sync
  driver : t.driver = x.driver
  sent : t.sent = x.sent
  frame : ∀ j, t.frame j = x.frame j

theorem sameFront_settle (b x : State) : SameFront x (settle b x) := ⟨rfl, rfl, rfl, rfl, fun _ => rfl⟩

theorem SameFront.trans (f : SameFront s t) (g : SameFront t u) : SameFront s u :=
  ⟨g.seq.trans f.seq, g.sync.trans f.sync, g.driver.trans f.driver, g.sent.trans f.sent,
    fun j => (g.frame j).trans (f.frame j)⟩

theorem StartsReleased.keeps (g : StartsReleased h k s t) :
    Keeps [.records, .sync, .driver, .sequencer, .pins, .sent] s t := by
  obtain ⟨-, -, -, -, -, -, -, -, -, -, -, -, -, -, -, -, keeps⟩ := g
  exact keeps

/-- A start of integration told of states that agree in what it speaks of. -/
theorem StartsReleased.carry (g : StartsReleased h k a x) (clock : u.clock = a.clock) (sync : u.sync = a.sync)
    (frame : ∀ j, u.frame j = a.frame j) (after : SameFront x t)
    (keeps : Keeps [.records, .sync, .driver, .sequencer, .pins, .sent] u t) : StartsReleased h k u t := by
  have kept := g.keeps
  unfold StartsReleased SameBut at *
  simp only [kept, and_true] at g
  simp only [after.seq, after.sync, after.driver, after.sent, after.frame, clock, sync, frame, keeps, and_true]
  exact g

/-- What follows a passed check told of states that agree in what it speaks of. -/
theorem GoesOn.carry (g : GoesOn h k a x) (setup : u.setup = a.setup) (seq : u.seq = a.seq) (clock : u.clock = a.clock)
    (sync : u.sync = a.sync) (frame : ∀ j, u.frame j = a.frame j) (after : SameFront x t)
    (keeps : ∀ c, .driver ∈ c → Keeps c a x → Keeps c u t) : GoesOn h k u t := by
  unfold GoesOn at *
  rw [seq, setup, after.seq, after.sent]
  obtain ⟨waits, flushes, starts⟩ := g
  refine ⟨fun closing => ?_, fun idle left => ?_, fun idle none => ?_⟩
  · obtain ⟨shot, kept⟩ := waits closing
    exact ⟨shot, keeps _ (by simp) kept⟩
  · obtain ⟨sent, shot, kept⟩ := flushes idle left
    exact ⟨sent, shot, keeps _ (by simp) kept⟩
  · have start := starts idle none
    exact start.carry clock sync frame after (keeps _ (by simp) start.keeps)

end Sys2Proof.Machine

namespace Sys2Proof.Machine

/-! ### The result of a pre-shot check, as the sequencer takes it (R65) -/

variable {s t u x : State} {k : Fin 16} {h : Shot} {id : Word} {present : Bool}

/-- A released shot of this record is prepared and waits for the result of its check. -/
structure AwaitsCheck (h : Shot) (k : Fin 16) (s : State) : Prop where
  state : s.seq.state = .preparing
  shot : s.seq.shot = some h
  checking : h.checking = true
  kind : h.kind = .light
  released : h.origin = .release
  find : s.find h.id = some k
  idle : s.driver.phase.driving = false

theorem AwaitsCheck.of_locked (hl : s.DriveLocked) (state : s.seq.state = .preparing) (shot : s.seq.shot = some h)
    (checking : h.checking = true) (kind : h.kind = .light) (find : s.find h.id = some k) : AwaitsCheck h k s := by
  refine ⟨state, shot, checking, kind, hl.2 h shot kind (.inr state), find, Bool.eq_false_iff.2 fun driving => ?_⟩
  obtain ⟨permitted, -⟩ := hl.permits driving
  simp [state] at permitted

/-- The shot of the state with its check behind it. -/
def State.passedCheck (s : State) (h : Shot) : State :=
  { s with seq := { s.seq with shot := some { h with checking := false } } }

theorem takeCheck_eq (w : AwaitsCheck h k s) : takeCheck h.id present s =
    if present then beginPasses (s.passedCheck h) else leaveSpoiled h .noCable .returning s := by
  have passed : onShot (fun h => { h with checking := false }) s = s.passedCheck h := by
    have shot : s.seq.shot.map (fun h => { h with checking := false }) = some { h with checking := false } := by
      rw [w.shot]
      rfl
    unfold State.passedCheck
    rw [← shot]
    rfl
  unfold takeCheck
  rw [w.state, w.shot]
  simp only [w.checking, and_self, if_true, passed]

/-- Outside PREPARING of the shot that asked for the check its result is ignored. -/
theorem takeCheck_ignored
    (elsewhere : s.seq.state ≠ .preparing ∨ ∀ h, s.seq.shot = some h → h.id ≠ id ∨ h.checking = false) :
    takeCheck id present s = s := by
  unfold takeCheck
  split
  · next x state shot =>
    obtain away | other := elsewhere
    · exact absurd state away
    · refine if_neg fun ⟨asked, checks⟩ => ?_
      obtain foreign | unasked := other x shot
      · exact foreign asked
      · simp [checks] at unasked
  · rfl

/-- With the passes still to come the next one is issued, and after the last one integration starts. -/
theorem beginPasses_passedCheck (closing : s.seq.closingFlush = false) : beginPasses (s.passedCheck h) =
    if h.passesLeft = 0 then startIntegration { h with checking := false } (s.passedCheck h)
    else issueFlush (s.passedCheck h) := by
  unfold beginPasses
  exact if_neg (by simp [State.passedCheck, closing])

theorem beginPasses_closing (closing : s.seq.closingFlush = true) : beginPasses (s.passedCheck h) = s.passedCheck h := by
  unfold beginPasses
  exact if_pos closing

/-- A check with the cable present goes on with the shot's passes, as front work. -/
theorem AwaitsCheck.goesOn (w : AwaitsCheck h k s) (unsent : s.sent = []) :
    FrontWork s (takeCheck h.id true s) ∧ GoesOn h k s (takeCheck h.id true s)
      ∧ (takeCheck h.id true s).driver.cable = s.driver.cable
      ∧ (takeCheck h.id true s).handoffs = s.handoffs := by
  have taken : takeCheck h.id true s = beginPasses (s.passedCheck h) := (takeCheck_eq w).trans (if_pos rfl)
  have passed : FrontWork s (s.passedCheck h) := rfl
  have kept : Keeps [.driver, .sequencer, .pins, .records, .sync, .sent] s (s.passedCheck h) :=
    passed.keeps_rest.restrict (by simp [frontParts, Part.Same, State.passedCheck])
  rw [taken]
  cases closing : s.seq.closingFlush with
  | true =>
    rw [beginPasses_closing closing]
    refine ⟨passed, ⟨fun _ => ⟨rfl, ?_⟩, by simp [closing], by simp [closing]⟩, rfl, rfl⟩
    exact passed.keeps_rest.restrict (by simp [frontParts, Part.Same, State.passedCheck, State.frame, unsent])
  | false =>
    rw [beginPasses_passedCheck closing]
    by_cases last : h.passesLeft = 0
    · rw [if_pos last]
      have released : startIntegration { h with checking := false } (s.passedCheck h)
          = startReleased { h with checking := false } (s.passedCheck h) :=
        if_neg (show ¬h.kind = .dark by rw [w.kind]; decide)
      rw [released]
      obtain ⟨work, starts⟩ := startReleased_spec (s := s.passedCheck h) (h := { h with checking := false }) (k := k)
        rfl w.find w.released unsent
      have carried := starts.carry (u := s) rfl rfl (fun _ => rfl) ⟨rfl, rfl, rfl, rfl, fun _ => rfl⟩
        ((kept.mono (by simp)).trans starts.keeps)
      refine ⟨passed.trans work,
        ⟨by simp [closing], fun _ left => absurd last (Nat.ne_of_gt left), fun _ _ => carried⟩, ?_⟩
      rw [startReleased_eq (s := s.passedCheck h) (h := { h with checking := false }) (k := k) rfl w.find w.released]
      exact ⟨rfl, rfl⟩
    · rw [if_neg last]
      have work : FrontWork s (issueFlush (s.passedCheck h)) := rfl
      refine ⟨work, ⟨by simp [closing], fun _ _ => ⟨?_, rfl, ?_⟩, fun _ none => absurd none last⟩, rfl, rfl⟩
      · simp [State.passedCheck, issueFlush_eq, unsent]
      · exact work.keeps_rest.restrict
          (by simp [frontParts, Part.Same, State.passedCheck, issueFlush_eq, State.frame])

end Sys2Proof.Machine

namespace Sys2Proof.Machine

/-! ### The end of a check (R42, R44, R65) -/

variable {s t u x : State} {k : Fin 16} {h : Shot} {id : Word} {current : Nat} {d : Driver}

/-- The driver once a check has ended at this test current and none is pending (R42). -/
def Driver.checked (d : Driver) (current : Nat) : Driver :=
  { d with
    phase := .off, checkTimer := none, checkFor := none, cable := if 500 ≤ current then .present else .absent }

theorem Driver.checked_unasked (unasked : d.checkFor = none) (current : Nat) : d.checked current =
    { d with phase := .off, checkTimer := none, cable := if 500 ≤ current then .present else .absent } := by
  unfold Driver.checked
  rw [← unasked]

/-- The driver once a check has ended at this test current and the pending one has begun (R42, R44). -/
def Driver.checkedAgain (d : Driver) (p : Word) (current : Nat) : Driver :=
  { d with
    checkTimer := some 2000, checkFor := some p, pendingCheck := none
    cable := if 500 ≤ current then .present else .absent }

/-- The check has ended with the driver `d`; an absent cable has raised RELEASE_FAULT (R44). -/
def State.checkDone (s : State) (d : Driver) (current : Nat) : State :=
  { s with
    driver := d
    req := { s.req with causes := if 500 ≤ current then s.req.causes else s.req.causes ||| Cause.releaseFault.bit } }

theorem cable_of_threshold (current : Nat) :
    (if decide (checkThreshold ≤ current) = true then Cable.present else .absent)
      = if 500 ≤ current then Cable.present else .absent := by
  by_cases present : 500 ≤ current
  · rw [if_pos (decide_eq_true (p := checkThreshold ≤ current) present), if_pos present]
  · have below : ¬decide (checkThreshold ≤ current) = true := fun e => present (of_decide_eq_true e)
    rw [if_neg below, if_neg present]

theorem checkOver_alone (alone : s.driver.pendingCheck = none) :
    checkOver (decide (checkThreshold ≤ current)) s = { s with driver := s.driver.checked current } := by
  unfold checkOver
  dsimp only [State.onDriver]
  rw [alone, cable_of_threshold]
  simp only [Driver.checked, alone]

theorem checkOver_pending {p : Word} (phase : s.driver.phase = .check) (pending : s.driver.pendingCheck = some p) :
    checkOver (decide (checkThreshold ≤ current)) s = { s with driver := s.driver.checkedAgain p current } := by
  unfold checkOver
  dsimp only [State.onDriver]
  rw [pending, cable_of_threshold]
  simp only [checkTime, Driver.checkedAgain, startCheck, State.onDriver, phase]

theorem checkEnd_unasked (unasked : s.driver.checkFor = none)
    (ended : checkOver (decide (checkThreshold ≤ current)) s = { s with driver := d }) :
    checkEnd current s = { s with driver := d } := by
  rw [checkEnd_eq, unasked]
  exact ended

theorem checkEnd_asked (asked : s.driver.checkFor = some id)
    (ended : checkOver (decide (checkThreshold ≤ current)) s = { s with driver := d }) :
    checkEnd current s = handOn (.driver (some id) (.checkResult (decide (500 ≤ current)))) (s.checkDone d current) := by
  rw [checkEnd_eq, asked, ended]
  refine congrArg (handOn (.driver (some id) (.checkResult (decide (500 ≤ current))))) ?_
  by_cases present : 500 ≤ current
  · rw [if_pos (decide_eq_true (p := checkThreshold ≤ current) present), State.checkDone, if_pos present]
  · have below : ¬decide (checkThreshold ≤ current) = true := fun e => present (of_decide_eq_true e)
    rw [if_neg below, State.checkDone, if_neg present]
    rfl

section ended
variable (hs : s.Awake) (phase : s.driver.phase = .check) (timer : s.driver.checkTimer = some 0)
  (ended : checkOver (decide (checkThreshold ≤ current)) s.quiet = { s.quiet with driver := d })
include hs phase timer ended

omit hs ended in
theorem effect_checkEnd : effect (.checkEnd current) s.quiet = checkEnd current s.quiet :=
  if_pos (by simp [phase, timer, timerDue])

theorem yields_checkEnd_unasked (unasked : s.driver.checkFor = none) :
    Yields (.checkEnd current) s fun t => t.driver = d ∧ Keeps [.driver] s t :=
  yields_front hs rfl ((effect_checkEnd phase timer).trans (checkEnd_unasked unasked ended)) rfl fun keeps =>
    ⟨rfl, keeps (by simp [frontParts, Part.Same, State.frame])⟩

/-- A result that is on its way to the sequencer (log 23). -/
theorem yields_checkEnd_handed (asked : s.driver.checkFor = some id) (free : s.handoffs = []) {n : Nat} {rest : List Nat}
    (lags : s.lags = (n + 1) :: rest) : Yields (.checkEnd current) s fun t =>
      t.driver = d
        ∧ t.req.causes = (if 500 ≤ current then s.req.causes else s.req.causes ||| Cause.releaseFault.bit)
        ∧ t.lags = rest ∧ t.handoffs = [⟨.driver (some id) (.checkResult (500 ≤ current)), n + 1⟩]
        ∧ Keeps [.driver, .causes, .handoffs] s t := by
  have taken := (effect_checkEnd phase timer).trans ((checkEnd_asked (s := s.quiet) asked ended).trans
    (handTo_lag (s := s.quiet.checkDone d current) _ _ n rest free lags))
  exact yields_front hs rfl taken rfl fun keeps =>
    ⟨rfl, rfl, rfl, rfl, keeps (by simp [frontParts, Part.Same, State.frame, State.checkDone])⟩

omit hs in
/-- A result that is taken at once. -/
theorem effect_checkEnd_prompt (asked : s.driver.checkFor = some id) (ready : s.Prompt) :
    effect (.checkEnd current) s.quiet
      = takeCheck id (decide (500 ≤ current)) { s.quiet.checkDone d current with lags := s.lags.tail } :=
  (effect_checkEnd phase timer).trans ((checkEnd_asked (s := s.quiet) asked ended).trans
    (handTo_prompt (s := s.quiet.checkDone d current) _ _ ready.1 ready.2))

theorem yields_checkEnd_ignored (asked : s.driver.checkFor = some id) (ready : s.Prompt)
    (foreign : ∀ h, s.seq.shot = some h → h.id ≠ id) : Yields (.checkEnd current) s fun t =>
      t.driver = d
        ∧ t.req.causes = (if 500 ≤ current then s.req.causes else s.req.causes ||| Cause.releaseFault.bit)
        ∧ Keeps [.driver, .causes] s t := by
  have taken := (effect_checkEnd_prompt phase timer ended asked ready).trans
    (takeCheck_ignored (.inr fun h shot => .inl (foreign h shot)))
  exact yields_front hs rfl taken rfl fun keeps =>
    ⟨rfl, rfl, keeps (by simp [frontParts, Part.Same, State.frame, State.checkDone])⟩

end ended

section taken
variable (hs : s.Awake) (phase : s.driver.phase = .check) (timer : s.driver.checkTimer = some 0) (ready : s.Prompt)
  (asked : s.driver.checkFor = some h.id) (alone : s.driver.pendingCheck = none) (waits : AwaitsCheck h k s)
include hs phase timer ready asked alone waits

/-- The cable is present, and the shot goes on with its passes. -/
theorem yields_checkEnd_goesOn (present : 500 ≤ current) :
    Yields (.checkEnd current) s fun t => t.driver.cable = .present ∧ GoesOn h k s t := by
  have taken := effect_checkEnd_prompt (current := current) phase timer (checkOver_alone alone) asked ready
  rw [decide_eq_true present] at taken
  have checked : FrontWork s { s.quiet.checkDone (s.quiet.driver.checked current) current with lags := s.lags.tail } := rfl
  obtain ⟨work, goes, cable, -⟩ := AwaitsCheck.goesOn (h := h) (k := k)
    (s := { s.quiet.checkDone (s.quiet.driver.checked current) current with lags := s.lags.tail })
    { waits with idle := rfl } rfl
  refine yields_front hs rfl taken (checked.trans work) fun _ => ⟨cable.trans (if_pos present), ?_⟩
  refine goes.carry rfl rfl rfl rfl (fun _ => rfl) (sameFront_settle _ _) fun c hc kept => keeps_settle s ?_
  refine Keeps.trans (checked.keeps_rest.restrict ?_) kept
  simp [frontParts, Part.Same, State.frame, State.checkDone, hc, present]

/-- The cable is absent, and the shot is spoiled NO_CABLE. -/
theorem yields_checkEnd_spoils (absent : current < 500) (exposing : (s.frame k).state = .exposing) :
    Yields (.checkEnd current) s fun t =>
      t.driver.phase = .off ∧ t.driver.cable = .absent ∧ SpoiledAs .noCable s.clock (s.frame k) (t.frame k)
        ∧ t.req.causes.getLsbD Cause.releaseFault.position = true
        ∧ t.req.causes.getLsbD Cause.shotSpoiled.position = true
        ∧ t.seq.shot = none ∧ t.seq.state = (if h.returnArmed then .armed else .idle)
        ∧ (NoUsers s h.id → SameBut k s t
          ∧ Keeps [.records, .store, .driver, .sequencer, .sync, .causes, .sent] s t) := by
  have missing : ¬500 ≤ current := Nat.not_le.2 absent
  have checked : FrontWork s { s.quiet.checkDone (s.quiet.driver.checked current) current with lags := s.lags.tail } := rfl
  have taken := effect_checkEnd_prompt (current := current) phase timer (checkOver_alone alone) asked ready
  rw [decide_eq_false missing] at taken
  replace taken := taken.trans (takeCheck_eq (h := h) (k := k) (present := false)
    (s := { s.quiet.checkDone (s.quiet.driver.checked current) current with lags := s.lags.tail })
    { waits with idle := rfl })
  rw [if_neg Bool.false_ne_true] at taken
  have left := leaveSpoiled_returns (h := h) (reason := .noCable)
    (s := { s.quiet.checkDone (s.quiet.driver.checked current) current with lags := s.lags.tail }) waits.find exposing
  have alone := leaveSpoiled_work (h := h) (reason := .noCable)
    (s := { s.quiet.checkDone (s.quiet.driver.checked current) current with lags := s.lags.tail }) waits.find exposing
  generalize leaveSpoiled _ _ _ _ = u at taken left alone
  have same : SameOutcome u (settle s (pump u)) := sameOutcome_answer s u
  have driver : (settle s (pump u)).driver = s.driver.checked current :=
    (congrArg State.driver (onlyData_pump u)).trans (left.driver.trans (Driver.offNow_of_idle rfl))
  have fault : (s.quiet.checkDone (s.quiet.driver.checked current) current).Raised .releaseFault := by
    unfold State.Raised State.checkDone
    rw [if_neg missing]
    exact releaseFault_raised _
  have runs : exec (.checkEnd current) s = run (effect (.checkEnd current)) s := rfl
  refine ⟨settle s (pump u), by rw [runs, run_of_awake hs.1, taken], ?_⟩
  refine ⟨?_, ?_, ?_, ?_, ?_, ?_, ?_, fun unused => ?_⟩
  · rw [driver]; rfl
  · rw [driver]
    exact if_neg missing
  · rw [same.frame]
    exact left.record
  · exact (left.causes .releaseFault fault).congr same.causes
  · exact left.raised.congr same.causes
  · rw [same.seq]
    exact left.shot
  · rw [same.seq]
    exact left.state
  · obtain ⟨work, others, pins, handoffs⟩ := alone unused
    have work' : FrontWork s u := checked.trans work
    rw [pump_of_served _ fun hn => work'.port.trans (hs.2 (work'.service.symm.trans hn))]
    refine ⟨others, keeps_settle s (work'.keeps_rest.restrict ?_)⟩
    simp [frontParts, Part.Same, pins, handoffs, State.checkDone]

end taken

end Sys2Proof.Machine

namespace Sys2Proof.Machine

/-! ### Results of a check that arrive (log 23) -/

variable {s t u x : State} {k : Fin 16} {h : Shot} {id : Word} {c : List Part}

theorem FrontWork.time (work : FrontWork s t) : t.clock = s.clock ∧ t.inReset = s.inReset ∧ t.pending = s.pending := by
  rw [work]
  exact ⟨rfl, rfl, rfl⟩

theorem FrontWork.due (work : FrontWork s t) : Part.due.Same s t := work.keeps_rest .due (by decide)

/-- An arrival that works on the front parts leaves the port alone. -/
theorem pump_arrived (hs : s.Awake) (work : FrontWork (arrival s) x) :
    pump (settle (arrival s) x) = settle (arrival s) x := by
  refine pump_of_served _ fun hn => ?_
  have service : x.develop.service = (arrival s).develop.service := work.service
  have port : x.path.port = (arrival s).path.port := work.port
  exact port.trans (arrival_served hs.2 (service.symm.trans hn))

section arrived
variable (hs : s.Awake) (hp : s.pending = []) (hu : step { s with handoffs := [] } = .next u)
include hs hp hu

/-- What a microsecond alone leads to, by which an arrival is measured. -/
theorem step_without_arrival : u = settle { s with handoffs := [] } (arrival s) := by
  have quiet := step_quiet (s := { s with handoffs := [] }) hp hs (by simp)
  rw [hu] at quiet
  injection quiet

/-- An arrival that works on the front parts keeps, of what the microsecond leads to, what it keeps of its own state. -/
theorem keeps_arrived (work : FrontWork (arrival s) x) (kept : Keeps c (arrival s) x) :
    Keeps c u (settle s (pump (settle (arrival s) x))) := by
  rw [step_without_arrival hs hp hu, pump_arrived hs work]
  exact keeps_settle_in_turn (fun _ => rfl) rfl rfl kept work.due

end arrived

/-- A shot that waits for its check still does when the result arrives. -/
theorem AwaitsCheck.arrival (w : AwaitsCheck h k s) : AwaitsCheck (tickShot h) k (arrival s) := by
  have phase : (Machine.arrival s).driver.phase = s.driver.phase :=
    congrArg (·.phase) (tick_driver (s := { s with handoffs := [] }))
  exact ⟨w.state, arrival_shot w.shot, w.checking, w.kind, w.released, (find_of_store rfl h.id).trans w.find,
    (congrArg Phase.driving phase).trans w.idle⟩

/-- A result that finds the cable present goes on with the shot. -/
theorem arrives_checkPassed (hs : s.Awake) (hu : step { s with handoffs := [] } = .next u) (w : AwaitsCheck h k s) :
    Arrives (.driver (some h.id) (.checkResult true)) s (GoesOn (tickShot h) k u) := by
  intro hp
  obtain ⟨work, goes, -, handoffs⟩ := w.arrival.goesOn rfl
  refine arrives hs.1 (fun t e ht _ he => ?_) hp
  have taken : t = takeCheck (tickShot h).id true (arrival s) := ht
  rw [← taken] at work goes handoffs
  rw [← ht] at he
  obtain ⟨clock, reset, pending⟩ := work.time
  refine ⟨handoffs, clock, reset, pending, ?_⟩
  have front : SameFront t e := by
    rw [he, pump_arrived hs work]
    exact (sameFront_settle _ t).trans (sameFront_settle s _)
  have still := step_without_arrival hs hp hu
  refine goes.carry ?_ ?_ ?_ ?_ (fun j => ?_) front fun c _ kept => ?_
  case refine_6 =>
    rw [he]
    exact keeps_arrived hs hp hu work kept
  all_goals rw [still]; rfl

/-- A result that finds the cable absent spoils the shot. -/
theorem arrives_checkFailed (hs : s.Awake) (hu : step { s with handoffs := [] } = .next u) (w : AwaitsCheck h k s)
    (exposing : (s.frame k).state = .exposing) : Arrives (.driver (some h.id) (.checkResult false)) s fun t =>
      SpoiledAs .noCable (s.clock + 1) (s.frame k) (t.frame k)
        ∧ t.req.causes.getLsbD Cause.shotSpoiled.position = true
        ∧ t.seq.shot = none ∧ t.seq.state = (if h.returnArmed then .armed else .idle)
        ∧ (NoUsers s h.id → SameBut k u t
          ∧ Keeps [.records, .store, .driver, .sequencer, .sync, .causes, .sent] u t) := by
  intro hp
  have failed : takeCheck h.id false (arrival s) = leaveSpoiled (tickShot h) .noCable .returning (arrival s) :=
    (takeCheck_eq w.arrival).trans (if_neg Bool.false_ne_true)
  have left := leaveSpoiled_returns (s := arrival s) (reason := .noCable) w.arrival.find exposing
  refine arrives hs.1 (fun t e ht o he => ?_) hp
  have taken : t = leaveSpoiled (tickShot h) .noCable .returning (arrival s) := ht.trans failed
  rw [← taken] at left
  rw [← ht] at he
  obtain ⟨handoffs, clock, reset, pending⟩ := left.rest
  refine ⟨handoffs, clock, reset, pending, ?_, left.raised.congr o.causes, ?_, ?_, fun unused => ?_⟩
  · rw [o.frame]
    exact left.record
  · rw [o.seq]
    exact left.shot
  · rw [o.seq]
    exact left.state
  · obtain ⟨work, others, pins, -⟩ :=
      leaveSpoiled_work (s := arrival s) (reason := .noCable) w.arrival.find exposing unused
    rw [← taken] at work others pins
    refine ⟨fun j hj => ?_, ?_⟩
    · rw [o.frame, others j hj, step_without_arrival hs hp hu]
      rfl
    · rw [he]
      refine keeps_arrived hs hp hu work (work.keeps_rest.restrict ?_)
      simp [frontParts, Part.Same, pins, handoffs]

/-- A result that no shot waits for leaves what a microsecond leaves. -/
theorem arrives_checkIgnored (hs : s.Awake) (hu : step { s with handoffs := [] } = .next u) {present : Bool}
    (elsewhere : s.seq.state ≠ .preparing ∨ ∀ h, s.seq.shot = some h → h.id ≠ id ∨ h.checking = false) :
    Arrives (.driver (some id) (.checkResult present)) s (Keeps [] u) := by
  intro hp
  have ignored : takeCheck id present (arrival s) = arrival s := by
    refine takeCheck_ignored (elsewhere.imp_right fun other x shot => ?_)
    obtain ⟨h, flying, rfl⟩ := Option.map_eq_some_iff.1 (show s.seq.shot.map tickShot = some x from shot)
    exact other h flying
  have same : FrontWork (arrival s) (arrival s) := rfl
  have unsent : (arrival s).sent = [] := rfl
  refine arrives hs.1 (fun t e ht _ he => ?_) hp
  have taken : takeMessage (.driver (some id) (.checkResult present)) (arrival s) = arrival s := ignored
  rw [taken] at ht he
  subst ht
  refine ⟨rfl, rfl, rfl, rfl, ?_⟩
  rw [he]
  refine keeps_arrived hs hp hu same (same.keeps_rest.restrict ?_)
  simp [frontParts, Part.Same, unsent]

end Sys2Proof.Machine

namespace Sys2Proof.Machine

/-- Settles O45: each check end is a report that is taken at once, handed on or arrives. -/
theorem checksSetTheCableState : Obligations.ChecksSetTheCableState := by
  unfold Obligations.ChecksSetTheCableState
  intro s hs locked
  refine ⟨fun ha => ⟨yields_checkRelease hs ha, yields_checkRelease_busy hs ha⟩, yields_clearFaults hs,
    fun current phase timer => ?_, fun id present u hu => ?_⟩
  · dsimp only
    refine ⟨fun unasked alone => ?_, fun p unasked pending => ?_, fun id p asked pending free => ?_,
      fun id n rest asked alone free lags => ?_, fun h k ready asked alone state shot checking kind find => ?_⟩
    · exact (yields_checkEnd_unasked hs phase timer (checkOver_alone alone) unasked).imp fun t ⟨driver, keeps⟩ =>
        ⟨driver.trans (Driver.checked_unasked unasked current), keeps⟩
    · exact yields_checkEnd_unasked hs phase timer (checkOver_pending phase pending) unasked
    · have ended := checkOver_pending (s := s.quiet) (current := current) phase pending
      exact ⟨fun prompt => yields_checkEnd_ignored hs phase timer ended asked ⟨free, prompt⟩,
        fun n rest => yields_checkEnd_handed hs phase timer ended asked free⟩
    · exact (yields_checkEnd_handed hs phase timer (checkOver_alone alone) asked free lags).imp
        fun t ⟨driver, causes, rest, handoffs, keeps⟩ => ⟨driver, handoffs, rest, causes, keeps⟩
    · have waits := AwaitsCheck.of_locked locked state shot checking kind find
      exact ⟨yields_checkEnd_goesOn hs phase timer ready asked alone waits,
        yields_checkEnd_spoils hs phase timer ready asked alone waits⟩
  · refine ⟨fun h k state shot named checking kind find => ?_, arrives_checkIgnored hs hu⟩
    subst named
    have waits := AwaitsCheck.of_locked locked state shot checking kind find
    exact ⟨fun passed => passed ▸ arrives_checkPassed hs hu waits,
      fun failed => failed ▸ arrives_checkFailed hs hu waits⟩

end Sys2Proof.Machine
